-- ==== Sys2Proof/Word.lean ====
section
/-! DEFINITION. The word types of the LS240: a character of a station port (R204) carries eight bits. -/

namespace Sys2Proof

/-- The eight data bits of one character on a station port (R204). -/
abbrev Byte := BitVec 8

/-- A length of time in ticks of 1/2 880 000 s: every duration of the spec (ms, 0.1 ms, character times at the
four bit rates of R204) is a whole number of them. -/
abbrev Ticks := Nat

end Sys2Proof
end

