-- ==== Sys2Proof/Syntax.lean ====
section
/-! DEFINITION. The commands the LS240 takes: one constructor for each row of `spec/opcode_table.json`, and the
operand types they carry. -/

namespace Sys2Proof

/-- The two station ports (R204): port 0 carries OPERATOR, port 1 TRAFFIC. -/
inductive Port | operator | traffic
deriving DecidableEq, Repr

/-- The two towers of the span (chapter 2.1 of the scope). -/
inductive Tower | a | b
deriving DecidableEq, Repr

/-- The warning gates W1 to W4 and the barriers B1, B2 (R89). -/
inductive Gate | w1 | w2 | w3 | w4 | b1 | b2
deriving DecidableEq, Repr

/-- The seven heads in the order of R111. -/
inductive Head | warnN | warnS | trafN | trafS | chanU | chanD | horn
deriving DecidableEq, Repr

/-- The three proving comparisons of a tower (R77). -/
inductive Proving | raiseAux | lowerAux | brake
deriving DecidableEq, Repr

/-- A frame as a receiver completed it (R205, R206): kind, request tag, payload, and the errors recorded against it. -/
structure Frame where
  kind : Byte
  tag : Byte
  payload : List Byte
  parityError : Bool
  framingError : Bool
  checkError : Bool
deriving DecidableEq, Repr

/-- One character as a receiver takes it, with its parity and framing errors (R204, R206). -/
structure RxChar where
  data : Byte
  parityError : Bool
  framingError : Bool
deriving DecidableEq, Repr

/-- The raw codes of one scan, channels 0 to 4 (R17). Channel 2's code is unused while the channel is disabled. -/
structure RawCodes where
  ch0 : BitVec 12
  ch1 : BitVec 12
  ch2 : BitVec 12
  ch3 : BitVec 12
  ch4 : BitVec 12
deriving DecidableEq, Repr

/-- The commands. A request command carries the port on which SP takes it; the request's fields stand in the frame
at the head of that port's receive buffer (R207). A timer command says that the timer it names expires. -/
inductive Instr
  | powerOnReset
  | resetLine
  | readStatus (port : Port)
  | readMeasurements (port : Port)
  | readFaults (port : Port)
  | readHolds (port : Port)
  | readPassage (port : Port)
  | findPassage (port : Port)
  | listPassages (port : Port)
  | filePassage (port : Port)
  | amendPassage (port : Port)
  | withdrawPassage (port : Port)
  | beginOpening (port : Port)
  | endOpening (port : Port)
  | closeRoad (port : Port)
  | reopenRoad (port : Port)
  | raiseSpan (port : Port)
  | lowerSpan (port : Port)
  | haltSpan (port : Port)
  | attend (port : Port)
  | placeHold (port : Port)
  | releaseHold (port : Port)
  | acknowledgeFaults (port : Port)
  | loadSetting (port : Port)
  | loadSettingItemAlone (port : Port)
  | commitSettings (port : Port)
  | restart (port : Port)
  | restartActs
  | unknownRequest (port : Port)
  | frameDropped (port : Port)
  | frameComplete (port : Port) (frame : Frame)
  | frameAbandoned (port : Port)
  | driverEnableRises (port : Port)
  | replyCompleted (port : Port)
  | replyAbandoned (port : Port)
  | samplingInstant (lines : BitVec 48) (lamps : BitVec 15)
  | anemometerPulse
  | windWindowEnd
  | windDelayEnd
  | supplyDelayExpiry
  | estopLoopOpens
  | estopLoopCloses
  | drivePeriodBoundary
  | scanCompletion (codes : RawCodes)
  | brakeTimerExpiry (tower : Tower)
  | reversalIntervalExpiry (tower : Tower)
  | lockTravelTimeout
  | seatTimeout
  | attendanceTimerExpiry
  | disagreementTimerExpiry (tower : Tower) (proving : Proving)
  | prewarnTimerExpiry
  | amberTimerExpiry
  | clearingTimerExpiry
  | extinguishTimerExpiry
  | gateTravelTimeout (gate : Gate)
  | settleTimerExpiry (gate : Gate)
  | budgetTick
  | budgetExhausted
  | stepTimerExpiry (head : Head)
  | hornGivesUp
  | provingPoint (head : Head)
  | passageClockTick
  | windowOpens (slot : Fin 16)
  | lapse (slot : Fin 16)
  | lingerEnd (slot : Fin 16)
  | holdClockTick
  | characterReceived (port : Port) (char : RxChar)
  | resetLineRises
  | carrierPeriodStart (tower : Tower)
deriving DecidableEq, Repr

end Sys2Proof
end

