-- ==== Sys2Proof/Decode.lean ====
section
/-! DEFINITION. The command that a word spells by the bits of `spec/opcode_table.json`. Every row of that table has an
empty field list and no fixed bits: no word spells a command. -/

namespace Sys2Proof

/-- The table gives no row any bits, so no word of any length spells a command. -/
def decodeTableWord (_nbits _w : Nat) : Option Instr := none

end Sys2Proof
end

