-- ==== Sys2Proof/Config.lean ====
section
/-! DEFINITION. The values that the spec leaves open, as constants without a body: nothing can evaluate them, so a
claim about the model holds whatever they are. The state's counter `State.free` indexes them. -/

namespace Sys2Proof.Config

/-- DESIGN CHOICE (log 1), safe. Which of several events that the spec gives no order comes first (R3, R33, R136,
R197; chapter 4.7 of the scope): the n-th such choice. -/
opaque order : Nat → Nat

/-- DESIGN CHOICE (log 2), safe. The levels of the input lines at a sampling instant that no command gives. -/
opaque lineSample : Nat → BitVec 48

/-- DESIGN CHOICE (log 2), safe. The levels of the lamp-sense lines at a sampling instant that no command gives. -/
opaque lampSample : Nat → BitVec 15

/-- DESIGN CHOICE (log 2), safe. The raw code of each channel in a scan that no command gives: the argument names
the scan and the channel. -/
opaque rawCode : Nat → Fin 5 → BitVec 12

end Sys2Proof.Config
end

