-- ==== Sys2Proof/Machine/Settings.lean ====
section
/-! DEFINITION. The settings of the Configuration Store (R213): the items with their ranges and cleared values, how a
value is carried in four characters, and the cross-checks that COMMIT SETTINGS makes (R215). -/

namespace Sys2Proof.Machine

/-! ### Numbers in characters (R219) -/

/-- The `k` characters of a number, most significant first (R219). -/
def beBytes : Nat → Nat → List Byte
  | 0, _ => []
  | k + 1, n => BitVec.ofNat 8 (n / 256 ^ k) :: beBytes k n

/-- The number that characters carry, most significant first (R219). -/
def beNat (l : List Byte) : Nat := l.foldl (fun a b => a * 256 + b.toNat) 0

/-- A signed number in `k` characters, two's complement (R219). -/
def signedBytes (k : Nat) (x : Int) : List Byte := beBytes k (x % (256 ^ k : Nat)).toNat

/-- The signed number that four characters carry, two's complement (R213, R219). -/
def signed32 (l : List Byte) : Int :=
  if beNat l < 2 ^ 31 then (beNat l : Int) else (beNat l : Int) - 2 ^ 32

/-- A flag character: the first named flag in the least significant bit (R219). -/
def flagChar : List Bool → Nat
  | [] => 0
  | b :: rest => (if b then 1 else 0) + 2 * flagChar rest

/-! ### Durations -/

/-- Milliseconds in ticks. -/
def msTicks (n : Int) : Ticks := 2880 * n.toNat

/-- Seconds in ticks. -/
def secTicks (n : Int) : Ticks := 2880000 * n.toNat

/-- The character time, 11 bit times (R204), in ticks. -/
def charTicks (rate : Nat) : Ticks := 11 * 2880000 / rate

/-! ### The settings set -/

/-- One step of the pattern table (R112): the lamp set, position 0 least significant, and the duration in 10 ms. -/
structure PatternStep where
  lamps : BitVec 3
  duration : Nat
deriving DecidableEq, Repr

/-- One pattern descriptor (R112). -/
structure Descriptor where
  base : Nat
  length : Nat
  modify : Nat
  passes : Nat
deriving DecidableEq, Repr

/-- A settings set (R213): items 1 to 52, the assignments (items 64 to 103), the polarities (128 to 175, true for
inverted), the pattern steps (256 to 319), the descriptors (320 to 335) and the aspect map (336 to 354). -/
structure Settings where
  num : Vector Int 52
  assign : Vector (Option (Fin 48)) 40
  inverted : Vector Bool 48
  steps : Vector PatternStep 64
  descrs : Vector Descriptor 16
  aspects : Vector (Fin 16) 19
deriving DecidableEq, Repr

/-- The range of a numeric item (R213): an interval or a list of choices. -/
inductive ItemRange
  | between (lo hi : Int)
  | oneOf (choices : List Int)
deriving DecidableEq, Repr

/-- Whether a value lies in a range. -/
def ItemRange.has : ItemRange → Int → Bool
  | .between lo hi, x => lo ≤ x && x ≤ hi
  | .oneOf l, x => l.contains x

/-- The range and the cleared value of items 1 to 52, in item order (R213's table). -/
def numItems : List (ItemRange × Int) :=
  [(.between 10 50, 20), (.between 1 20, 5), (.between 0 1, 1), (.between 2000 3800, 3100),
   (.between 0 4095, 400), (.between 0 4095, 3600), (.between 0 4095, 400), (.between 0 4095, 3600),
   (.between 2000 40000, 32000), (.between 1000 30000, 12000),
   (.between 0 4095, 300), (.between 0 4095, 3800),
   (.between (-5000) 20000, -500), (.between (-5000) 20000, 6500), (.between (-5000) 20000, 5500),
   (.between 200 1000, 800), (.between 10 200, 60), (.between 1 100, 20), (.between 1 100, 40),
   (.between 200 5000, 3000), (.between 20 1000, 300), (.between 5 100, 20),
   (.between 0 255, 8), (.between 0 300, 100), (.between 10 500, 50), (.between 20 1000, 150)] ++
  [(.between 200 5000, 1000), (.between 100 2000, 500), (.between 50 1000, 300),
   (.between 2 30, 10), (.between 5 120, 30), (.between 200 2000, 500),
   (.between 5 60, 10), (.between 2 10, 4), (.between 2 30, 5), (.between 5 60, 20), (.between 1 10, 2),
   (.between 2 30, 5), (.between 60 3600, 900), (.between 0 1800, 180),
   (.between 0 500, 100), (.between 0 600, 120),
   (.between 50 400, 180), (.between 5 100, 20), (.oneOf [1, 2, 5, 10], 5),
   (.between 1600 2200, 2000), (.between 20 300, 100), (.oneOf [20, 50, 100, 200], 50),
   (.between 1 255, 96), (.between 100 2000, 800), (.oneOf [9600, 19200, 38400, 57600], 38400), (.between 1 10, 2)]

/-- The range of a numeric item. -/
def numRange (i : Fin 52) : ItemRange := (numItems.getD i (.between 0 0, 0)).1

/-- The cleared settings set (R213, R112, R13). -/
def Settings.cleared : Settings where
  num := Vector.ofFn fun i => (numItems.getD i (.between 0 0, 0)).2
  assign := Vector.replicate 40 none
  inverted := Vector.replicate 48 false
  steps := Vector.replicate 64 { lamps := 0, duration := 1 }
  descrs := Vector.replicate 16 { base := 0, length := 1, modify := 0, passes := 0 }
  aspects := Vector.replicate 19 0

namespace Settings

/-! The numeric items by the spec's symbols (R213). -/

def tp (c : Settings) : Int := c.num[0]
def convTime (c : Settings) : Int := c.num[1]
def waterEnabled (c : Settings) : Bool := c.num[2] == 1
def qn (c : Settings) : Int := c.num[3]
def cseatA (c : Settings) : Int := c.num[4]
def ctopA (c : Settings) : Int := c.num[5]
def cseatB (c : Settings) : Int := c.num[6]
def ctopB (c : Settings) : Int := c.num[7]
def hfull (c : Settings) : Int := c.num[8]
def e0 (c : Settings) : Int := c.num[9]
def cw0 (c : Settings) : Int := c.num[10]
def cw1 (c : Settings) : Int := c.num[11]
def wlow (c : Settings) : Int := c.num[12]
def whigh (c : Settings) : Int := c.num[13]
def wdesign (c : Settings) : Int := c.num[14]
def vmax (c : Settings) : Int := c.num[15]
def vcreep (c : Settings) : Int := c.num[16]
def racc (c : Settings) : Int := c.num[17]
def rdec (c : Settings) : Int := c.num[18]
def zslow (c : Settings) : Int := c.num[19]
def zcreep (c : Settings) : Int := c.num[20]
def ztol (c : Settings) : Int := c.num[21]
def ktrim (c : Settings) : Int := c.num[22]
def tmax (c : Settings) : Int := c.num[23]
def salarm (c : Settings) : Int := c.num[24]
def strip (c : Settings) : Int := c.num[25]
def tdead (c : Settings) : Int := c.num[26]
def tbrk (c : Settings) : Int := c.num[27]
def tprove (c : Settings) : Int := c.num[28]
def lockTravel (c : Settings) : Int := c.num[29]
def seatTime (c : Settings) : Int := c.num[30]
def attendance (c : Settings) : Int := c.num[31]
def tprewarn (c : Settings) : Int := c.num[32]
def tamber (c : Settings) : Int := c.num[33]
def tclear (c : Settings) : Int := c.num[34]
def gateTime (c : Settings) : Int := c.num[35]
def settleTime (c : Settings) : Int := c.num[36]
def textinguish (c : Settings) : Int := c.num[37]
def bmax (c : Settings) : Int := c.num[38]
def jr (c : Settings) : Int := c.num[39]
def defaultMargin (c : Settings) : Int := c.num[40]
def lapseLinger (c : Settings) : Int := c.num[41]
def windLevel (c : Settings) : Int := c.num[42]
def windHyst (c : Settings) : Int := c.num[43]
def windDelay (c : Settings) : Int := c.num[44]
def supplyLevel (c : Settings) : Int := c.num[45]
def supplyHyst (c : Settings) : Int := c.num[46]
def supplyDelay (c : Settings) : Int := c.num[47]
def kw (c : Settings) : Int := c.num[48]
def ksup (c : Settings) : Int := c.num[49]
def bitRate (c : Settings) : Nat := (c.num[50]).toNat
def guard (c : Settings) : Nat := (c.num[51]).toNat

/-- The number n of conversions in a scan (R18). -/
def conversions (c : Settings) : Int := if c.waterEnabled then 5 else 4

end Settings

/-! ### Items (R213, R214) -/

/-- An item of the settings table (R213). -/
inductive Item
  | number (i : Fin 52)
  | assignment (f : Fin 40)
  | polarity (l : Fin 48)
  | step (i : Fin 64)
  | descriptor (i : Fin 16)
  | aspect (i : Fin 19)
deriving DecidableEq, Repr

/-- An index of a table of `k` items that starts at item `base`, as a number below `k`. -/
def itemIndex (n base k : Nat) : Option (Fin k) :=
  if n < base then none else if h : n - base < k then some ⟨n - base, h⟩ else none

/-- The item that a number names, or none (R213: an item number absent from the table is not an item). -/
def itemOf (n : Nat) : Option Item :=
  ((itemIndex n 1 52).map .number) <|> ((itemIndex n 64 40).map .assignment) <|> ((itemIndex n 128 48).map .polarity) <|>
  ((itemIndex n 256 64).map .step) <|> ((itemIndex n 320 16).map .descriptor) <|> ((itemIndex n 336 19).map .aspect)

/-- The descriptor that four characters carry, if every field is in the range of R112. -/
def descriptorOf (v : List Byte) : Option Descriptor :=
  let d : Descriptor :=
    { base := beNat (v.take 1), length := beNat ((v.drop 1).take 1), modify := beNat ((v.drop 2).take 1),
      passes := beNat ((v.drop 3).take 1) }
  if d.base ≤ 63 ∧ 1 ≤ d.length ∧ d.length ≤ 64 ∧ d.modify ≤ 63 ∧ d.passes ≤ 15 then some d else none

/-- The pattern step that the last two of four characters carry, if it is in its range (R112, R213).
DESIGN CHOICE (log 6): the first two characters are ignored. -/
def patternStepOf (v : List Byte) : Option PatternStep :=
  let lamps := beNat ((v.drop 2).take 1)
  let dur := beNat ((v.drop 3).take 1)
  if lamps < 8 ∧ 1 ≤ dur then some { lamps := BitVec.ofNat 3 lamps, duration := dur } else none

/-- The set with one item's value written, or none where the value lies outside the item's range (R214). -/
def writeItem (c : Settings) (i : Item) (v : List Byte) : Option Settings :=
  match i with
  | .number k => if (numRange k).has (signed32 v) then some { c with num := c.num.set k (signed32 v) } else none
  | .assignment f =>
    if signed32 v = 255 then some { c with assign := c.assign.set f none }
    else if h : 0 ≤ signed32 v ∧ (signed32 v).toNat < 48 then
      some { c with assign := c.assign.set f (some ⟨(signed32 v).toNat, h.2⟩) }
    else none
  | .polarity l =>
    if signed32 v = 0 then some { c with inverted := c.inverted.set l false }
    else if signed32 v = 1 then some { c with inverted := c.inverted.set l true } else none
  | .step k => (patternStepOf v).map fun p => { c with steps := c.steps.set k p }
  | .descriptor k => (descriptorOf v).map fun d => { c with descrs := c.descrs.set k d }
  | .aspect k =>
    if h : 0 ≤ signed32 v ∧ (signed32 v).toNat < 16 then
      some { c with aspects := c.aspects.set k ⟨(signed32 v).toNat, h.2⟩ }
    else none

/-- The four characters that carry an item's value (R213). -/
def showItem (c : Settings) (i : Item) : List Byte :=
  match i with
  | .number k => signedBytes 4 c.num[k]
  | .assignment f => beBytes 4 (match c.assign[f] with | none => 255 | some l => l.val)
  | .polarity l => beBytes 4 (if c.inverted[l] then 1 else 0)
  | .step k => beBytes 2 0 ++ beBytes 1 (c.steps[k]).lamps.toNat ++ beBytes 1 (c.steps[k]).duration
  | .descriptor k =>
    beBytes 1 (c.descrs[k]).base ++ beBytes 1 (c.descrs[k]).length ++ beBytes 1 (c.descrs[k]).modify ++
      beBytes 1 (c.descrs[k]).passes
  | .aspect k => beBytes 4 (c.aspects[k]).val

/-! ### The cross-checks of COMMIT SETTINGS (R215) -/

/-- A SPEED function may stand on lines 0 to 7 or nowhere (R12). -/
def speedAssignOk (c : Settings) (f : Fin 40) : Bool :=
  match c.assign[f] with
  | none => true
  | some l => l.val ≤ 7

/-- R113's checks on one descriptor. -/
def descriptorOk (d : Descriptor) : Bool :=
  d.base + d.length ≤ 64 &&
    (if d.length ≥ 2 then 1 ≤ d.modify && d.modify ≤ d.length - 1 else d.modify == 0)

/-- R113's passes check on one map entry: HORN ADMIT and HORN DANGER (entries 17 and 18) name a descriptor that gives
up, every other entry an endless one. -/
def mapEntryOk (c : Settings) (i : Fin 19) : Bool :=
  let p := (c.descrs[c.aspects[i]]).passes
  if 17 ≤ i.val then 1 ≤ p && p ≤ 15 else p == 0

/-- Every cross-check of R215's table: the item it names and whether it passes, in item order. -/
def commitChecks (c : Settings) : List (Nat × Bool) :=
  [(2, decide (c.conversions * c.convTime ≤ 5 * c.tp)),
   (6, decide (c.ctopA - c.cseatA ≥ 1000)), (8, decide (c.ctopB - c.cseatB ≥ 1000)),
   (12, decide (c.cw1 - c.cw0 ≥ 500)),
   (14, decide (c.whigh > c.wlow)), (15, decide (c.wlow ≤ c.wdesign ∧ c.wdesign ≤ c.whigh)),
   (19, decide (c.vcreep ≤ c.rdec)),
   (20, decide (c.zcreep < c.zslow)), (21, decide (c.ztol < c.zcreep)),
   (26, decide (c.strip > c.salarm)), (34, decide (c.tamber ≤ c.tprewarn)), (40, decide (c.jr < c.bmax)),
   (44, decide (c.windHyst < c.windLevel)),
   (67, speedAssignOk c 3), (71, speedAssignOk c 7)] ++
  (List.finRange 16).map (fun i => (320 + i.val, descriptorOk c.descrs[i])) ++
  (List.finRange 19).map (fun i => (336 + i.val, mapEntryOk c i))

/-- The lowest item number that a failed check names, or none when every check passes (R215). -/
def commitFailure (c : Settings) : Option Nat := ((commitChecks c).find? (fun x => !x.2)).map (·.1)

end Sys2Proof.Machine
end

