-- ==== Sys2Proof/Machine/Types.lean ====
section
/-! DEFINITION. The data types of the blocks' state, and each block's values after a power-on reset and the reset
line. The constructors of every enumeration stand in the order of the rule that defines it, so that its code in a
reply (R219) is its position. -/

namespace Sys2Proof.Machine

/-- Two like things, one for each tower. -/
structure PerTower (α : Type) where
  a : α
  b : α
deriving DecidableEq, Repr

def PerTower.get {α : Type} (p : PerTower α) : Tower → α
  | .a => p.a
  | .b => p.b

def PerTower.set {α : Type} (p : PerTower α) (t : Tower) (x : α) : PerTower α :=
  match t with
  | .a => { p with a := x }
  | .b => { p with b := x }

/-- Two like things, one for each station port. -/
structure PerPort (α : Type) where
  operator : α
  traffic : α
deriving DecidableEq, Repr

def PerPort.get {α : Type} (p : PerPort α) : Port → α
  | .operator => p.operator
  | .traffic => p.traffic

def PerPort.set {α : Type} (p : PerPort α) (t : Port) (x : α) : PerPort α :=
  match t with
  | .operator => { p with operator := x }
  | .traffic => { p with traffic := x }

/-- Six like things, one for each gate and barrier. -/
structure PerGate (α : Type) where
  w1 : α
  w2 : α
  w3 : α
  w4 : α
  b1 : α
  b2 : α
deriving DecidableEq, Repr

def PerGate.get {α : Type} (p : PerGate α) : Gate → α
  | .w1 => p.w1
  | .w2 => p.w2
  | .w3 => p.w3
  | .w4 => p.w4
  | .b1 => p.b1
  | .b2 => p.b2

def PerGate.set {α : Type} (p : PerGate α) (g : Gate) (x : α) : PerGate α :=
  match g with
  | .w1 => { p with w1 := x }
  | .w2 => { p with w2 := x }
  | .w3 => { p with w3 := x }
  | .w4 => { p with w4 := x }
  | .b1 => { p with b1 := x }
  | .b2 => { p with b2 := x }

/-- One function applied to all six. -/
def PerGate.mapAll {α : Type} (f : α → α) (p : PerGate α) : PerGate α :=
  { w1 := f p.w1, w2 := f p.w2, w3 := f p.w3, w4 := f p.w4, b1 := f p.b1, b2 := f p.b2 }

def Gate.all : List Gate := [.w1, .w2, .w3, .w4, .b1, .b2]

/-- Seven like things, one for each head. -/
structure PerHead (α : Type) where
  warnN : α
  warnS : α
  trafN : α
  trafS : α
  chanU : α
  chanD : α
  horn : α
deriving DecidableEq, Repr

def PerHead.get {α : Type} (p : PerHead α) : Head → α
  | .warnN => p.warnN
  | .warnS => p.warnS
  | .trafN => p.trafN
  | .trafS => p.trafS
  | .chanU => p.chanU
  | .chanD => p.chanD
  | .horn => p.horn

def PerHead.set {α : Type} (p : PerHead α) (h : Head) (x : α) : PerHead α :=
  match h with
  | .warnN => { p with warnN := x }
  | .warnS => { p with warnS := x }
  | .trafN => { p with trafN := x }
  | .trafS => { p with trafS := x }
  | .chanU => { p with chanU := x }
  | .chanD => { p with chanD := x }
  | .horn => { p with horn := x }

def Head.all : List Head := [.warnN, .warnS, .trafN, .trafS, .chanU, .chanD, .horn]

/-- A timer: stopped, or running with the time that remains. -/
abbrev Timer := Option Ticks

/-- A handle (chapter 4.3 of the scope): a slot and a generation, 0 to 255. -/
structure Handle (n : Nat) where
  slot : Fin n
  gen : Nat
deriving DecidableEq, Repr

/-! ### Configuration Store -/

/-- The configuration state (R216). -/
inductive ConfigState | unconfigured | configured
deriving DecidableEq, Repr

/-- The Configuration Store, with what holds the part in reset (R217): the external reset line low, and the core supply below
its threshold. -/
structure Cs where
  state : ConfigState
  pendingSet : Settings
  active : Settings
  resetLow : Bool
  supplyLow : Bool
deriving DecidableEq, Repr

/-- R214, R217: both sets hold the cleared values; UNCONFIGURED. -/
def Cs.reset : Cs :=
  { state := .unconfigured, pendingSet := Settings.cleared, active := Settings.cleared, resetLow := false,
    supplyLow := false }

/-- The part is held in reset: the reset line is low, or the core supply is below its threshold (R217). -/
def Cs.held (c : Cs) : Bool := c.resetLow || c.supplyLow

/-! ### Input Qualifier -/

/-- The Input Qualifier (R2, R5, R6, R7). Every filtered line is sampled at the same instants, so the histories are
kept as up to three columns of 48 samples, newest last. A bit is true for the energised level. -/
structure Iq where
  samples : List (BitVec 48)
  qualified : Option (BitVec 48)
  sensed : Option (BitVec 15)
  anemometer : Nat
  samplingTimer : Timer
  windowTimer : Timer
deriving DecidableEq, Repr

/-- R5: empty histories, no level, no sample, the counter at 0, no clock running. -/
def Iq.reset : Iq :=
  { samples := [], qualified := none, sensed := none, anemometer := 0, samplingTimer := none, windowTimer := none }

/-! ### Output Matrix -/

/-- The duties of one SPEED function (R12): staged, live, and the duty in force in its current carrier period. -/
structure Speed where
  staged : Nat
  live : Nat
  carrier : Nat
  carrierTimer : Timer
deriving DecidableEq, Repr

/-- The Output Matrix (R8 to R16). `inverted` is the polarity in force of each line; `latch` the protection latch;
`loopClosed` the level of the E-stop loop terminal. -/
structure Om where
  winner : Vector (Option (Fin 40)) 48
  displaced : List (Fin 40)
  inverted : Vector Bool 48
  command : Vector Bool 40
  speed : PerTower Speed
  latch : Bool
  loopClosed : Bool
deriving DecidableEq, Repr

def Speed.reset : Speed := { staged := 0, live := 0, carrier := 0, carrierTimer := none }

/-- R13, R16. DESIGN CHOICE (log 3): the loop terminal is closed. -/
def Om.reset : Om :=
  { winner := Vector.replicate 48 none, displaced := [], inverted := Vector.replicate 48 false,
    command := Vector.replicate 40 false, speed := { a := Speed.reset, b := Speed.reset }, latch := false,
    loopClosed := true }

/-! ### Measurement Unit -/

/-- The channel states (R24). -/
inductive ChannelState | invalid | priming | valid | faulted
deriving DecidableEq, Repr

/-- One channel record (R21). Channel 3 never has a corrected code. -/
structure Channel where
  state : ChannelState
  raw : Option Nat
  corrected : Option Nat
  held : Option Nat
deriving DecidableEq, Repr

/-- An emptied channel record (R26, R35). -/
def Channel.empty : Channel := { state := .invalid, raw := none, corrected := none, held := none }

/-- Five like things, one for each analog channel. -/
structure PerChannel (α : Type) where
  c0 : α
  c1 : α
  c2 : α
  c3 : α
  c4 : α
deriving DecidableEq, Repr

def PerChannel.toList {α : Type} (p : PerChannel α) : List α := [p.c0, p.c1, p.c2, p.c3, p.c4]

/-- The derived quantities that a set carries while the heights are available (R28, R29), all in mm but the last. -/
structure Heights where
  hA : Int
  hB : Int
  hs : Int
  skew : Int
  clearanceMm : Int
  clearanceCm : Int
deriving DecidableEq, Repr

/-- What a set shows of one channel (R28). -/
structure SetChannel where
  state : ChannelState
  raw : Option Nat
  held : Option Nat
deriving DecidableEq, Repr

/-- A measurement set (R28). The supply code is channel 4's held value with its state (R31). -/
structure MeasSet where
  seq : Nat
  channels : PerChannel SetChannel
  waterEnabled : Bool
  heights : Option Heights
  water : Int
  measured : Bool
deriving DecidableEq, Repr

/-- The Measurement Unit (R17 to R36). `scan` holds the settings with which the scan in progress started (R18);
`waterChanged`: a commit since the last start of a scan has changed the water channel enable (R26). -/
structure Mu where
  channels : PerChannel Channel
  scan : Option Settings
  scanTimer : Timer
  set : Option MeasSet
  seq : Nat
  waterChanged : Bool
deriving DecidableEq, Repr

/-- R35. -/
def Mu.reset : Mu :=
  { channels := { c0 := .empty, c1 := .empty, c2 := .empty, c3 := .empty, c4 := .empty }, scan := none,
    scanTimer := none, set := none, seq := 0, waterChanged := false }

/-! ### Span Motion Controller -/

/-- The motion states in the order of R57. -/
inductive Motion
  | initial | seatedLocked | seated | unlocking | raising | holding | lowering | seating | locking | halted | tripped
deriving DecidableEq, Repr

/-- The stop kinds (chapter 4). -/
inductive StopKind | none | arrival | halt | quick
deriving DecidableEq, Repr

/-- The tower phases in the order of R59. -/
inductive Phase | atRest | waitingReversal | releasingBrake | running | rampingDown | settingBrake
deriving DecidableEq, Repr

/-- The directions a reversal record may block (R60). -/
inductive Blocked | raise | lower | both
deriving DecidableEq, Repr

/-- A running reversal record (R60). -/
structure Reversal where
  blocked : Blocked
  remaining : Ticks
deriving DecidableEq, Repr

/-- One proving comparison (R77): agreeing, disagreeing with its disagreement timer running, or still disagreeing
after that timer has expired. -/
inductive Comparison
  | agrees
  | disagrees (remaining : Ticks)
  | failed
deriving DecidableEq, Repr

/-- What SMC holds for one tower. -/
structure TowerRec where
  phase : Phase
  brakeTimer : Timer
  reversal : Option Reversal
  seated : Bool
  raiseCmp : Comparison
  lowerCmp : Comparison
  brakeCmp : Comparison
deriving DecidableEq, Repr

/-- The attendance timer (R70): stopped, standing at the full interval, or counting. -/
inductive AttendanceTimer
  | stopped
  | standing
  | counting (remaining : Ticks)
deriving DecidableEq, Repr

/-- The Span Motion Controller. `out` is the common output (R48), `heightOver` the height part of OVERTRAVEL (R78). -/
structure Smc where
  motion : Motion
  stop : StopKind
  target : Option Nat
  towers : PerTower TowerRec
  lockTimer : Timer
  seatTimer : Timer
  attendance : AttendanceTimer
  periodTimer : Timer
  out : Nat
  skewWarning : Bool
  heightOver : Bool
deriving DecidableEq, Repr

def TowerRec.reset : TowerRec :=
  { phase := .atRest, brakeTimer := none, reversal := none, seated := false, raiseCmp := .agrees, lowerCmp := .agrees,
    brakeCmp := .agrees }

/-- R83, R55, R78. -/
def Smc.reset : Smc :=
  { motion := .initial, stop := .none, target := none, towers := { a := TowerRec.reset, b := TowerRec.reset },
    lockTimer := none, seatTimer := none, attendance := .stopped, periodTimer := none, out := 0, skewWarning := false,
    heightOver := false }

/-! ### Pattern Generator -/

/-- The aspects of all heads (R111). -/
inductive Aspect
  | dark | flash | green | amber | red | stop | standby | proceed | silent | admitHorn | danger
deriving DecidableEq, Repr

/-- The run record of one head (chapter 6). `proving` is the time to the step's proving point, none when it has passed
or the step has none (R119). -/
structure RunRec where
  running : Option Aspect
  pending : Option Aspect
  index : Nat
  pass : Nat
  stepTimer : Timer
  proving : Timer
deriving DecidableEq, Repr

/-- The two miss counts of a lamp or the horn (R120), each 0 to 3. -/
structure LampRec where
  litMiss : Nat
  darkMiss : Nat
deriving DecidableEq, Repr

/-- The Pattern Generator. Lamp i is the one of output function 24 + i (R7, R111); 14 is the horn. -/
structure Pg where
  heads : PerHead RunRec
  lamps : Vector LampRec 15
  impaired : PerHead Bool
deriving DecidableEq, Repr

def RunRec.reset : RunRec :=
  { running := none, pending := none, index := 0, pass := 0, stepTimer := none, proving := none }

/-- R125. -/
def Pg.reset : Pg :=
  { heads := { warnN := .reset, warnS := .reset, trafN := .reset, trafS := .reset, chanU := .reset, chanD := .reset,
               horn := .reset },
    lamps := Vector.replicate 15 { litMiss := 0, darkMiss := 0 },
    impaired := { warnN := false, warnS := false, trafN := false, trafS := false, chanU := false, chanD := false,
                  horn := false } }

/-! ### Road Closure Sequencer -/

/-- The road states in the order of R85. -/
inductive Road
  | isOpen | prewarn | entryLowering | clearing | exitLowering | barrierLowering | sealed | barrierRaising
  | gateRaising | extinguish | recovery
deriving DecidableEq, Repr

/-- A gate's command (R89). -/
inductive GateCmd | none | down | up
deriving DecidableEq, Repr

/-- A gate's position (R89). -/
inductive GatePos | up | down | moving | unknown
deriving DecidableEq, Repr

/-- A timer that keeps a mark when it has expired before its effect could be taken (R94, R96). -/
inductive MarkTimer
  | stopped
  | running (remaining : Ticks)
  | expired
deriving DecidableEq, Repr

/-- A gate record (R89) with the settle timer of a warning gate (R96). -/
structure GateRec where
  cmd : GateCmd
  pos : GatePos
  obstructed : Bool
  travel : Timer
  settle : MarkTimer
deriving DecidableEq, Repr

/-- The raising phase (R99). -/
inductive RaisingPhase | exit | entry
deriving DecidableEq, Repr

/-- The Road Closure Sequencer. The suspended flag is the disjunction of the three causes (R102). -/
structure Rcs where
  road : Road
  gates : PerGate GateRec
  prewarn : Timer
  amber : Timer
  clearing : MarkTimer
  extinguish : Timer
  causeGate : Bool
  causeLoop : Bool
  causeSupply : Bool
  holding : Bool
  waitingHeads : Bool
  phase : RaisingPhase
  budget : Nat
  budgetTimer : Timer
  warnAspect : Aspect
  trafAspect : Aspect
deriving DecidableEq, Repr

def GateRec.reset : GateRec :=
  { cmd := .none, pos := .unknown, obstructed := false, travel := none, settle := .stopped }

/-- R108; the aspects are R85's for RECOVERY. -/
def Rcs.reset : Rcs :=
  { road := .recovery,
    gates := { w1 := .reset, w2 := .reset, w3 := .reset, w4 := .reset, b1 := .reset, b2 := .reset },
    prewarn := none, amber := none, clearing := .stopped, extinguish := none, causeGate := false, causeLoop := false,
    causeSupply := false, holding := false, waitingHeads := false, phase := .exit, budget := 0, budgetTimer := none,
    warnAspect := .flash, trafAspect := .red }

/-! ### Passage and Admission Unit -/

/-- A passage's direction (R128). -/
inductive Dir | up | down
deriving DecidableEq, Repr

/-- A passage's class in rank order (R128). -/
inductive Class | emergency | commercial | routine
deriving DecidableEq, Repr

/-- A record's state (R128, R132). -/
inductive PassState | filed | grouped | admitted | transiting | lapsed
deriving DecidableEq, Repr

/-- A passage record (R128). The handle is the slot with the slot's current generation. -/
structure Passage where
  tag : Nat
  filer : Port
  dir : Dir
  cls : Class
  airDraft : Nat
  margin : Option Nat
  wait : Nat
  expiry : Option Nat
  state : PassState
  deferred : Bool
  unreachable : Bool
  lift : Option Nat
  linger : Option Nat
deriving DecidableEq, Repr

/-- A slot of a table: its current generation and a record or nothing (R129, R177). -/
structure Slot (α : Type) where
  gen : Nat
  record : Option α
deriving DecidableEq, Repr

/-- The opening states (R152). -/
inductive OpeningState | none | gathered | admitting | closingChannel
deriving DecidableEq, Repr

/-- The opening record (R152). -/
structure Opening where
  state : OpeningState
  members : List (Handle 16)
  target : Option Nat
  active : Option Dir
  queueUp : List (Handle 16)
  queueDown : List (Handle 16)
deriving DecidableEq, Repr

/-- No opening (R152, R175). -/
def Opening.absent : Opening :=
  { state := .none, members := [], target := none, active := none, queueUp := [], queueDown := [] }

/-- The Passage and Admission Unit (chapters 7 and 8). `clearanceLow` and `intrusion` are the conditions it reports;
`lastClearance` is the clearance_cm of the latest set that carried one (R163). -/
structure Pau where
  slots : Vector (Slot Passage) 16
  queue : List (Handle 16)
  clock : Timer
  opening : Opening
  decidedU : Aspect
  decidedD : Aspect
  clearanceLow : Bool
  intrusion : Bool
  lastClearance : Option Int
deriving DecidableEq, Repr

/-- R149, R175. -/
def Pau.reset : Pau :=
  { slots := Vector.replicate 16 { gen := 0, record := none }, queue := [], clock := none, opening := Opening.absent,
    decidedU := .stop, decidedD := .stop, clearanceLow := false, intrusion := false, lastClearance := none }

/-! ### Hold Table -/

/-- The owners of holds (R176). -/
inductive Owner | operator | traffic | panel | maintenance
deriving DecidableEq, Repr

/-- The kinds of hold (R176). -/
inductive HoldKind | noRaise | noLower | noMotion | keepClosed | marineStop
deriving DecidableEq, Repr

/-- A hold record (R176). -/
structure Hold where
  owner : Owner
  kind : HoldKind
  reason : Nat
  age : Nat
deriving DecidableEq, Repr

/-- The Hold Table (R177, R178, R182). -/
structure Ht where
  slots : Vector (Slot Hold) 12
  pointer : Nat
  clock : Timer
deriving DecidableEq, Repr

/-- R187. -/
def Ht.reset : Ht := { slots := Vector.replicate 12 { gen := 0, record := none }, pointer := 4, clock := none }

/-! ### Monitors and Fault Set -/

/-- The monitor states (R192). -/
inductive MonitorState | normal | alertPending | alert | clearPending
deriving DecidableEq, Repr

/-- A threshold monitor: its state and its delay, in wind values left for WIND and in ticks for SUPPLY (R193).
`latestBack`: the latest value was back, under the level and hysteresis with which it was taken (R192, R203). -/
structure Monitor where
  state : MonitorState
  delay : Option Nat
  latestBack : Bool
deriving DecidableEq, Repr

/-- The four flags kept for one station (R195). -/
structure StationFlags where
  windRise : Bool
  windFall : Bool
  supplyRise : Bool
  supplyFall : Bool
deriving DecidableEq, Repr

/-- The fault values (R197). -/
inductive FaultValue | clear | active | latched
deriving DecidableEq, Repr

/-- The Monitors and Fault Set (chapter 10). The summary alarm command is output function 39's (R200). -/
structure Mfs where
  windows : List Nat
  windSpeed : Option Nat
  supplyValue : Option Nat
  wind : Monitor
  supply : Monitor
  flags : PerPort StationFlags
  faults : Vector FaultValue 37
  firstTrip : Option (Fin 37)
deriving DecidableEq, Repr

def Monitor.reset : Monitor := { state := .normal, delay := none, latestBack := false }

def StationFlags.clear : StationFlags :=
  { windRise := false, windFall := false, supplyRise := false, supplyFall := false }

/-- R202. -/
def Mfs.reset : Mfs :=
  { windows := [], windSpeed := none, supplyValue := none, wind := .reset, supply := .reset,
    flags := { operator := .clear, traffic := .clear }, faults := Vector.replicate 37 .clear, firstTrip := none }

/-! ### Station Ports -/

/-- The status codes in the order of their values (R209). -/
inductive Status
  | ok | authority | unknownRequest | badArgument | unknownHandle | unknownTag | tableFull | duplicateTag | unreachable
  | notNow | unconfigured | commitFailed
deriving DecidableEq, Repr

/-- A reply held by a transmitter (R211). `clearsOverrun`: it carries the OVERRUN flag, and its completion clears it.
`commits`: it answers a successful COMMIT SETTINGS (R204). `restarts`: it answers an accepted RESTART (R218). -/
structure Reply where
  kind : Byte
  tag : Byte
  payload : List Byte
  clearsOverrun : Bool
  commits : Bool
  restarts : Bool
deriving DecidableEq, Repr

/-- A port's transmitter (R211): idle, waiting to raise the driver, or sending with the driver raised; `readBack`
counts the characters already read back (R212). -/
inductive Transmitter
  | idle
  | waiting (reply : Reply) (remaining : Ticks)
  | sending (reply : Reply) (readBack : Nat) (remaining : Ticks)
deriving DecidableEq, Repr

/-- A port's receiver (R206): hunting, or in a frame with the characters after the start character. -/
inductive Receiver
  | hunting
  | inFrame (chars : List Byte) (parityError framingError : Bool) (gap : Ticks)
deriving DecidableEq, Repr

/-- A buffered frame with the time since its last stop bit, from which the turnaround guard is measured (R211). -/
structure Buffered where
  frame : Frame
  age : Ticks
deriving DecidableEq, Repr

/-- One station port (chapter 11). `rateDue`: the bit rate that the port takes when its transmitter
is idle, where a commit whose reply has ended has brought one (R204). -/
structure PortRec where
  rx : Receiver
  buffer : List Buffered
  tx : Transmitter
  overrun : Bool
  bitRate : Nat
  rateDue : Option Nat
deriving DecidableEq, Repr

/-- R217. -/
def PortRec.reset : PortRec :=
  { rx := .hunting, buffer := [], tx := .idle, overrun := false, bitRate := 38400, rateDue := none }

end Sys2Proof.Machine
end

