-- ==== Sys2Proof/Machine/State.lean ====
section
/-! DEFINITION. The state of the LS240: all that the spec gives the part, as plain data, and its value after a
power-on reset. -/

namespace Sys2Proof.Machine

/-- Why the machine would stop with a fault. The spec gives the part no fault that stops it: the 37 faults of R196
are values of its state, and no command ends in a machine fault. So this type has no constructor (safe: nothing is
claimed of a stop that the part does not make). -/
inductive Fault
deriving DecidableEq, Repr

/-- Why a command would be refused. -/
inductive Refusal
  /-- Raised by `exec` alone, for a command that has no meaning yet; safe. Every command has one. -/
  | notModelled (mnemonic : String)
deriving DecidableEq, Repr

/-- The state. `pending` is the queue of the commands that wait, first in, first out; `free` counts the free values
of `Config` that have been used (log 4). The other fields are the state of the part's blocks (3.1 of the scope). -/
structure State where
  pending : List Instr
  free : Nat
  cs : Cs
  iq : Iq
  om : Om
  mu : Mu
  smc : Smc
  rcs : Rcs
  pg : Pg
  pau : Pau
  ht : Ht
  mfs : Mfs
  sp : PerPort PortRec
deriving DecidableEq, Repr

/-- The part right after a power-on reset (R217 and the reset rule of every chapter). -/
def State.reset : State :=
  { pending := [], free := 0, cs := Cs.reset, iq := Iq.reset, om := Om.reset, mu := Mu.reset, smc := Smc.reset,
    rcs := Rcs.reset, pg := Pg.reset, pau := Pau.reset, ht := Ht.reset, mfs := Mfs.reset,
    sp := { operator := PortRec.reset, traffic := PortRec.reset } }

/-! One update function for each block: a block's state changes through these alone. -/

def State.onCs (s : State) (f : Cs → Cs) : State := { s with cs := f s.cs }
def State.onIq (s : State) (f : Iq → Iq) : State := { s with iq := f s.iq }
def State.onOm (s : State) (f : Om → Om) : State := { s with om := f s.om }
def State.onMu (s : State) (f : Mu → Mu) : State := { s with mu := f s.mu }
def State.onSmc (s : State) (f : Smc → Smc) : State := { s with smc := f s.smc }
def State.onRcs (s : State) (f : Rcs → Rcs) : State := { s with rcs := f s.rcs }
def State.onPg (s : State) (f : Pg → Pg) : State := { s with pg := f s.pg }
def State.onPau (s : State) (f : Pau → Pau) : State := { s with pau := f s.pau }
def State.onHt (s : State) (f : Ht → Ht) : State := { s with ht := f s.ht }
def State.onMfs (s : State) (f : Mfs → Mfs) : State := { s with mfs := f s.mfs }

/-- An update of one port. -/
def State.onPort (s : State) (p : Port) (f : PortRec → PortRec) : State := { s with sp := s.sp.set p (f (s.sp.get p)) }

end Sys2Proof.Machine
end

