-- ==== Sys2Proof/Machine/Ops.lean ====
section
/-! DEFINITION. The operations that several blocks share: choices that the spec leaves free, the input levels, the
Output Matrix (chapter 1) and the fault values (chapter 10). -/

namespace Sys2Proof.Machine

/-! ### Free orders (log 1) -/

/-- The elements of a list in a free order: each next one is chosen by `Config.order`. Also the next free index. -/
def freeOrder {α : Type} : Nat → Nat → List α → List α × Nat
  | 0, k, l => (l, k)
  | _ + 1, k, [] => ([], k)
  | _ + 1, k, [x] => ([x], k)
  | n + 1, k, l =>
    let i := Config.order k % l.length
    let r := freeOrder n (k + 1) (l.eraseIdx i)
    ((l.drop i).take 1 ++ r.1, r.2)

/-- Take each element of a list in a free order. A list of at most one element has one order. -/
def State.inAnyOrder {α : Type} (s : State) (l : List α) (f : State → α → State) : State :=
  let r := freeOrder l.length s.free l
  r.1.foldl f { s with free := r.2 }

/-! ### Timers -/

/-- Start a timer. -/
def startTimer (t : Ticks) : Timer := some t

/-! ### Reading the state -/

/-- The part is CONFIGURED (R216). -/
def State.configured (s : State) : Bool := s.cs.state = .configured

/-- The active settings. -/
def State.act (s : State) : Settings := s.cs.active

/-- The qualified level of an input line, true for energised; de-energised before qualification complete (1.1). -/
def State.line (s : State) (l : Fin 48) : Bool :=
  match s.iq.qualified with
  | none => false
  | some q => q.getLsb l

/-- Qualification complete has been reached (R4). -/
def State.isQualified (s : State) : Bool := s.iq.qualified.isSome

/-- The sensed level of a lamp-sense line; no sample reads as no current (R7). -/
def State.senses (s : State) (i : Fin 15) : Bool :=
  match s.iq.sensed with
  | none => false
  | some q => q.getLsb i

/-- The key is in LOCAL (line 36, R1). -/
def State.isLocal (s : State) : Bool := s.line 36

/-- A tower's line: line 1 to 5 for tower A, the same five lines further for tower B (R1). -/
def towerLine (t : Tower) (k : Fin 5) : Fin 48 :=
  match t with
  | .a => ⟨1 + k.val, by omega⟩
  | .b => ⟨6 + k.val, by omega⟩

/-- A tower's output function: RAISE 0, LOWER 1, BRAKE_RELEASE 2, SPEED 3, with tower B's four further on (R8). -/
def towerFn (t : Tower) (k : Fin 4) : Fin 40 :=
  match t with
  | .a => ⟨k.val, by omega⟩
  | .b => ⟨4 + k.val, by omega⟩

/-- A gate's index, 0 to 5. -/
def gateIndex : Gate → Fin 6
  | .w1 => 0 | .w2 => 1 | .w3 => 2 | .w4 => 3 | .b1 => 4 | .b2 => 5

/-- A gate's up-proven line (R1); its down-proven line is the next. -/
def gateUpLine (g : Gate) : Fin 48 := ⟨15 + 2 * (gateIndex g).val, by omega⟩
def gateDownLine (g : Gate) : Fin 48 := ⟨16 + 2 * (gateIndex g).val, by omega⟩

/-- A gate's DOWN function (R8); its UP function is the next. -/
def gateDownFn (g : Gate) : Fin 40 := ⟨12 + 2 * (gateIndex g).val, by omega⟩
def gateUpFn (g : Gate) : Fin 40 := ⟨13 + 2 * (gateIndex g).val, by omega⟩

/-- A gate's GATE fault (R196). -/
def gateFault (g : Gate) : Fin 37 := ⟨12 + (gateIndex g).val, by omega⟩

/-- A deck loop is occupied: line 31 or 32 de-energised (R1). -/
def State.deckOccupied (s : State) : Bool := !(s.line 31) || !(s.line 32)

/-- Both beams are clear (lines 33 and 34). -/
def State.beamsClear (s : State) : Bool := s.line 33 && s.line 34

/-- A monitor is in ALERT as the other blocks mean it (R194). -/
def Monitor.inAlert (m : Monitor) : Bool := m.state = .alert || m.state = .clearPending

def State.windAlert (s : State) : Bool := s.mfs.wind.inAlert
def State.supplyAlert (s : State) : Bool := s.mfs.supply.inAlert

/-- A live hold of the kind exists (R185). -/
def State.hasHold (s : State) (k : HoldKind) : Bool :=
  s.ht.slots.toList.any fun x => match x.record with | some h => h.kind = k | none => false

/-! ### Output Matrix (chapter 1) -/

/-- The rank of a function (R8). -/
def rank (f : Fin 40) : Nat :=
  if f.val ≤ 7 then 1 else if f.val ≤ 11 then 2 else if f.val ≤ 23 then 3 else if f.val ≤ 27 then 4
  else if f.val ≤ 37 then 5 else if f.val = 38 then 6 else 7

/-- Of two functions, the one of higher rank, and within a rank the one of lower number (R9). -/
def better (f g : Fin 40) : Fin 40 :=
  if rank f < rank g ∨ (rank f = rank g ∧ f ≤ g) then f else g

/-- The functions assigned to a line, in number order. -/
def assignedTo (c : Settings) (l : Fin 48) : List (Fin 40) :=
  (List.finRange 40).filter fun f => c.assign[f] = some l

/-- The winner of a line (R9). -/
def winnerOf (c : Settings) (l : Fin 48) : Option (Fin 40) :=
  match assignedTo c l with
  | [] => none
  | f :: rest => some (rest.foldl better f)

/-- A function is displaced: its line has another winner (R9). -/
def losesLine (c : Settings) (f : Fin 40) : Bool :=
  match c.assign[f] with
  | none => false
  | some l => winnerOf c l ≠ some f

/-- The displaced list (R9), in ascending order. -/
def displacedOf (c : Settings) : List (Fin 40) := (List.finRange 40).filter (losesLine c)

/-- The resolution of the assignment (R9, R11). -/
def Om.resolve (c : Settings) (o : Om) : Om :=
  { o with winner := Vector.ofFn (winnerOf c), displaced := displacedOf c, inverted := c.inverted }

/-- A function is displaced (R10). -/
def State.isDisplaced (s : State) (f : Fin 40) : Bool := s.om.displaced.contains f

/-- A drive-rank or lock-rank function is displaced (R10). -/
def State.motionDisplaced (s : State) : Bool := s.om.displaced.any fun f => rank f ≤ 2

/-- An owner's command for a function (R8); a SPEED function's command is its duty instead. -/
def State.cmd (s : State) (f : Fin 40) : Bool := s.om.command[f]

def Om.setCmd (o : Om) (f : Fin 40) (b : Bool) : Om := { o with command := o.command.set f b }

/-- The owner issues a command (R8). -/
def State.setCmd (s : State) (f : Fin 40) (b : Bool) : State := s.onOm fun o => o.setCmd f b

/-- A SPEED line's carrier level at this moment: on for the first duty/1000 ms of its carrier period (R12), so that at duty
1000 it is on throughout, the end of the period included. -/
def Speed.level (v : Speed) : Bool :=
  match v.carrierTimer with
  | none => false
  | some r => (2880 - r) * 1000 < v.carrier * 2880 || 1000 ≤ v.carrier

/-- The effective state of a function (R11, R14): off for every drive-rank function while the latch is set. -/
def Om.effective (o : Om) (f : Fin 40) : Bool :=
  if o.latch && rank f = 1 then false
  else if f = 3 then o.speed.a.level
  else if f = 7 then o.speed.b.level
  else o.command[f]

/-- A line is active while its winner's effective state is on (R11). -/
def Om.lineActive (o : Om) (l : Fin 48) : Bool :=
  match o.winner[l] with
  | none => false
  | some f => o.effective f

/-- A line is energised: active with normal polarity or inactive with inverted polarity (R11). -/
def Om.energised (o : Om) (l : Fin 48) : Bool := o.lineActive l != o.inverted[l]

/-- SMC writes a staged duty (R12). -/
def State.stage (s : State) (t : Tower) (d : Nat) : State :=
  s.onOm fun o => { o with speed := o.speed.set t { o.speed.get t with staged := d } }

def Speed.zero (v : Speed) : Speed := { v with staged := 0, live := 0, carrier := 0 }

/-- Both towers' live duties go to 0 at once, and with them the staged duties (R12, R14). -/
def Om.zeroDuties (o : Om) : Om := { o with speed := { a := o.speed.a.zero, b := o.speed.b.zero } }

/-- The transfer at a drive period boundary (R12, R14). -/
def Om.transfer (o : Om) : Om :=
  let one (v : Speed) : Speed := { v with live := if o.latch then 0 else v.staged }
  { o with speed := { a := one o.speed.a, b := one o.speed.b } }

/-- The start of a carrier period takes the live duty then in force (R12). -/
def Speed.startPeriod (v : Speed) : Speed := { v with carrier := v.live, carrierTimer := startTimer (msTicks 1) }

/-! ### Fault values (R197, R199, R200) -/

/-- The class of the trip faults (R196). -/
def isTripFault (f : Fin 37) : Bool := f.val ≤ 11

def State.fault (s : State) (f : Fin 37) : FaultValue := s.mfs.faults[f]

/-- Some fault is not CLEAR (R200). -/
def Mfs.alarm (m : Mfs) : Bool := m.faults.toList.any fun v => v ≠ .clear

/-- The value that a report gives a fault (R197). -/
def FaultValue.report (v : FaultValue) (present : Bool) : FaultValue :=
  match present, v with
  | true, _ => .active
  | false, .active => .latched
  | false, v => v

/-- A report makes the fault enter ACTIVE, or leave it. -/
def State.faultEnters (s : State) (f : Fin 37) (present : Bool) : Bool := present && s.fault f ≠ .active
def State.faultLatches (s : State) (f : Fin 37) (present : Bool) : Bool := !present && s.fault f = .active

/-- A report would change the fault's value (R197). -/
def State.faultChanges (s : State) (f : Fin 37) (present : Bool) : Bool :=
  s.faultEnters f present || s.faultLatches f present

/-- The summary alarm command follows the fault set (R200). -/
def State.driveAlarm (s : State) : State := s.setCmd 39 s.mfs.alarm

/-- MFS takes a condition report (R197), with the first trip fault (R199) and the summary alarm (R200). The delivery
of the change to the fault's reader stands with the block that reports. -/
def State.reportFault (s : State) (f : Fin 37) (present : Bool) : State :=
  (s.onMfs fun m =>
    { m with
      faults := m.faults.set f ((m.faults[f]).report present),
      firstTrip := if s.faultEnters f present && isTripFault f && m.firstTrip.isNone then some f else m.firstTrip
    }).driveAlarm

/-- Some trip fault is ACTIVE (R63, R66, R80). -/
def State.tripFaultActive (s : State) : Bool :=
  (List.finRange 37).any fun f => isTripFault f && s.fault f = .active

end Sys2Proof.Machine
end

