-- ==== Sys2Proof/Machine/Heads.lean ====
section
/-! DEFINITION. The Pattern Generator's heads, aspects and patterns (chapter 6, sections 6.1 to 6.4). Lamp proving stands
in `Proving.lean`. -/

namespace Sys2Proof.Machine

/-! ### The heads (R111) -/

/-- A head's lamps in position order, each as its index among the 15 lamp and horn functions 24 to 38 (R111). -/
def headLamps : Head → List (Fin 15)
  | .chanU => [0, 1]
  | .chanD => [2, 3]
  | .warnN => [4, 5]
  | .warnS => [6, 7]
  | .trafN => [8, 9, 10]
  | .trafS => [11, 12, 13]
  | .horn => [14]

/-- The head that a lamp belongs to. -/
def lampHead (i : Fin 15) : Head :=
  if i.val ≤ 1 then .chanU else if i.val ≤ 3 then .chanD else if i.val ≤ 5 then .warnN else if i.val ≤ 7 then .warnS
  else if i.val ≤ 10 then .trafN else if i.val ≤ 13 then .trafS else .horn

/-- The output function of a lamp (R8). -/
def lampFn (i : Fin 15) : Fin 40 := ⟨24 + i.val, by omega⟩

/-- The LAMP or HORN fault of a lamp (R196). -/
def lampFault (i : Fin 15) : Fin 37 := ⟨18 + i.val, by omega⟩

/-- A head's aspects in the order of R111. -/
def headAspects : Head → List Aspect
  | .warnN | .warnS => [.dark, .flash]
  | .trafN | .trafS => [.green, .amber, .red]
  | .chanU | .chanD => [.stop, .standby, .proceed]
  | .horn => [.silent, .admitHorn, .danger]

/-- The position of an aspect among its head's aspects (R219). -/
def aspectCode (h : Head) (a : Aspect) : Nat := (headAspects h).idxOf a

/-- The first aspect map entry of a head (R213): the entries follow the head-aspects of R111. -/
def mapBase : Head → Nat
  | .warnN => 0
  | .warnS => 2
  | .trafN => 4
  | .trafS => 7
  | .chanU => 10
  | .chanD => 13
  | .horn => 16

/-- The descriptor that a head runs for an aspect (R113). -/
def Settings.descrFor (c : Settings) (h : Head) (a : Aspect) : Descriptor :=
  c.descrs.toList.getD (c.aspects.toList.getD (mapBase h + aspectCode h a) 0).val
    { base := 0, length := 1, modify := 0, passes := 0 }

/-- A step of the pattern table (R112). -/
def Settings.stepAt (c : Settings) (i : Nat) : PatternStep := c.steps.toList.getD i { lamps := 0, duration := 1 }

/-! ### Running a pattern -/

/-- A pattern step's duration: units of 10 ms (R112). -/
def stepTicks (p : PatternStep) : Ticks := 28800 * p.duration

/-- The time to a step's proving point: 100 ms, for a step of at least 10 units (R119). -/
def provingDelay (p : PatternStep) : Timer := if 10 ≤ p.duration then startTimer (msTicks 100) else none

/-- The lamps of a head as a step commands them: on when the position is in the lamp set (R114). -/
def stepLamps (h : Head) (p : PatternStep) : List (Fin 15 × Bool) :=
  (headLamps h).zipIdx.map fun x => (x.1, p.lamps.getLsbD x.2)

/-- Command a head's lamps from a step (R114). -/
def State.lightStep (s : State) (h : Head) (p : PatternStep) : State :=
  s.onOm fun o => (stepLamps h p).foldl (fun o x => o.setCmd (lampFn x.1) x.2) o

/-- Change the run record of a head. -/
def State.setRun (s : State) (h : Head) (r : RunRec) : State := s.onPg fun g => { g with heads := g.heads.set h r }

/-- Show a step: its lamps, its step timer and its proving point, with the record's other fields given. -/
def State.showStep (s : State) (h : Head) (r : RunRec) : State :=
  let p := s.act.stepAt r.index
  (s.setRun h { r with stepTimer := startTimer (stepTicks p), proving := provingDelay p }).lightStep h p

/-- A head starts an aspect (R114). -/
def State.startAspect (s : State) (h : Head) (a : Aspect) : State :=
  s.showStep h { (s.pg.heads.get h) with running := some a, pending := none, index := (s.act.descrFor h a).base, pass := 0 }

/-! ### Aspect requests -/

/-- The restrictive changes (R117). -/
def restrictive : Aspect → Aspect → Bool
  | .dark, .flash => true
  | .green, .amber | .green, .red => true
  | .proceed, .standby | .proceed, .stop | .standby, .stop => true
  | _, _ => false

/-- PG takes an aspect request for a head other than the horn (R117). -/
def State.requestAspect (s : State) (h : Head) (a : Aspect) : State :=
  let r := s.pg.heads.get h
  match r.running with
  | none => s
  | some cur =>
    if cur = a then s.setRun h { r with pending := none }
    else if restrictive cur a then s.startAspect h a
    else s.setRun h { r with pending := some a }

/-- The horn is asked for ADMIT (R118). -/
def State.requestAdmit (s : State) : State :=
  let r := s.pg.heads.horn
  if r.running = some .silent then s.setRun .horn { r with pending := some .admitHorn } else s

/-- The horn is asked for DANGER (R118). -/
def State.requestDanger (s : State) : State :=
  match s.pg.heads.horn.running with
  | some .silent | some .admitHorn => s.startAspect .horn .danger
  | _ => s

/-! ### The step timer (R115, R116) -/

/-- The index after a step expiry (R115). -/
def Descriptor.advance (d : Descriptor) (i : Nat) : Nat :=
  if d.base + d.length ≤ i + d.modify then i + d.modify - d.length else i + d.modify

/-- The pass count, up to 15 (R116). -/
def passCount (p : Nat) : Nat := min (p + 1) 15

/-- This step expiry completes the last pass of a pattern that is given up, with no aspect pending (R115, R116). -/
def State.givesUp (s : State) (h : Head) : Bool :=
  let r := s.pg.heads.get h
  match r.running with
  | none => false
  | some a =>
    let d := s.act.descrFor h a
    h = .horn && r.pending = none && d.advance r.index = d.base && 1 ≤ d.passes && d.passes ≤ passCount r.pass

/-- The step timer of a head expires, after the proving check of the ending step (R115, R116). -/
def State.endStep (s : State) (h : Head) : State :=
  let r := s.pg.heads.get h
  match r.running, r.pending with
  | none, _ => s
  | some _, some p => s.startAspect h p
  | some a, none =>
    let d := s.act.descrFor h a
    let i := d.advance r.index
    if s.givesUp h then s.startAspect h .silent
    else s.showStep h { r with index := i, pass := if i = d.base then passCount r.pass else r.pass }

/-- At a commit in CONFIGURED each head starts its running aspect again and drops its pending one (R127). -/
def State.restartHead (s : State) (h : Head) : State :=
  match (s.pg.heads.get h).running with
  | none => s
  | some a => s.startAspect h a

end Sys2Proof.Machine
end

