-- ==== Sys2Proof/Machine/Towers.lean ====
section
/-! DEFINITION. The Span Motion Controller's towers: proving comparisons, phases, speed control, quick stop, seating and
locking (chapter 3, sections 3.1 and 3.4 to 3.8; chapter 4). What reaches other blocks stands in `Motion.lean`. -/

namespace Sys2Proof.Machine

/-! ### Arithmetic (R37) -/

/-- "Clamped to lo … hi" (4.1 of the scope). -/
def clampInt (lo hi x : Int) : Int := max lo (min hi x)

/-- Rounded to nearest, halves away from zero, for a positive divisor (R37). -/
def roundNearest (a b : Int) : Int := if 0 ≤ a then (2 * a + b) / (2 * b) else -((-2 * a + b) / (2 * b))

/-! ### Reading -/

def Tower.both : List Tower := [.a, .b]

def State.tower (s : State) (t : Tower) : TowerRec := s.smc.towers.get t

def State.setTower (s : State) (t : Tower) (r : TowerRec) : State :=
  s.onSmc fun m => { m with towers := m.towers.set t r }

/-- The heights of the latest set, none when it has none or no set exists (R28, R29). -/
def State.heights (s : State) : Option Heights := s.mu.set.bind (·.heights)

/-- The seat switch of a tower is qualified made (lines 1 and 6). -/
def State.seatMade (s : State) (t : Tower) : Bool := s.line (towerLine t 0)

def State.seatsMade (s : State) : Bool := s.seatMade .a && s.seatMade .b

/-- A lock's withdrawn proving (lines 11 and 13) and driven proving (lines 12 and 14). -/
def withdrawnLine : Tower → Fin 48
  | .a => 11
  | .b => 13

def drivenLine : Tower → Fin 48
  | .a => 12
  | .b => 14

/-- A lock's functions (R8): LOCK_A_DRIVE 8, LOCK_A_WITHDRAW 9, LOCK_B_DRIVE 10, LOCK_B_WITHDRAW 11. -/
def driveFn : Tower → Fin 40
  | .a => 8
  | .b => 10

def withdrawFn : Tower → Fin 40
  | .a => 9
  | .b => 11

def State.bothWithdrawn (s : State) : Bool := s.line 11 && s.line 13
def State.bothDriven (s : State) : Bool := s.line 12 && s.line 14

/-- The states in which the towers move the span (R57). -/
def Motion.moving : Motion → Bool
  | .raising | .lowering | .seating => true
  | _ => false

/-- Attendance is required (R70). -/
def State.attendanceRequired (s : State) : Bool := s.smc.motion.moving && s.smc.stop = .none

/-! ### Proving comparisons (R77) -/

/-- A comparison after its line and command are looked at again. -/
def Comparison.look (c : Comparison) (disagree : Bool) (tprove : Ticks) : Comparison :=
  match c, disagree with
  | .agrees, true => .disagrees tprove
  | c, true => c
  | _, false => .agrees

/-- A comparison disagrees: the proving line differs from the command as the latch modifies it (R77). The three are
RAISE, LOWER and the brake, functions 0 to 2 of the tower and its lines 2 to 4. -/
def State.differs (s : State) (t : Tower) (k : Fin 3) : Bool :=
  s.line (towerLine t ⟨k.val + 2, by omega⟩) != (s.cmd (towerFn t ⟨k.val, by omega⟩) && !s.om.latch)

/-- The OUTPUT_PROVE and BRAKE_PROVE faults of a tower (R196). -/
def outputProveFault : Tower → Fin 37
  | .a => 6
  | .b => 7

def brakeProveFault : Tower → Fin 37
  | .a => 8
  | .b => 9

/-- Report a condition absent where its comparisons agree again (R77). -/
def State.reportAgreed (s : State) (f : Fin 37) (agreed : Bool) : State :=
  if agreed && s.faultLatches f false then s.reportFault f false else s

/-- Look at a tower's three comparisons again, from qualification complete onward (R77). -/
def State.compareTower (s : State) (t : Tower) : State :=
  if !s.isQualified then s
  else
    let tp := msTicks s.act.tprove
    let r := s.tower t
    let r' := { r with raiseCmp := r.raiseCmp.look (s.differs t 0) tp, lowerCmp := r.lowerCmp.look (s.differs t 1) tp,
                       brakeCmp := r.brakeCmp.look (s.differs t 2) tp }
    ((s.setTower t r').reportAgreed (outputProveFault t) (r'.raiseCmp = .agrees && r'.lowerCmp = .agrees)).reportAgreed
      (brakeProveFault t) (r'.brakeCmp = .agrees)

def State.compare (s : State) : State := (s.compareTower .a).compareTower .b

/-! ### Tower phases (R59 to R61) -/

/-- A reversal record blocks a start in a direction (R60). -/
def Reversal.blocks (v : Reversal) (raise : Bool) : Bool :=
  match v.blocked with
  | .raise => raise
  | .lower => !raise
  | .both => true

/-- Assert the direction line; RELEASING_BRAKE with the brake timer set to Tbrk (R59). -/
def State.assertDirection (s : State) (t : Tower) (raise : Bool) : State :=
  (s.setCmd (towerFn t (if raise then 0 else 1)) true).setTower t
    { s.tower t with phase := .releasingBrake, brakeTimer := startTimer (msTicks s.act.tbrk) }

/-- Start a tower (R59, R60). -/
def State.startTower (s : State) (raise : Bool) (t : Tower) : State :=
  match (s.tower t).reversal with
  | some v => if v.blocks raise then s.setTower t { s.tower t with phase := .waitingReversal } else s.assertDirection t raise
  | none => s.assertDirection t raise

/-- Release a tower's direction line; the other direction is blocked for Tdead (R60). -/
def State.releaseDirection (s : State) (t : Tower) : State :=
  let block (b : Blocked) : State :=
    ((s.setCmd (towerFn t 0) false).setCmd (towerFn t 1) false).setTower t
      { s.tower t with reversal := some { blocked := b, remaining := msTicks s.act.tdead } }
  if s.cmd (towerFn t 0) then block .lower else if s.cmd (towerFn t 1) then block .raise else s

/-- Turn the brake command off; SETTING_BRAKE with the brake timer set to Tbrk, and 0 staged (R59, R61). -/
def State.setBrake (s : State) (t : Tower) : State :=
  ((s.setCmd (towerFn t 2) false).stage t 0).setTower t
    { s.tower t with phase := .settingBrake, brakeTimer := startTimer (msTicks s.act.tbrk) }

/-- A tower at the beginning of a stop (R61), and at its seat event in SEATING (R67). -/
def State.stopTower (s : State) (t : Tower) : State :=
  match (s.tower t).phase with
  | .waitingReversal => s.setTower t { s.tower t with phase := .atRest }
  | .releasingBrake => s.setBrake t
  | .running => s.setTower t { s.tower t with phase := .rampingDown }
  | .atRest | .rampingDown | .settingBrake => s

/-- A tower at a quick stop (R74). -/
def State.quickStopTower (s : State) (t : Tower) : State :=
  match (s.tower t).phase with
  | .running | .rampingDown | .releasingBrake => s.setBrake t
  | .waitingReversal => s.setTower t { s.tower t with phase := .atRest }
  | .atRest | .settingBrake => s

def State.bothAtRest (s : State) : Bool := s.smc.towers.a.phase = .atRest && s.smc.towers.b.phase = .atRest
def State.bothSeated (s : State) : Bool := s.smc.towers.a.seated && s.smc.towers.b.seated

/-- The state becomes HALTED (R61, R72): the stop kind returns to NONE and the target is cleared (R65). -/
def State.enterHalted (s : State) : State := s.onSmc fun m => { m with motion := .halted, stop := .none, target := none }

/-! ### Attendance (R70) -/

/-- The attendance timer is set at the entry into a state that requires it; in LOCAL with hold-to-run held it stands. -/
def State.setAttendance (s : State) : State :=
  s.onSmc fun m =>
    { m with attendance := if s.isLocal && s.line 38 then .standing else .counting (msTicks s.act.attendance) }

def State.stopAttendance (s : State) : State := s.onSmc fun m => { m with attendance := .stopped }

/-- A refresh from port 0 in REMOTE (R70). -/
def State.refreshAttendance (s : State) : State :=
  if s.attendanceRequired && !s.isLocal then
    s.onSmc fun m => { m with attendance := .counting (msTicks s.act.attendance) }
  else s

/-- The key or hold-to-run changes (R70). DESIGN CHOICE (log 38): each change reads both levels as they are after its sampling instant,
so that a key that turns to LOCAL as hold-to-run is released lets a counting timer go on from what remains. -/
def State.attendanceSource (s : State) : State :=
  if !s.attendanceRequired then s
  else
    match s.isLocal, s.line 38, s.smc.attendance with
    | true, true, _ => s.onSmc fun m => { m with attendance := .standing }
    | _, _, .standing => s.onSmc fun m => { m with attendance := .counting (msTicks s.act.attendance) }
    | _, _, _ => s

/-! ### Quick stop (R74, R54) -/

/-- Set the common output to 0 and zero both live and staged duties at once (R54). -/
def State.zeroSpeed (s : State) : State := (s.onSmc fun m => { m with out := 0 }).onOm Om.zeroDuties

/-- A quick stop: taken in LOWERING and SEATING with any stop kind except QUICK (R74). -/
def State.quickStop (s : State) : State :=
  if (s.smc.motion = .lowering ∨ s.smc.motion = .seating) ∧ s.smc.stop ≠ .quick then
    let s := (s.onSmc fun m => { m with stop := .quick, attendance := .stopped, seatTimer := none }).zeroSpeed
    let s := (s.quickStopTower .a).quickStopTower .b
    (if s.bothAtRest then s.enterHalted else s).compare
  else s

/-! ### Speed control (R46 to R51) -/

/-- The demand for a distance (R47). -/
def demand (c : Settings) (d : Int) : Int :=
  if d ≤ c.ztol then 0
  else if d ≤ c.zcreep then c.vcreep
  else if d < c.zslow then c.vcreep + (c.vmax - c.vcreep) * (d - c.zcreep) / (c.zslow - c.zcreep)
  else c.vmax

/-- The demand of this completion (R46, R47, R51): 0 while a stop is under way (DEDUCED, log 7) and while the heights
are unavailable. -/
def State.demandNow (s : State) : Int :=
  if s.smc.stop ≠ .none then 0
  else
    match s.heights with
    | none => 0
    | some h =>
      match s.smc.motion with
      | .raising => demand s.act ((s.smc.target.getD 0 : Nat) - h.hs)
      | .lowering => demand s.act (max h.hA h.hB)
      | .seating => s.act.vcreep
      | _ => 0

/-- A tower has not yet begun its ramp (R48). -/
def Phase.beforeRamp : Phase → Bool
  | .waitingReversal | .releasingBrake => true
  | _ => false

/-- The slew limit (R48). -/
def slew (c : Settings) (out : Nat) (d : Int) : Nat := ((out : Int) + clampInt (-c.rdec) c.racc (d - out)).toNat

/-- The common output of this completion (R48). -/
def State.outNow (s : State) : Nat :=
  if s.smc.towers.a.phase.beforeRamp || s.smc.towers.b.phase.beforeRamp then 0 else slew s.act s.smc.out s.demandNow

/-- The trim and the leading tower (R49). DESIGN CHOICE (log 8): no trim while the skew is unavailable. -/
def trimFor (c : Settings) (motion : Motion) (skew : Int) (t : Tower) : Int :=
  let trim := min ((skew.natAbs : Int) * c.ktrim / 16) c.tmax
  let aLeads := if motion = .lowering then skew < 0 else skew > 0
  let bLeads := if motion = .lowering then skew > 0 else skew < 0
  match t with
  | .a => if aLeads then trim else 0
  | .b => if bLeads then trim else 0

/-- A tower's candidate reference (R49, R51). -/
def State.candidate (s : State) (t : Tower) : Int :=
  if s.smc.motion = .seating then if (s.tower t).seated then 0 else s.smc.out
  else
    match s.heights with
    | none => s.smc.out
    | some h => max 0 ((s.smc.out : Int) - trimFor s.act s.smc.motion h.skew t)

/-- A candidate limited to within M of the live duty (R50). -/
def limitRef (c : Settings) (live : Nat) (cand : Int) : Nat :=
  (clampInt ((live : Int) - max c.racc c.rdec) (live + max c.racc c.rdec) cand).toNat

/-- A tower's reference (R50): 0 in the phases that stage none (R59). -/
def State.reference (s : State) (t : Tower) (cand : Int) : Nat :=
  match (s.tower t).phase with
  | .running | .rampingDown => limitRef s.act (s.om.speed.get t).live cand
  | _ => 0

/-- Speed control at a scan completion (section 3.4). -/
def State.speedControl (s : State) : State :=
  if s.smc.motion.moving then
    let s := s.onSmc fun m => { m with out := s.outNow }
    (s.stage .a (s.reference .a (s.candidate .a))).stage .b (s.reference .b (s.candidate .b))
  else s

/-! ### Seating and locking (R67, R68) -/

/-- LOCKING ends once both locks are driven-proven (R68). -/
def State.finishLocking (s : State) : State :=
  if s.smc.motion = .locking && s.bothDriven then
    ((s.setCmd 8 false).setCmd 10 false).onSmc fun m =>
      { m with motion := if s.seatsMade then .seatedLocked else .seated, lockTimer := none }
  else s

/-- LOCKING is entered (R67, R68); with both locks driven-proven it ends at once. DEDUCED (log 35): the common output is 0 from
here on, as R55 finds it in SEATED_LOCKED; the target stands, since R65 does not clear it here. -/
def State.enterLocking (s : State) : State :=
  let s := s.onSmc fun m =>
    { m with motion := .locking, stop := .none, out := 0, attendance := .stopped, seatTimer := none,
             lockTimer := startTimer (secTicks s.act.lockTravel) }
  ((s.setCmd 8 (!s.line 12)).setCmd 10 (!s.line 14)).finishLocking

/-- With both towers seated the seat timer stops; with both also AT_REST and the stop kind NONE, LOCKING (R67). -/
def State.checkSeated (s : State) : State :=
  if s.smc.motion = .seating && s.bothSeated then
    let s := s.onSmc fun m => { m with seatTimer := none }
    if s.bothAtRest && s.smc.stop = .none then s.enterLocking else s
  else s

/-- A tower becomes seated (R51, R67): its limited 0 is staged and its phase changes. -/
def State.seatTower (s : State) (t : Tower) : State :=
  if (s.tower t).seated then s
  else
    let s := s.setTower t { s.tower t with seated := true }
    (s.stage t (s.reference t 0)).stopTower t

/-- Mark a tower seated whose seat switch is already made (R67). -/
def State.seatIfMade (s : State) (t : Tower) : State := if s.seatMade t then s.seatTower t else s

/-- SEATING is entered; from a state at rest, the towers that are not seated start (R59, R67). -/
def State.enterSeating (s : State) (fromRest : Bool) : State :=
  let s := s.onSmc fun m =>
    { m with motion := .seating, target := none, seatTimer := startTimer (secTicks s.act.seatTime)
             towers := { a := { m.towers.a with seated := false }, b := { m.towers.b with seated := false } } }
  let s := (s.seatIfMade .a).seatIfMade .b
  let start (s : State) (t : Tower) : State := if (s.tower t).seated then s else s.startTower false t
  let s := if fromRest then (start (start s .a) .b).setAttendance else s
  s.checkSeated

end Sys2Proof.Machine
end

