-- ==== Sys2Proof/Machine/Passages.lean ====
section
/-! DEFINITION. The Passage and Admission Unit: the passage table, the filing queue and the countdowns (chapter 7), the
opening, the admission arbiter, the channel aspects and the transits (chapter 8). -/

namespace Sys2Proof.Machine

/-! ### Need, required lift, reachability (R43 to R45) -/

/-- The need in cm (R43). -/
def needOf (c : Settings) (airDraft : Nat) (margin : Option Nat) : Nat := airDraft + margin.getD c.defaultMargin.toNat

def Passage.need (p : Passage) (c : Settings) : Nat := needOf c p.airDraft p.margin

/-- The water elevation that PAU uses (R44). -/
def State.water (s : State) : Int :=
  match s.mu.set with
  | some m => m.water
  | none => s.act.wdesign

/-- The required lift in mm (R44). -/
def State.liftOf (s : State) (need : Nat) : Nat := ((need : Int) * 10 - (s.act.e0 - s.water)).toNat

/-- A passage with this need is reachable (R45). -/
def State.reachable (s : State) (need : Nat) : Bool := (s.liftOf need : Int) ≤ s.act.hfull

/-- The clearance_cm of the latest set, none while it is unavailable. -/
def State.clearance (s : State) : Option Int := s.heights.map (·.clearanceCm)

/-! ### The table (R129 to R131) -/

/-- The handle of a slot's record (R129). -/
def State.handleAt (s : State) (i : Fin 16) : Handle 16 := { slot := i, gen := (s.pau.slots[i]).gen }

/-- The record that a handle names, none when the handle is stale (R129). -/
def State.passage (s : State) (h : Handle 16) : Option Passage :=
  if (s.pau.slots[h.slot]).gen = h.gen then (s.pau.slots[h.slot]).record else none

def Pau.setRecord (u : Pau) (i : Fin 16) (r : Option Passage) : Pau :=
  { u with slots := u.slots.set i { u.slots[i] with record := r } }

/-- Change the record in a slot. -/
def State.setPassage (s : State) (i : Fin 16) (p : Passage) : State := s.onPau fun u => u.setRecord i (some p)

/-- The slots that hold a record, in slot order. -/
def State.liveSlots (s : State) : List (Fin 16) := (List.finRange 16).filter fun i => (s.pau.slots[i]).record.isSome

/-- The handle of the live record with a tag (R130). -/
def State.findTag (s : State) (tag : Nat) : Option (Handle 16) :=
  ((List.finRange 16).find? fun i => (s.pau.slots[i]).record.any fun p => p.tag = tag).map s.handleAt

/-- The lowest empty slot (R134). -/
def State.emptySlot (s : State) : Option (Fin 16) :=
  (List.finRange 16).find? fun i => (s.pau.slots[i]).record.isNone

def Opening.drop (o : Opening) (h : Handle 16) : Opening :=
  { o with members := o.members.filter (· ≠ h), queueUp := o.queueUp.filter (· ≠ h), queueDown := o.queueDown.filter (· ≠ h) }

/-- The retirement of a slot's record (R129, R145). The opening's reaction is `departed`. -/
def Pau.retire (u : Pau) (i : Fin 16) : Pau :=
  let h : Handle 16 := { slot := i, gen := (u.slots[i]).gen }
  { u with
    slots := u.slots.set i { gen := (h.gen + 1) % 256, record := none }
    queue := u.queue.filter (· ≠ h)
    opening := u.opening.drop h }

/-! ### Reading the opening -/

/-- The head that a direction faces (R152). -/
def dirHead : Dir → Head
  | .up => .chanD
  | .down => .chanU

def State.onOpening (s : State) (f : Opening → Opening) : State := s.onPau fun u => { u with opening := f u.opening }

def Opening.queueOf (o : Opening) : Dir → List (Handle 16)
  | .up => o.queueUp
  | .down => o.queueDown

def Opening.setQueue (o : Opening) (d : Dir) (q : List (Handle 16)) : Opening :=
  match d with
  | .up => { o with queueUp := q }
  | .down => { o with queueDown := q }

/-- The handles of a list whose records are in a state, in the list's order. -/
def State.inState (s : State) (l : List (Handle 16)) (st : PassState) : List (Handle 16) :=
  l.filter fun h => (s.passage h).any fun p => p.state = st

/-- The members in a state (R152). -/
def State.membersIn (s : State) (st : PassState) : List (Handle 16) := s.inState s.pau.opening.members st

def State.opening (s : State) : Opening := s.pau.opening

/-- The opening takes joins and can be ended (R155, R171). -/
def OpeningState.isOpen : OpeningState → Bool
  | .gathered | .admitting => true
  | .none | .closingChannel => false

/-- A direction's head is impaired (R123). -/
def State.dirImpaired (s : State) (d : Dir) : Bool := s.pg.impaired.get (dirHead d)

/-! ### Channel aspects and the horn (R165, R166) -/

/-- PROCEED may be decided for a direction (R165). -/
def State.mayProceed (s : State) (d : Dir) : Bool :=
  let q := s.opening.queueOf d
  s.smc.motion = .holding && s.opening.state = .admitting && s.opening.active = some d &&
    !(s.inState q .admitted).isEmpty && !s.dirImpaired d &&
    (match s.clearance with
     | none => false
     | some c => q.all fun h => (s.passage h).all fun p =>
        !(p.state = .admitted || p.state = .transiting) || ((p.need s.act : Int) ≤ c))

/-- The decided aspect of a direction's head: the first line of R165's table that holds. -/
def State.decideFor (s : State) (d : Dir) : Aspect :=
  if !s.opening.state.isOpen || s.hasHold .marineStop then .stop
  else if s.mayProceed d then .proceed
  else if (s.membersIn .grouped ++ s.membersIn .admitted).any fun h => (s.passage h).any fun p => p.dir = d then .standby
  else .stop

def Pau.decided (u : Pau) : Dir → Aspect
  | .up => u.decidedD
  | .down => u.decidedU

def Pau.setDecided (u : Pau) (d : Dir) (a : Aspect) : Pau :=
  match d with
  | .up => { u with decidedD := a }
  | .down => { u with decidedU := a }

/-- Hand a changed aspect to PG, with the horn's ADMIT at a change to PROCEED (R165, R166). -/
def State.handAspect (s : State) (d : Dir) : State :=
  let a := s.decideFor d
  if a = s.pau.decided d then s
  else
    let s := (s.onPau fun u => u.setDecided d a).requestAspect (dirHead d) a
    if a = .proceed then s.requestAdmit else s

/-- Decide both aspects again (R165). DESIGN CHOICE (log 9): at the end of each event that PAU takes. -/
def State.decideAspects (s : State) : State := (s.handAspect .down).handAspect .up

/-! ### The admission arbiter (R159 to R161) -/

/-- The conditions without which an admission test admits nothing, with the clearance it compares (R160). -/
def State.admitClearance (s : State) : Option Int :=
  if s.opening.state = .admitting && !s.hasHold .marineStop && 0 < s.rcs.budget then s.clearance else none

/-- A GROUPED member whose need the clearance meets. -/
def State.fits (s : State) (c : Int) (h : Handle 16) : Bool :=
  s.opening.members.contains h && (s.passage h).any fun p => p.state = .grouped && ((p.need s.act : Int) ≤ c)

/-- The class rank of the record that a handle names (R128). -/
def State.rankOf (s : State) (h : Handle 16) : Nat := ((s.passage h).map fun p => p.cls.ctorIdx).getD 3

/-- The first handle of least class rank in a list. -/
def State.bestOf (s : State) : List (Handle 16) → Option (Handle 16)
  | [] => none
  | h :: t => some (t.foldl (fun b x => if s.rankOf x < s.rankOf b then x else b) h)

/-- The direction choice of an admission test (R160): the best candidate in class and filing order. -/
def State.chooseDirection (s : State) (c : Int) : Option Dir :=
  let cands := s.pau.queue.filter fun h => s.fits c h && (s.passage h).any fun p => !s.dirImpaired p.dir
  (s.bestOf cands).bind fun h => (s.passage h).map (·.dir)

/-- Admit one member: ADMITTED, at the tail of its direction's queue (R161). -/
def State.admitMember (d : Dir) (s : State) (h : Handle 16) : State :=
  match s.passage h with
  | none => s
  | some p =>
    (s.setPassage h.slot { p with state := .admitted }).onOpening fun o => o.setQueue d (o.queueOf d ++ [h])

/-- The admission test (R160, R161). -/
def State.admissionTest (s : State) : State :=
  match s.admitClearance with
  | none => s
  | some c =>
    match (match s.opening.active with | some d => some d | none => s.chooseDirection c) with
    | none => s
    | some d =>
      let s := s.onOpening fun o => { o with active := some d }
      if s.dirImpaired d then s
      else
        (s.opening.members.filter fun h => s.fits c h && (s.passage h).any fun p => p.dir = d).foldl (State.admitMember d) s

/-- A queue left empty returns the active direction to NONE and, while ADMITTING, brings an admission test (R161). -/
def State.settleDirection (s : State) : State :=
  match s.opening.active with
  | none => s
  | some d =>
    if (s.opening.queueOf d).isEmpty then
      let s := s.onOpening fun o => { o with active := none }
      if s.opening.state = .admitting then s.admissionTest else s
    else s

/-! ### Calling back and returning (R158, R162, R164, R170) -/

/-- An ADMITTED member returns to GROUPED and leaves its queue (R158, R162, R164). -/
def State.backToGrouped (s : State) (h : Handle 16) : State :=
  match s.passage h with
  | none => s
  | some p =>
    (s.setPassage h.slot { p with state := .grouped }).onOpening fun o =>
      { o with queueUp := o.queueUp.filter (· ≠ h), queueDown := o.queueDown.filter (· ≠ h) }

/-- A member returns to FILED with its deferred flag set (R170, R171). -/
def State.backToFiled (s : State) (h : Handle 16) : State :=
  match s.passage h with
  | none => s
  | some p => (s.setPassage h.slot { p with state := .filed, deferred := true, lift := none }).onOpening (·.drop h)

/-- Call back the ADMITTED members that meet a test. -/
def State.callBack (s : State) (test : Passage → Bool) : State :=
  (((s.membersIn .admitted).filter fun h => (s.passage h).any test).foldl State.backToGrouped s).settleDirection

/-! ### Ending the opening (R170 to R173) -/

/-- The finishing test (R173). -/
def State.finishingTest (s : State) : State :=
  if s.opening.state = .closingChannel && (s.membersIn .transiting).isEmpty && s.beamsClear then
    s.onOpening fun _ => Opening.absent
  else s

/-- The opening enters CLOSING_CHANNEL (R171). -/
def State.enterClosing (s : State) : State :=
  let back := s.membersIn .grouped ++ s.membersIn .admitted
  let s := s.onOpening fun o => { o with state := .closingChannel }
  (back.foldl State.backToFiled s).settleDirection.finishingTest

/-- A member list that is empty while ADMITTING closes the channel (R157, R171). -/
def State.closeIfEmpty (s : State) : State :=
  if s.opening.state = .admitting && s.opening.members.isEmpty then s.enterClosing else s

/-- The condition of R170: a budget of 0 with no member ADMITTED or TRANSITING. -/
def State.closeIfSpent (s : State) : State :=
  if s.opening.state.isOpen && s.rcs.budget = 0 && (s.membersIn .admitted).isEmpty && (s.membersIn .transiting).isEmpty
  then s.enterClosing else s

/-- RCS tells PAU that the budget is exhausted (R170). -/
def State.budgetSpent (s : State) : State :=
  if s.opening.state.isOpen then
    (((s.membersIn .grouped ++ s.membersIn .admitted).foldl State.backToFiled s).settleDirection.closeIfSpent).decideAspects
  else s

/-! ### CLEARANCE_LOW and CHANNEL_INTRUSION (R163, R169) -/

/-- The CLEARANCE_LOW condition (R163). -/
def State.isClearanceLow (s : State) : Bool :=
  match s.pau.lastClearance with
  | none => false
  | some c => (s.membersIn .transiting).any fun h => (s.passage h).any fun p => c < (p.need s.act : Int)

/-- Evaluate and report CLEARANCE_LOW, fault 34 (R163). -/
def State.evaluateClearance (s : State) : State :=
  (s.onPau fun u => { u with clearanceLow := s.isClearanceLow }).reportFault 34 s.isClearanceLow

/-- An intrusion: CHANNEL_INTRUSION, fault 33, and the horn's DANGER (R169). -/
def State.intrusion (s : State) : State :=
  ((s.onPau fun u => { u with intrusion := true }).reportFault 33 true).requestDanger

/-- The first beam event after which both beams are clear ends the condition (R169). -/
def State.endIntrusion (s : State) : State :=
  if s.beamsClear then (s.onPau fun u => { u with intrusion := false }).reportFault 33 false else s

/-! ### Departures -/

/-- A member has left by a passing or a withdrawal (R168, R172). -/
def State.departed (s : State) : State :=
  let s := s.settleDirection.closeIfEmpty.closeIfSpent.evaluateClearance
  s.finishingTest.decideAspects

/-- Retire the record of a slot, with the opening's reaction where it was a member (R145, R172). -/
def State.retirePassage (s : State) (i : Fin 16) : State :=
  let wasMember := s.opening.members.contains (s.handleAt i)
  let s := s.onPau fun u => u.retire i
  if wasMember then s.departed else s

/-! ### Events of the span (R157, R158) -/

/-- SMC has entered HOLDING (R157). -/
def State.holdingEntered (s : State) : State :=
  if s.opening.state = .gathered then
    ((s.onOpening fun o => { o with state := .admitting }).admissionTest.closeIfEmpty).decideAspects
  else s

/-- SMC has left HOLDING (R158). -/
def State.holdingLeft (s : State) : State :=
  if s.opening.state = .admitting then
    ((s.onOpening fun o => { o with state := .gathered }).callBack fun _ => true).decideAspects
  else s

/-! ### The measurement set (R160, R162, R163) -/

/-- PAU takes a measurement set (R33). -/
def State.pauTakesSet (s : State) : State :=
  let s :=
    if s.opening.state = .none then s
    else (s.callBack fun p => match s.clearance with | none => true | some c => c < (p.need s.act : Int)).admissionTest
  let s :=
    match s.clearance with
    | none => s
    | some c => (s.onPau fun u => { u with lastClearance := some c }).evaluateClearance
  s.decideAspects

/-! ### MARINE_STOP and head impairment (R164) -/

/-- The first MARINE_STOP hold has been placed (R164). -/
def State.marineStopPlaced (s : State) : State := (s.callBack fun _ => true).decideAspects

/-- A channel head's impaired flag has changed (R164). -/
def State.channelHeadChanged (s : State) (d : Dir) : State :=
  (if s.dirImpaired d then s.callBack fun p => p.dir = d else s).decideAspects

/-! ### Transits (R167, R168) -/

/-- The channel beams: U on the upstream side, D on the downstream side. -/
inductive Beam | u | d
deriving DecidableEq, Repr

def entryBeam : Dir → Beam
  | .up => .d
  | .down => .u

/-- The entry of the oldest ADMITTED passage (R167): TRANSITING; reported to SMC. -/
def State.enters (s : State) (h : Handle 16) : State :=
  match s.passage h with
  | none => s
  | some p => ((s.setPassage h.slot { p with state := .transiting }).evaluateClearance).quickStop

/-- A beam breaks (R167, R168). -/
def State.beamBreaks (s : State) (b : Beam) : State :=
  match s.opening.active with
  | none => s.intrusion
  | some d =>
    let q := s.opening.queueOf d
    if b = entryBeam d then
      match s.inState q .admitted with
      | h :: _ => s.enters h
      | [] => s.intrusion
    else if (s.inState q .transiting).isEmpty then s.intrusion else s

/-- A beam restores (R167, R168). -/
def State.beamRestores (s : State) (b : Beam) : State :=
  match s.opening.active with
  | none => s
  | some d =>
    if b = entryBeam d then s
    else
      match s.inState (s.opening.queueOf d) .transiting with
      | h :: _ => s.retirePassage h.slot
      | [] => s.intrusion

/-- PAU takes a beam event (R167 to R169, R173). -/
def State.beamEvent (s : State) (b : Beam) (clear : Bool) : State :=
  let s := if clear then (s.beamRestores b).finishingTest else s.beamBreaks b
  s.endIntrusion.decideAspects

/-! ### Grouping and joining (R153, R155, R156) -/

/-- A record becomes GROUPED with its required lift written, at the tail of the member list (R153, R156). -/
def State.group (s : State) (h : Handle 16) : State :=
  match s.passage h with
  | none => s
  | some p =>
    (s.setPassage h.slot
      { p with state := .grouped, lift := some (s.liftOf (p.need s.act)), deferred := false, unreachable := false }).onOpening
      fun o => { o with members := o.members ++ [h] }

/-- The conditions of the join test (R155). -/
def State.mayJoin (s : State) (p : Passage) : Bool :=
  let l := s.liftOf (p.need s.act)
  s.opening.state.isOpen && p.state = .filed && p.wait = 0 && (l : Int) ≤ s.act.hfull && (s.opening.target.any fun t => l ≤ t) &&
    !s.dirImpaired p.dir && s.opening.members.length < 8 && 0 < s.rcs.budget && s.act.jr ≤ s.rcs.budget

/-- The join test (R155, R156). -/
def State.joinTest (s : State) (i : Fin 16) : State :=
  let h := s.handleAt i
  match s.passage h with
  | none => s
  | some p =>
    if s.mayJoin p then
      let s := s.group h
      (if s.opening.state = .admitting then s.admissionTest else s).decideAspects
    else s

/-- BEGIN OPENING marks the FILED records that are not reachable (R153, step 1). -/
def State.markUnreachable (s : State) (i : Fin 16) : State :=
  match (s.pau.slots[i]).record with
  | some p =>
    if p.state = .filed && !s.reachable (p.need s.act) then s.setPassage i { p with unreachable := true } else s
  | none => s

/-- A record is eligible (R153, step 2). -/
def State.eligible (s : State) (h : Handle 16) : Bool :=
  (s.passage h).any fun p =>
    p.state = .filed && p.wait = 0 && s.reachable (p.need s.act) && !s.dirImpaired p.dir

/-- The eligible records by class rank and then by filing order (R153, step 3). -/
def State.eligibleOrder (s : State) : List (Handle 16) :=
  let e := s.pau.queue.filter s.eligible
  (e.filter fun h => s.rankOf h = 0) ++ (e.filter fun h => s.rankOf h = 1) ++ (e.filter fun h => s.rankOf h = 2)

/-- The target that the chosen members give (R153, step 4). -/
def State.targetFor (s : State) (l : List (Handle 16)) : Nat :=
  min ((l.map fun h => ((s.passage h).map fun p => s.liftOf (p.need s.act)).getD 0).foldl max 0) s.act.hfull.toNat

/-- BEGIN OPENING accepted (R153). -/
def State.formOpening (s : State) : State :=
  let s := (List.finRange 16).foldl State.markUnreachable s
  let chosen := s.eligibleOrder.take 8
  let t := s.targetFor chosen
  let s := s.onOpening fun _ => { Opening.absent with state := .gathered, target := some t }
  let s := (chosen.foldl State.group s).quickStop
  (if s.smc.motion = .holding then s.holdingEntered else s).decideAspects

/-! ### Countdowns (R136 to R139) -/

/-- A record's wait counts down by one (R137); the join test follows where its window opens. -/
def State.countWait (s : State) (i : Fin 16) : State :=
  match (s.pau.slots[i]).record with
  | none => s
  | some p =>
    let s := s.setPassage i { p with wait := p.wait - 1 }
    if p.wait = 1 && p.state = .filed then s.joinTest i else s

/-- A FILED record lapses (R138), or is retired at once when the lapse linger is 0 (R139). -/
def State.lapse (s : State) (i : Fin 16) (p : Passage) : State :=
  if s.act.lapseLinger ≤ 0 then s.retirePassage i
  else s.setPassage i { p with state := .lapsed, expiry := none, linger := some s.act.lapseLinger.toNat }

/-- A FILED record's expiry, or a LAPSED record's linger, counts down by one (R138, R139). -/
def State.countExpiry (s : State) (i : Fin 16) : State :=
  match (s.pau.slots[i]).record with
  | none => s
  | some p =>
    match p.state, p.expiry, p.linger with
    | .filed, some e, _ => if e ≤ 1 then s.lapse i p else s.setPassage i { p with expiry := some (e - 1) }
    | .lapsed, _, some l => if l ≤ 1 then s.retirePassage i else s.setPassage i { p with linger := some (l - 1) }
    | _, _, _ => s

/-- One tick of the passage clock for one record, in the order wait, expiry, linger (R136). -/
def State.tickRecord (s : State) (i : Fin 16) : State := (s.countWait i).countExpiry i

/-- A tick does more to this record than count (R137 to R139). -/
def Passage.tickActs (p : Passage) : Bool :=
  p.wait = 1 || (p.state = .filed && p.expiry = some 1) || (p.state = .lapsed && p.linger = some 1)

/-- A tick of the passage clock (R136): the records need no order among themselves. -/
def State.tickPassages (s : State) : State :=
  let acts (i : Fin 16) : Bool := (s.pau.slots[i]).record.any (·.tickActs)
  let s' := (s.liveSlots.filter fun i => !acts i).foldl State.tickRecord s
  s'.inAnyOrder (s.liveSlots.filter acts) State.tickRecord

end Sys2Proof.Machine
end

