-- ==== Sys2Proof/Machine/Motion.lean ====
section
/-! DEFINITION. The Span Motion Controller's motion states, requests, halts, trips and events (chapter 4), the limit and
skew checks (R53, R78) and the ESTOP condition (R14, R15). -/

namespace Sys2Proof.Machine

/-! ### Trips (R75, R76) -/

/-- The states in which a trip fault's entry to ACTIVE trips (R76). -/
def tripsIn (f : Fin 37) (m : Motion) : Bool :=
  if f.val = 3 || f.val = 4 || f.val = 5 then
    m = .unlocking || m = .raising || m = .holding || m = .lowering || m = .seating
  else isTripFault f

/-- The functions that SMC owns, the SPEED functions apart (R8). -/
def smcCommands : List (Fin 40) := [0, 1, 2, 4, 5, 6, 8, 9, 10, 11]

def TowerRec.park (r : TowerRec) : TowerRec := { r with phase := .atRest, brakeTimer := none }

/-- SMC takes a trip cause (R75). -/
def State.trip (s : State) : State :=
  if s.smc.motion = .tripped then s
  else
    let wasHolding := s.smc.motion = .holding
    let s := ((s.releaseDirection .a).releaseDirection .b).zeroSpeed
    let s := smcCommands.foldl (fun s f => s.setCmd f false) s
    let s := s.onSmc fun m =>
      { m with motion := .tripped, stop := .none, target := none, lockTimer := none, seatTimer := none,
               attendance := .stopped, towers := { a := m.towers.a.park, b := m.towers.b.park } }
    (if wasHolding then s.holdingLeft else s).compare

/-- A report of a trip fault's condition with its delivery to SMC (R76, R197). -/
def State.tripReport (s : State) (f : Fin 37) (present : Bool) : State :=
  let enters := s.faultEnters f present
  let s := if s.faultChanges f present then s.reportFault f present else s
  if enters && tripsIn f s.smc.motion then s.trip else s

/-- A condition reported present and, after the trip it causes, absent (R79). -/
def State.pulseFault (s : State) (f : Fin 37) : State := (s.tripReport f true).tripReport f false

/-! ### The end of a stop (R61) -/

/-- Both towers AT_REST end a stop (R61): HOLDING after ARRIVAL, of which PAU is told (R65), and HALTED after HALT or
QUICK; with no stop under way SEATING may end (R67). -/
def State.checkRest (s : State) : State :=
  if s.smc.motion.moving && s.bothAtRest then
    match s.smc.stop with
    | .arrival => (s.onSmc fun m => { m with motion := .holding, stop := .none }).holdingEntered
    | .halt | .quick => s.enterHalted
    | .none => s.checkSeated
  else s

/-- A stop begins (R61, R65, R72). -/
def State.beginStop (s : State) (k : StopKind) : State :=
  let s := s.onSmc fun m =>
    { m with stop := k, attendance := .stopped, seatTimer := if k = .halt then none else m.seatTimer }
  (((s.stopTower .a).stopTower .b).checkRest).compare

/-! ### Controlled halt (R72, R73) -/

/-- A controlled halt in UNLOCKING (R64). -/
def State.haltUnlocking (s : State) : State :=
  let s := ((s.setCmd 9 false).setCmd 11 false).onSmc fun m => { m with lockTimer := none }
  if s.seatsMade then s.onSmc fun m => { m with motion := .seated } else s.enterHalted

/-- A controlled halt in LOCKING (R68). -/
def State.haltLocking (s : State) : State :=
  ((s.setCmd 8 false).setCmd 10 false).onSmc fun m => { m with lockTimer := none, motion := .seated }

/-- A controlled halt, by motion state (R72). -/
def State.halt (s : State) : State :=
  match s.smc.motion with
  | .raising | .lowering | .seating =>
    match s.smc.stop with
    | .none | .arrival => s.beginStop .halt
    | .halt | .quick => s
  | .holding => s.enterHalted.holdingLeft
  | .unlocking => s.haltUnlocking
  | .locking => s.haltLocking
  | .initial | .seatedLocked | .seated | .halted | .tripped => s

/-- A controlled halt on an event, in the states that R73 lists for it. -/
def State.haltIn (s : State) (l : List Motion) : State := if l.contains s.smc.motion then s.halt else s

/-- A hold of a kind has been placed (R73, R74). -/
def State.smcHoldPlaced (s : State) (k : HoldKind) : State :=
  match k with
  | .noRaise => s.haltIn [.unlocking, .raising]
  | .noLower => s.quickStop
  | .noMotion => (s.haltIn [.unlocking, .raising]).quickStop
  | .keepClosed | .marineStop => s

/-- A GATE fault has become ACTIVE (R73). -/
def State.smcGateFault (s : State) : State := s.haltIn [.raising, .holding, .lowering, .seating]

/-- The WIND monitor has entered ALERT (R73). -/
def State.smcWindAlert (s : State) : State := s.haltIn [.unlocking, .raising]

/-- The SUPPLY monitor has entered ALERT (R73). -/
def State.smcSupplyAlert (s : State) : State := s.haltIn [.unlocking, .raising, .lowering, .seating, .locking]

/-! ### Starting a motion (R59, R63, R64, R66) -/

/-- Both towers start in a direction (R59). -/
def State.startTowers (s : State) (raise : Bool) : State := (s.startTower raise .a).startTower raise .b

/-- RAISING is entered (R59, R70), with both WITHDRAW commands off (R57). -/
def State.enterRaising (s : State) : State :=
  let s := ((s.setCmd 9 false).setCmd 11 false).onSmc fun m => { m with motion := .raising, stop := .none, lockTimer := none }
  ((s.startTowers true).setAttendance).compare

/-- UNLOCKING is entered (R64). -/
def State.enterUnlocking (s : State) : State :=
  let s := s.onSmc fun m => { m with motion := .unlocking, lockTimer := startTimer (secTicks s.act.lockTravel) }
  (s.setCmd 9 (!s.line 11)).setCmd 11 (!s.line 13)

/-- LOWERING is entered (R66). -/
def State.enterLowering (s : State) : State :=
  let s := s.onSmc fun m => { m with motion := .lowering, stop := .none, target := none }
  ((s.startTowers false).setAttendance).compare

/-- Channels 0 and 1 are both VALID in the latest set (R63, R66). -/
def State.positionsValid (s : State) : Bool :=
  s.mu.set.any fun m => m.channels.c0.state = .valid && m.channels.c1.state = .valid

/-- The span height of the latest set, 0 without one; the conditions test first that there is one. -/
def State.spanHeight (s : State) : Int := (s.heights.map (·.hs)).getD 0

/-- The conditions of R63's table. -/
def State.mayRaise (s : State) (target : Nat) : Bool :=
  s.rcs.road = .sealed && !s.hasHold .noRaise && !s.hasHold .noMotion && !s.windAlert && !s.supplyAlert &&
    s.positionsValid && !s.deckOccupied && !s.motionDisplaced && !s.tripFaultActive &&
    s.spanHeight + s.act.ztol < (target : Int)

/-- The states in which a raise is accepted (R63). -/
def State.raiseState (s : State) : Bool :=
  match s.smc.motion with
  | .seatedLocked | .seated | .halted | .holding => true
  | .raising => s.smc.stop = .none
  | _ => false

/-- The opening's target when an opening is live (R62). -/
def State.openingTarget (s : State) : Option Nat :=
  if s.opening.state = .none then none else some (s.opening.target.getD 0)

/-- An accepted raise (R63, R65). -/
def State.acceptRaise (s : State) (t : Nat) : State :=
  let m := s.smc.motion
  let s := s.onSmc fun m => { m with target := some t }
  match m with
  | .raising => s
  | .holding => s.enterRaising.holdingLeft
  | _ => if s.bothWithdrawn then s.enterRaising else s.enterUnlocking

/-- What a raise asks for (R62): a height, the opening's target, or the panel's choice. -/
inductive RaiseWish
  | height (h : Nat)
  | noHeight
  | panel
deriving DecidableEq, Repr

/-- The chosen target, before it is taken as at most Hfull (R62). -/
def State.wishTarget (s : State) : RaiseWish → Option Nat
  | .height h => some h
  | .noHeight => s.openingTarget
  | .panel => some (s.openingTarget.getD s.act.hfull.toNat)

/-- SMC takes a raise (R62, R63, R81): its status, the CLAMPED flag and the state. DEDUCED (log 10): displacement
first, then the motion state, then the choice of target, then the conditions. -/
def State.raise (s : State) (w : RaiseWish) : Status × Bool × State :=
  if s.motionDisplaced || !s.raiseState then (.notNow, false, s)
  else
    match s.wishTarget w with
    | none => (.badArgument, false, s)
    | some want =>
      let hfull := s.act.hfull.toNat
      let t := min want hfull
      if s.mayRaise t then
        let hand : Bool := (match w with | .height _ => true | _ => false) && s.opening.state ≠ .none
        let s := if hand then s.onOpening fun o => { o with target := some t } else s
        (.ok, decide (hfull < want), s.acceptRaise t)
      else (.notNow, false, s)

/-- The conditions of R66's table. -/
def State.mayLower (s : State) : Bool :=
  s.rcs.road = .sealed && s.opening.state = .none && (s.membersIn .transiting).isEmpty && s.beamsClear &&
    !s.hasHold .noLower && !s.hasHold .noMotion && !s.supplyAlert && s.positionsValid && s.bothWithdrawn &&
    !s.motionDisplaced && !s.tripFaultActive

/-- The conditions of a request to lock (R68). -/
def State.mayLock (s : State) : Bool :=
  s.seatsMade && !s.hasHold .noLower && !s.hasHold .noMotion && !s.supplyAlert && !s.motionDisplaced && !s.tripFaultActive

/-- A lowering asks to lock the span (R66, R68). -/
def State.lowerLocks (s : State) : Bool :=
  s.smc.motion = .seated || (s.smc.motion = .halted && s.seatsMade && !s.bothWithdrawn)

/-- SMC takes a lowering (R66, R68, R81). -/
def State.lower (s : State) : Status × State :=
  if s.motionDisplaced then (.notNow, s)
  else if s.lowerLocks then if s.mayLock then (.ok, s.enterLocking) else (.notNow, s)
  else if (s.smc.motion = .holding || s.smc.motion = .halted) && s.mayLower then
    let was := s.smc.motion
    let s := if s.act.ztol < s.spanHeight then s.enterLowering else (s.enterSeating true).compare
    (.ok, if was = .holding then s.holdingLeft else s)
  else (.notNow, s)

/-! ### Leaving INITIAL and TRIPPED (R58, R80) -/

/-- Both towers read at most Ztol and both seat switches are made (R58, R80). -/
def State.onSeats (s : State) : Bool :=
  s.heights.any (fun h => h.hA ≤ s.act.ztol && h.hB ≤ s.act.ztol) && s.seatsMade

/-- SMC leaves INITIAL once qualification is complete and the latest set shows both position channels VALID (R58). -/
def State.leaveInitial (s : State) : State :=
  if s.smc.motion = .initial && s.isQualified && s.heights.isSome then
    s.onSmc fun m =>
      { m with motion := if s.onSeats then (if s.bothDriven then .seatedLocked else .seated) else .halted }
  else s

/-- SMC is told of an acknowledgement (R80). -/
def State.smcAcknowledged (s : State) : State :=
  if s.smc.motion = .tripped && !s.tripFaultActive then
    s.onSmc fun m => { m with motion := if s.onSeats then .seated else .halted }
  else s

/-! ### Timers of the towers and locks -/

/-- A tower's brake timer expires (R59, R61). -/
def State.brakeExpiry (s : State) (t : Tower) : State :=
  let r := s.tower t
  match r.phase, r.brakeTimer with
  | .releasingBrake, some _ =>
    ((s.setCmd (towerFn t 2) true).setTower t { r with phase := .running, brakeTimer := none }).compare
  | .settingBrake, some _ =>
    let s := s.releaseDirection t
    ((s.setTower t { s.tower t with phase := .atRest, brakeTimer := none }).checkRest).compare
  | _, _ => s

/-- A tower's reversal interval expires (R59, R60). -/
def State.reversalExpiry (s : State) (t : Tower) : State :=
  if (s.tower t).reversal.isNone then s
  else
    let s := s.setTower t { s.tower t with reversal := none }
    if (s.tower t).phase = .waitingReversal then
      (s.assertDirection t (decide (s.smc.motion = .raising))).compare
    else s

/-- The lock travel timer expires (R79). -/
def State.lockTimeout (s : State) : State := if s.smc.lockTimer.isSome then s.pulseFault 10 else s

/-- The seat timer expires (R79). -/
def State.seatTimeout (s : State) : State := if s.smc.seatTimer.isSome then s.pulseFault 11 else s

/-- The attendance timer expires (R71). -/
def State.attendanceExpiry (s : State) : State :=
  match s.smc.attendance with
  | .counting _ => s.halt
  | _ => s

def TowerRec.comparison (r : TowerRec) : Proving → Comparison
  | .raiseAux => r.raiseCmp
  | .lowerAux => r.lowerCmp
  | .brake => r.brakeCmp

def TowerRec.setComparison (r : TowerRec) (p : Proving) (c : Comparison) : TowerRec :=
  match p with
  | .raiseAux => { r with raiseCmp := c }
  | .lowerAux => { r with lowerCmp := c }
  | .brake => { r with brakeCmp := c }

def proveFault (t : Tower) : Proving → Fin 37
  | .raiseAux | .lowerAux => outputProveFault t
  | .brake => brakeProveFault t

/-- A disagreement timer expires (R77). -/
def State.disagreementExpiry (s : State) (t : Tower) (p : Proving) : State :=
  match (s.tower t).comparison p with
  | .disagrees _ => ((s.setTower t ((s.tower t).setComparison p .failed)).tripReport (proveFault t p) true).compare
  | _ => s

/-- SMC examines a tower in RAMPING_DOWN at a drive period boundary (R61). -/
def State.examineTower (s : State) (t : Tower) : State :=
  if (s.tower t).phase = .rampingDown && (s.om.speed.get t).live = 0 then s.setBrake t else s

/-! ### Limits and skew (R53, R78) -/

/-- The limit part of OVERTRAVEL: an ultimate limit line (2 or 7) qualified reached. -/
def State.limitReached (s : State) : Bool := s.isQualified && (!(s.line 2) || !(s.line 7))

/-- The OVERTRAVEL condition (R78). -/
def State.isOvertravel (s : State) : Bool := s.smc.heightOver || s.limitReached

/-- Report OVERTRAVEL, fault 2 (R78). -/
def State.reportOvertravel (s : State) : State := s.tripReport 2 s.isOvertravel

/-- Report SKEW, fault 1, from a set's skew (R53). -/
def State.reportSkew (s : State) (skew : Int) : State := s.tripReport 1 (decide (s.act.strip ≤ (skew.natAbs : Int)))

/-- The skew warning and the height part of OVERTRAVEL, from a set that carries heights (R53, R78). -/
def State.noteHeights (s : State) (h : Heights) : State :=
  s.onSmc fun m =>
    { m with skewWarning := decide (s.act.salarm ≤ (h.skew.natAbs : Int)),
             heightOver := decide (s.act.hfull + 100 < h.hA) || decide (s.act.hfull + 100 < h.hB) }

/-! ### The measurement set (section 3.4, R58, R65, R67) -/

/-- Arrival (R65) and the entry to SEATING (R67) at a completion. -/
def State.goalTest (s : State) : State :=
  match s.heights with
  | none => s
  | some h =>
    if s.smc.stop ≠ .none then s
    else if s.smc.motion = .raising && ((s.smc.target.getD 0 : Nat) : Int) - h.hs ≤ s.act.ztol then s.beginStop .arrival
    else if s.smc.motion = .lowering && max h.hA h.hB ≤ s.act.zcreep then (s.enterSeating false).compare
    else s

/-- What one completion brings SMC to do; the spec gives no order among them (log 1). -/
inductive SetTask | motion | skew (s : Int) | overtravel
deriving DecidableEq, Repr

def State.doSetTask (s : State) : SetTask → State
  | .motion => s.leaveInitial.goalTest.speedControl
  | .skew x => s.reportSkew x
  | .overtravel => s.reportOvertravel

/-- SMC takes a measurement set (R33). -/
def State.smcTakesSet (s : State) : State :=
  match s.heights with
  | none => s.doSetTask .motion
  | some h =>
    let s := s.noteHeights h
    let skewTask := if s.faultChanges 1 (decide (s.act.strip ≤ (h.skew.natAbs : Int))) then [SetTask.skew h.skew] else []
    let overTask := if s.faultChanges 2 s.isOvertravel then [SetTask.overtravel] else []
    s.inAnyOrder (SetTask.motion :: (skewTask ++ overTask)) State.doSetTask

/-! ### Input events (R1, R64, R66 to R70, R73, R74, R78, R79) -/

/-- A lock qualifies withdrawn-proven (R64). -/
def State.lockWithdrawn (s : State) (t : Tower) : State :=
  if s.smc.motion = .unlocking then
    let s := s.setCmd (withdrawFn t) false
    if s.bothWithdrawn then s.enterRaising else s
  else s

/-- Some RAISE, LOWER or BRAKE_RELEASE command is on (R79). -/
def State.driveCommanded (s : State) : Bool := [0, 1, 2, 4, 5, 6].any fun f => s.cmd f

/-- A lock loses its withdrawn proving (R79). -/
def State.withdrawnLost (s : State) : State :=
  let m := s.smc.motion
  if s.driveCommanded || m = .raising || m = .holding || m = .lowering || m = .seating then s.pulseFault 10 else s

/-- A lock qualifies driven-proven (R68). -/
def State.lockDriven (s : State) (t : Tower) : State :=
  if s.smc.motion = .locking then (s.setCmd (driveFn t) false).finishLocking else s

/-- SEATED_LOCKED is lost (R69). -/
def State.seatedLockedLost (s : State) : State :=
  if s.smc.motion = .seatedLocked then s.onSmc fun m => { m with motion := .seated } else s

/-- A seat switch changes (R51, R67, R69). -/
def State.seatEvent (s : State) (t : Tower) (made : Bool) : State :=
  if made then if s.smc.motion = .seating then ((s.seatTower t).checkSeated).compare else s
  else s.seatedLockedLost

/-- SMC takes an input event (R1). -/
def State.smcLine (s : State) (l : Fin 48) (b : Bool) : State :=
  match l.val with
  | 1 => s.seatEvent .a b
  | 6 => s.seatEvent .b b
  | 2 | 7 => s.reportOvertravel
  | 3 | 4 | 5 | 8 | 9 | 10 => s.compare
  | 11 => if b then s.lockWithdrawn .a else s.withdrawnLost
  | 13 => if b then s.lockWithdrawn .b else s.withdrawnLost
  | 12 => if b then s.lockDriven .a else s.seatedLockedLost
  | 14 => if b then s.lockDriven .b else s.seatedLockedLost
  | 31 | 32 => if b then s else s.haltIn [.unlocking, .raising]
  | 33 | 34 => if b then s else s.quickStop
  | 36 | 38 => s.attendanceSource
  | 39 => if b && s.isLocal then (s.raise .panel).2.2 else s
  | 40 => if b && s.isLocal then s.lower.2 else s
  | _ => s

/-! ### The E-stop loop (R14, R15) -/

/-- The ESTOP condition (R15, R16). -/
def State.isEstop (s : State) : Bool := !s.om.loopClosed || (s.isQualified && !s.line 0)

/-- OM reports the ESTOP condition, fault 0 (R15); in UNCONFIGURED it reports none (R16). -/
def State.reportEstop (s : State) : State := if s.configured then s.tripReport 0 s.isEstop else s

/-- The protection latch sets, forces the drive-rank functions off and zeroes both duties (R14). -/
def State.setLatch (s : State) : State := if s.om.latch then s else s.onOm fun o => { o.zeroDuties with latch := true }

end Sys2Proof.Machine
end

