-- ==== Sys2Proof/Machine/Road.lean ====
section
/-! DEFINITION. The Road Closure Sequencer (chapter 5). -/

namespace Sys2Proof.Machine

/-! ### Reading -/

def State.gate (s : State) (g : Gate) : GateRec := s.rcs.gates.get g

def State.setGate (s : State) (g : Gate) (r : GateRec) : State := s.onRcs fun m => { m with gates := m.gates.set g r }

/-- The position that a gate's two proving lines show (R89). -/
def State.provenPos (s : State) (g : Gate) : GatePos :=
  match s.line (gateUpLine g), s.line (gateDownLine g) with
  | true, false => .up
  | false, true => .down
  | false, false => .moving
  | true, true => .unknown

/-- A warning gate's zone is clear (lines 27 to 30); the barriers have no zones (R95). -/
def State.zoneClear (s : State) : Gate → Bool
  | .w1 => s.line 27
  | .w2 => s.line 28
  | .w3 => s.line 29
  | .w4 => s.line 30
  | .b1 | .b2 => true

/-- RCS is suspended while any cause is present (R102). -/
def Rcs.suspended (r : Rcs) : Bool := r.causeGate || r.causeLoop || r.causeSupply

/-- Gate motors may run: neither suspended nor holding (R89). -/
def Rcs.live (r : Rcs) : Bool := !r.suspended && !r.holding

/-- The position that a command asks for. -/
def cmdPos : GateCmd → Option GatePos
  | .none => none
  | .down => some .down
  | .up => some .up

/-- Some GATE fault is ACTIVE or LATCHED (R102). -/
def State.gateFaulted (s : State) : Bool := Gate.all.any fun g => s.fault (gateFault g) ≠ .clear

/-- One of the four road heads is impaired (R93). -/
def State.roadHeadImpaired (s : State) : Bool :=
  s.pg.impaired.warnN || s.pg.impaired.warnS || s.pg.impaired.trafN || s.pg.impaired.trafS

/-! ### Aspects (R85, R86) -/

/-- Set the warning heads' aspect; the same aspect is not sent again (R86). -/
def State.setWarn (s : State) (a : Aspect) : State :=
  if s.rcs.warnAspect = a then s
  else ((s.onRcs fun m => { m with warnAspect := a }).requestAspect .warnN a).requestAspect .warnS a

/-- Set the traffic heads' aspect; the same aspect is not sent again (R86). -/
def State.setTraf (s : State) (a : Aspect) : State :=
  if s.rcs.trafAspect = a then s
  else ((s.onRcs fun m => { m with trafAspect := a }).requestAspect .trafN a).requestAspect .trafS a

/-! ### Gate functions and drives (R89 to R92, R95) -/

/-- Issue a gate's functions from its command (R89). -/
def State.issueGate (s : State) (g : Gate) : State :=
  let live := s.rcs.live
  (s.setCmd (gateDownFn g) (live && (s.gate g).cmd = .down)).setCmd (gateUpFn g) (live && (s.gate g).cmd = .up)

def State.issueGates (s : State) : State := Gate.all.foldl State.issueGate s

/-- Every travel timer stops (R101, R103). -/
def State.stopTravel (s : State) : State :=
  s.onRcs fun m => { m with gates := m.gates.mapAll fun r => { r with travel := none } }

/-- Update a suspension cause. At the first cause every function goes off and every travel timer stops (R102, R103);
the restart after the last stands with the events that can remove one. -/
def State.setCauses (s : State) (f : Rcs → Rcs) : State :=
  let was := s.rcs.suspended
  let s := s.onRcs f
  if !was && s.rcs.suspended then s.stopTravel.issueGates else s

/-- RCS takes a change of a GATE fault's value (R102). -/
def State.noteGateFaults (s : State) : State := s.setCauses fun m => { m with causeGate := s.gateFaulted }

/-- Report a gate's GATE condition, with the delivery to RCS and, at an entry to ACTIVE, to SMC (R73, R102, R197). -/
def State.reportGate (s : State) (g : Gate) (present : Bool) : State :=
  let enters := s.faultEnters (gateFault g) present
  let s := if s.faultChanges (gateFault g) present then (s.reportFault (gateFault g) present).noteGateFaults else s
  if enters then s.smcGateFault else s

/-- The GATE condition present and, after the suspension it causes, absent (R91, R92). -/
def State.pulseGate (s : State) (g : Gate) : State := (s.reportGate g true).reportGate g false

/-- The function that moves a gate in a direction. -/
def gateFnFor (g : Gate) : GateCmd → Fin 40
  | .up => gateUpFn g
  | .down | .none => gateDownFn g

/-- A drive toward a position uses a displaced function, so it is not issued (R92). DESIGN CHOICE (log 37): a drive that is only
recorded, while RCS is suspended or holding (R90), is not reported then, but when the restart makes it. -/
def State.driveBlocked (s : State) (g : Gate) (c : GateCmd) : Bool :=
  s.rcs.live && some (s.gate g).pos ≠ cmdPos c && s.isDisplaced (gateFnFor g c)

/-- A drive of a gate toward a position, but for the report of a displaced function (R90). -/
def State.moveGate (s : State) (g : Gate) (c : GateCmd) : State :=
  let r := s.gate g
  if some r.pos = cmdPos c || s.driveBlocked g c then (s.setGate g { r with cmd := .none, travel := none }).issueGate g
  else
    let t := if s.rcs.live then startTimer (secTicks s.act.gateTime) else none
    (s.setGate g { r with cmd := c, travel := t }).issueGate g

/-- What a drive asked for amounts to: a warning gate asked DOWN while its zone is occupied and it is not already down
goes UP with its obstruction flag set, and an obstructed gate goes UP (R95). -/
def State.driveTarget (s : State) (g : Gate) (c : GateCmd) : GateCmd :=
  if c = .down && ((s.gate g).obstructed || ((s.gate g).pos ≠ .down && !s.zoneClear g)) then .up else c

/-- Set the obstruction flag where a drive DOWN was turned into one UP, with the settle timer stopped (R95). -/
def State.flagObstructed (s : State) (g : Gate) (c : GateCmd) : State :=
  if c = .down && s.driveTarget g c = .up && !(s.gate g).obstructed then
    s.setGate g { s.gate g with obstructed := true, settle := .stopped }
  else s

/-- The gates that a road state keeps under drive, with the position asked (R94, R97, R99). -/
def stepGates (road : Road) (phase : RaisingPhase) : List (Gate × GateCmd) :=
  match road, phase with
  | .entryLowering, _ | .clearing, _ => [(.w1, .down), (.w3, .down)]
  | .exitLowering, _ => [(.w1, .down), (.w3, .down), (.w2, .down), (.w4, .down)]
  | .barrierLowering, _ => [(.w1, .down), (.w3, .down), (.w2, .down), (.w4, .down), (.b1, .down), (.b2, .down)]
  | .barrierRaising, _ => [(.b1, .up), (.b2, .up)]
  | .gateRaising, .exit => [(.w2, .up), (.w4, .up)]
  | .gateRaising, .entry => [(.w1, .up), (.w3, .up)]
  | .isOpen, _ | .prewarn, _ | .sealed, _ | .extinguish, _ | .recovery, _ => []

def State.stepGates (s : State) : List (Gate × GateCmd) := Machine.stepGates s.rcs.road s.rcs.phase

/-- Drive a list of gates (R90, R92, R95). DESIGN CHOICE (log 34): first every drive of the step is made, then every gate whose
function is displaced is reported, the second one too although the first report has suspended RCS. -/
def State.driveGates (s : State) (l : List (Gate × GateCmd)) : State :=
  let s := l.foldl (fun s x => s.flagObstructed x.1 x.2) s
  let blocked := l.filter fun x => s.driveBlocked x.1 (s.driveTarget x.1 x.2)
  let s := l.foldl (fun s x => s.moveGate x.1 (s.driveTarget x.1 x.2)) s
  blocked.foldl (fun s x => s.pulseGate x.1) s

def State.driveStep (s : State) : State := s.driveGates s.stepGates

/-! ### The steps (R93, R94, R97, R99) -/

/-- Every gate of the step is proven at its position, with no obstruction flag set (R90, R94, R95). -/
def State.stepDone (s : State) : Bool :=
  s.stepGates.all fun x => some (s.gate x.1).pos = cmdPos x.2 && !(s.gate x.1).obstructed

def State.setRoad (s : State) (r : Road) : State := s.onRcs fun m => { m with road := r }

/-- The clearing timer runs from Tclear while both deck loops are clear (R94). -/
def State.armClearing (s : State) : State :=
  s.onRcs fun m => { m with clearing := if s.deckOccupied then .stopped else .running (secTicks s.act.tclear) }

/-- Every command becomes NONE and every travel timer stops. -/
def State.dropCommands (s : State) : State :=
  (s.onRcs fun m => { m with gates := m.gates.mapAll fun r => { r with cmd := .none, travel := none } }).issueGates

/-- The next state of a step that has ended (R94, R97, R99); none where no step has ended. -/
def State.nextStep (s : State) : Option State :=
  match s.rcs.road with
  | .entryLowering => if s.stepDone then some (s.setRoad .clearing).armClearing else none
  | .clearing =>
    if s.stepDone && s.rcs.clearing = .expired then
      some ((s.onRcs fun m => { m with road := .exitLowering, clearing := .stopped }).driveStep)
    else none
  | .exitLowering => if s.stepDone then some (s.setRoad .barrierLowering).driveStep else none
  | .barrierLowering => if s.stepDone then some (s.setRoad .sealed).dropCommands else none
  | .barrierRaising =>
    if s.stepDone then some ((s.onRcs fun m => { m with road := .gateRaising, phase := .exit }).driveStep) else none
  | .gateRaising =>
    if s.stepDone then
      match s.rcs.phase with
      | .exit => some ((s.onRcs fun m => { m with phase := .entry }).driveStep)
      | .entry =>
        some (((s.setRoad .extinguish).onRcs fun m =>
          { m with extinguish := startTimer (secTicks s.act.textinguish) }).setTraf .green)
    else none
  | .isOpen | .prewarn | .sealed | .extinguish | .recovery => none

/-- The state advances past every step that has ended, while neither suspended nor holding (R101, R104). -/
def State.advanceSteps : Nat → State → State
  | 0, s => s
  | n + 1, s =>
    if !s.rcs.live then s
    else
      match s.nextStep with
      | none => s
      | some s' => advanceSteps n s'

/-- At most four steps follow one another. -/
def State.advance (s : State) : State := State.advanceSteps 6 s

/-- ENTRY_LOWERING is entered (R93, R94). -/
def State.enterEntryLowering (s : State) : State :=
  let s := s.onRcs fun m => { m with road := .entryLowering, waitingHeads := false }
  ((s.setTraf .red).driveStep).advance

/-- The closure waits for the heads at the end of PREWARN, and goes on when none is impaired (R93). DEDUCED (log 11):
while suspended it goes on at the restart, as the end of any step does (R104). -/
def State.headsChecked (s : State) : State :=
  if s.rcs.waitingHeads && s.rcs.road = .prewarn && !s.roadHeadImpaired && !s.rcs.suspended then s.enterEntryLowering else s

/-- The interrupted step restarts (R101, R104). -/
def State.restartStep (s : State) : State := if s.rcs.live then (s.driveStep.headsChecked).advance else s

/-- Remove or add suspension causes; the restart follows where the last one leaves (R102, R104). -/
def State.changeCauses (s : State) (f : Rcs → Rcs) : State :=
  let was := s.rcs.suspended
  let s := s.setCauses f
  if was && !s.rcs.suspended then s.restartStep else s

/-! ### Requests (R87, R88, R99, R100) -/

/-- The budget clock starts when the road leaves OPEN or RECOVERY (R105). -/
def State.startBudget (s : State) : State :=
  if s.rcs.road = .isOpen || s.rcs.road = .recovery then
    s.onRcs fun m => { m with budgetTimer := startTimer (secTicks 1) }
  else s

/-- A CLOSE from OPEN, RECOVERY, BARRIER_RAISING, GATE_RAISING or EXTINGUISH takes the road to PREWARN (R86, R87, R100). -/
def State.enterPrewarn (s : State) : State :=
  let fromGreen := s.rcs.road = .isOpen || s.rcs.road = .extinguish
  let s := s.startBudget
  let s := s.onRcs fun m =>
    { m with road := .prewarn, holding := false, extinguish := none, prewarn := startTimer (secTicks s.act.tprewarn),
             amber := if fromGreen then startTimer (secTicks s.act.tamber) else none }
  (s.dropCommands.setWarn .flash).setTraf (if fromGreen then .amber else .red)

/-- RCS takes a CLOSE (R87). -/
def State.closeRoad (s : State) : State :=
  match s.rcs.road with
  | .isOpen | .recovery | .barrierRaising | .gateRaising | .extinguish => s.enterPrewarn
  | .prewarn | .entryLowering | .clearing | .exitLowering | .barrierLowering | .sealed => s

/-- The GATE conditions of SEALED are gone when the road leaves it (R98). -/
def State.leaveSealed (s : State) : State :=
  if s.rcs.road = .sealed then Gate.all.foldl (fun s g => s.reportGate g false) s else s

def GateRec.clearForRaising (r : GateRec) : GateRec :=
  { r with cmd := .none, travel := none, obstructed := false, settle := .stopped }

/-- BARRIER_RAISING is entered (R88, R99). DESIGN CHOICE (log 41): the spec gives the raising phase a value in GATE_RAISING and at a
reset alone; the model sets EXIT here, as the first phase of the reopening that begins, and lets ENTRY stand from the end of
GATE_RAISING until the next one. -/
def State.enterBarrierRaising (s : State) : State :=
  let s := s.leaveSealed.startBudget
  let s := s.onRcs fun m =>
    { m with road := .barrierRaising, phase := .exit, prewarn := none, amber := none, clearing := .stopped,
             waitingHeads := false, gates := m.gates.mapAll GateRec.clearForRaising }
  ((s.issueGates.setWarn .flash).setTraf .red).driveStep.advance

/-- RCS takes a REOPEN (R88). -/
def State.reopenRoad (s : State) : Status × State :=
  match s.rcs.road with
  | .isOpen | .barrierRaising | .gateRaising | .extinguish => (.ok, s)
  | .sealed | .recovery | .prewarn | .entryLowering | .clearing | .exitLowering | .barrierLowering =>
    if s.smc.motion = .seatedLocked && !s.hasHold .keepClosed then (.ok, s.enterBarrierRaising) else (.notNow, s)

/-! ### Timers -/

/-- The prewarn timer expires (R93). -/
def State.prewarnExpiry (s : State) : State :=
  if s.rcs.prewarn.isNone || s.rcs.suspended || s.rcs.road ≠ .prewarn then s
  else
    let s := s.onRcs fun m => { m with prewarn := none }
    if s.roadHeadImpaired then s.onRcs fun m => { m with waitingHeads := true } else s.enterEntryLowering

/-- The amber timer expires (R86, R93). -/
def State.amberExpiry (s : State) : State :=
  if s.rcs.amber.isNone || s.rcs.suspended then s
  else
    let s := s.onRcs fun m => { m with amber := none }
    if s.rcs.road = .prewarn then s.setTraf .red else s

/-- The clearing timer expires (R94). -/
def State.clearingExpiry (s : State) : State :=
  match s.rcs.clearing with
  | .running _ => if s.rcs.suspended then s else (s.onRcs fun m => { m with clearing := .expired }).advance
  | _ => s

/-- The extinguish timer expires: OPEN (R99, R105). -/
def State.extinguishExpiry (s : State) : State :=
  if s.rcs.extinguish.isNone || s.rcs.suspended || s.rcs.road ≠ .extinguish then s
  else
    (s.onRcs fun m =>
      { m with road := .isOpen, extinguish := none, budget := s.act.bmax.toNat, budgetTimer := none }).setWarn .dark

/-- A travel timer expires (R91). -/
def State.travelExpiry (s : State) (g : Gate) : State :=
  if (s.gate g).travel.isNone then s
  else ((s.setGate g { s.gate g with cmd := .none, travel := none }).issueGate g).pulseGate g

/-- An obstructed gate that is up-proven comes down again (R96). -/
def State.lowerAgain (s : State) (g : Gate) : State :=
  (s.setGate g { s.gate g with obstructed := false, settle := .stopped }).driveGates [(g, .down)]

/-- A settle timer expires (R96). DESIGN CHOICE (log 40): R96 marks the timer of a gate that is not yet up-proven, and ends that an
expiry taken while RCS is suspended clears the flag and records DOWN; of a suspended gate that is not yet up-proven the model only
marks the timer, as of any other, and keeps the flag until the gate is up-proven. -/
def State.settleExpiry (s : State) (g : Gate) : State :=
  match (s.gate g).settle with
  | .running _ =>
    if (s.gate g).pos = .up then s.lowerAgain g else s.setGate g { s.gate g with settle := .expired }
  | _ => s

/-- A tick of the budget clock (R105, R106). -/
def State.budgetTick (s : State) : State :=
  if s.rcs.budgetTimer.isNone then s
  else
    let was := s.rcs.budget
    let s := s.onRcs fun m => { m with budget := m.budget - 1, budgetTimer := startTimer (secTicks 1) }
    if was = 1 then s.budgetSpent else s

/-! ### Input events (R89, R90, R94 to R96, R98, R102) -/

/-- The position `p` is the one at which a step that asks for `c` keeps the gate: an obstructed gate is kept at the top (R90, R95). -/
def State.keptAt (s : State) (g : Gate) (c : GateCmd) (p : GatePos) : Bool :=
  some p = cmdPos (if c = .down && (s.gate g).obstructed then .up else c)

/-- A gate that reaches its commanded position stops (R90), an obstructed one may come down again (R96), and one that
the step drives and that has lost its proving at the position `was` is driven again (R90, R94); while RCS is suspended or holding
that drive is recorded, with no motor and no timer (R90). -/
def State.gateMoved (s : State) (g : Gate) (was : GatePos) : State :=
  let r := s.gate g
  let s :=
    if s.rcs.live && r.cmd ≠ .none && some r.pos = cmdPos r.cmd then
      (s.setGate g { r with cmd := .none, travel := none }).issueGate g
    else s
  if (s.gate g).obstructed && (s.gate g).settle = .expired && r.pos = .up then s.lowerAgain g
  else if (s.gate g).cmd = .none then
    s.driveGates (s.stepGates.filter fun x => x.1 = g && (s.rcs.live || s.keptAt g x.2 was))
  else s

/-- A proving line of a gate changes (R89, R90, R98). -/
def State.provingEvent (s : State) (g : Gate) : State :=
  let was := (s.gate g).pos
  let s := s.setGate g { s.gate g with pos := s.provenPos g }
  if s.rcs.road = .sealed then s.reportGate g (decide ((s.gate g).pos ≠ .down)) else (s.gateMoved g was).advance

/-- A zone changes (R95, R96). -/
def State.zoneEvent (s : State) (g : Gate) : State :=
  let r := s.gate g
  if s.zoneClear g then
    if r.obstructed then s.setGate g { r with settle := .running (secTicks s.act.settleTime) } else s
  else if r.obstructed then s.setGate g { r with settle := .stopped }
  else if r.cmd = .down then (s.setGate g { r with obstructed := true, settle := .stopped }).driveGates [(g, .up)]
  else s

/-- A deck loop changes (R94). -/
def State.loopEvent (s : State) : State := if s.rcs.road = .clearing then s.armClearing else s

/-- RCS takes an input event (R1). -/
def State.rcsLine (s : State) (l : Fin 48) (b : Bool) : State :=
  match l.val with
  | 0 => s.changeCauses fun m => { m with causeLoop := !b }
  | 15 | 16 => s.provingEvent .w1
  | 17 | 18 => s.provingEvent .w2
  | 19 | 20 => s.provingEvent .w3
  | 21 | 22 => s.provingEvent .w4
  | 23 | 24 => s.provingEvent .b1
  | 25 | 26 => s.provingEvent .b2
  | 27 => s.zoneEvent .w1
  | 28 => s.zoneEvent .w2
  | 29 => s.zoneEvent .w3
  | 30 => s.zoneEvent .w4
  | 31 | 32 => s.loopEvent
  | 41 => if b && s.isLocal then s.closeRoad else s
  | 42 => if b && s.isLocal then s.reopenRoad.2 else s
  | _ => s

/-- The qualification complete event (R102, R109): first positions, the recovery decision, and the loop's level. -/
def State.rcsQualified (s : State) : State :=
  let s := Gate.all.foldl (fun s g => s.setGate g { s.gate g with pos := s.provenPos g }) s
  let s :=
    if s.rcs.road = .recovery && Gate.all.all (fun g => (s.gate g).pos = .down) then s.startBudget.setRoad .sealed else s
  s.changeCauses fun m => { m with causeLoop := !s.line 0 }

/-! ### KEEP_CLOSED holds and the SUPPLY monitor (R101, R102) -/

/-- A KEEP_CLOSED hold has been placed (R101). -/
def State.keepClosedPlaced (s : State) : State :=
  if s.rcs.road = .barrierRaising || s.rcs.road = .gateRaising then
    ((s.onRcs fun m => { m with holding := true }).stopTravel).issueGates
  else s

/-- A KEEP_CLOSED hold has been released (R101). -/
def State.keepClosedReleased (s : State) : State :=
  if s.rcs.holding && !s.hasHold .keepClosed then (s.onRcs fun m => { m with holding := false }).restartStep else s

/-- RCS takes the SUPPLY monitor's entry to and exit from ALERT (R102). -/
def State.rcsSupply (s : State) (alert : Bool) : State := s.changeCauses fun m => { m with causeSupply := alert }

/-- RCS takes the acknowledgement's changes of GATE faults (R102, R104). -/
def State.rcsAcknowledged (s : State) : State := s.changeCauses fun m => { m with causeGate := s.gateFaulted }

/-- PG delivers a change of a road head's impairment (R93, R123). -/
def State.roadHeadChanged (s : State) : State := s.headsChecked

end Sys2Proof.Machine
end

