-- ==== Sys2Proof/Machine/Proving.lean ====
section
/-! DEFINITION. Lamp proving and head impairment (chapter 6, sections 6.5 and 6.6). -/

namespace Sys2Proof.Machine

/-! ### Impairment (R123) -/

/-- A lamp's LAMP fault is ACTIVE. -/
def State.lampFailed (s : State) (i : Fin 15) : Bool := s.fault (lampFault i) = .active

/-- Whether a head is impaired by the fault values of its lamps (R123). -/
def State.impairedNow (s : State) : Head → Bool
  | .warnN => s.lampFailed 4 && s.lampFailed 5
  | .warnS => s.lampFailed 6 && s.lampFailed 7
  | .trafN => s.lampFailed 8
  | .trafS => s.lampFailed 11
  | .chanU => s.lampFailed 0 || s.lampFailed 1
  | .chanD => s.lampFailed 2 || s.lampFailed 3
  | .horn => false

/-- Deliver a change of a head's impaired flag (R123). -/
def State.deliverImpaired (s : State) : Head → State
  | .warnN | .warnS | .trafN | .trafS => s.roadHeadChanged
  | .chanU => s.channelHeadChanged .down
  | .chanD => s.channelHeadChanged .up
  | .horn => s

/-- Re-form a head's impaired flag and deliver a change (R123). -/
def State.reformImpaired (s : State) (h : Head) : State :=
  if s.pg.impaired.get h = s.impairedNow h then s
  else (s.onPg fun g => { g with impaired := g.impaired.set h (s.impairedNow h) }).deliverImpaired h

/-- PG reports a lamp's or the horn's condition (R120, R122). -/
def State.reportLamp (s : State) (i : Fin 15) (present : Bool) : State :=
  if s.faultChanges (lampFault i) present then (s.reportFault (lampFault i) present).reformImpaired (lampHead i) else s

/-! ### The checks (R119 to R121) -/

/-- A lamp's counts after a check (R120): a lit check touches the lit-miss count, a dark check the dark-miss count. -/
def LampRec.check (r : LampRec) (lit sensed : Bool) : LampRec :=
  if lit then { r with litMiss := if sensed then 0 else min (r.litMiss + 1) 3 }
  else { r with darkMiss := if sensed then min (r.darkMiss + 1) 3 else 0 }

/-- A count has reached 3 (R120). -/
def LampRec.failed (r : LampRec) : Bool := r.litMiss = 3 || r.darkMiss = 3

/-- The proving check of one lamp's counts; a displaced function is not checked (R119, R122). -/
def State.checkLamp (s : State) (x : Fin 15 × Bool) : State :=
  if s.isDisplaced (lampFn x.1) then s
  else s.onPg fun g => { g with lamps := g.lamps.set x.1 ((g.lamps[x.1]).check x.2 (s.senses x.1)) }

/-- The conditions that a head's lamps change after their checks. -/
def State.lampReports (s : State) (h : Head) : List (Fin 15 × Bool) :=
  ((headLamps h).filter fun i => !s.isDisplaced (lampFn i)).filterMap fun i =>
    let f := (s.pg.lamps[i]).failed
    if s.faultChanges (lampFault i) f then some (i, f) else none

/-- The proving check of a head's step (R119), not made while the SUPPLY monitor is in ALERT (R121). -/
def State.proveHead (s : State) (h : Head) : State :=
  let r := s.pg.heads.get h
  if s.supplyAlert || r.running.isNone then s
  else
    let s := (stepLamps h (s.act.stepAt r.index)).foldl State.checkLamp s
    s.inAnyOrder (s.lampReports h) fun s x => s.reportLamp x.1 x.2

/-- A head's proving point (R119). -/
def State.provingPointOf (s : State) (h : Head) : State :=
  let r := s.pg.heads.get h
  if r.proving.isNone then s else (s.setRun h { r with proving := none }).proveHead h

/-- A head's step timer expires: the proving check that falls due there, and then the end of the step (R115). DEDUCED (log
36): an aspect that the check itself brings to start at once (R117) has begun its own step with its own timer, and this expiry
does not end it. -/
def State.stepExpiry (s : State) (h : Head) : State :=
  let r := s.pg.heads.get h
  if r.stepTimer.isNone then s
  else if r.proving.isSome && r.proving = r.stepTimer then
    let s := (s.setRun h { r with stepTimer := none }).provingPointOf h
    if (s.pg.heads.get h).stepTimer.isSome then s else s.endStep h
  else s.endStep h

/-! ### Displaced lamp functions (R122) -/

/-- A lamp at a resolution: displaced, its counts are 0 and its condition present; restored, the condition is absent. -/
def State.displaceLamp (was : List (Fin 40)) (s : State) (i : Fin 15) : State :=
  let zero (s : State) : State := s.onPg fun g => { g with lamps := g.lamps.set i { litMiss := 0, darkMiss := 0 } }
  if s.isDisplaced (lampFn i) then (zero s).reportLamp i true
  else if was.contains (lampFn i) then (zero s).reportLamp i false
  else s

/-- The lamps at a resolution, given the displaced list before it (R122). -/
def State.displaceLamps (s : State) (was : List (Fin 40)) : State :=
  (List.finRange 15).foldl (State.displaceLamp was) s

end Sys2Proof.Machine
end

