-- ==== Sys2Proof/Machine/Holds.lean ====
section
/-! DEFINITION. The Hold Table (chapter 9). -/

namespace Sys2Proof.Machine

/-- A slot with its record placed; the generation stands (R177). -/
def Ht.put (t : Ht) (i : Fin 12) (h : Hold) : Ht := { t with slots := t.slots.set i { t.slots[i] with record := some h } }

/-- A slot with its record retired; the generation moves on (R177). -/
def Ht.retire (t : Ht) (i : Fin 12) : Ht :=
  { t with slots := t.slots.set i { gen := ((t.slots[i]).gen + 1) % 256, record := none } }

/-- The handle of a slot's record (R177). -/
def State.holdHandle (s : State) (i : Fin 12) : Handle 12 := { slot := i, gen := (s.ht.slots[i]).gen }

/-- The record that a handle names, none when it is stale (R177). -/
def State.holdAt (s : State) (h : Handle 12) : Option Hold :=
  if (s.ht.slots[h.slot]).gen = h.gen then (s.ht.slots[h.slot]).record else none

/-- The slot of the live record of an owner and kind (R183). -/
def State.holdOf (s : State) (o : Owner) (k : HoldKind) : Option (Fin 12) :=
  (List.finRange 12).find? fun i => (s.ht.slots[i]).record.any fun h => h.owner = o && h.kind = k

/-- A placement is delivered to the readers of its kind (R185). `was`: the kind was in force before it. -/
def State.deliverPlaced (s : State) (k : HoldKind) (was : Bool) : State :=
  match k with
  | .noRaise | .noLower | .noMotion => s.smcHoldPlaced k
  | .keepClosed => s.keepClosedPlaced
  | .marineStop => if was then s else s.marineStopPlaced

/-- A retirement is delivered to the readers of its kind (R185): SMC takes it and changes nothing. -/
def State.deliverReleased (s : State) (k : HoldKind) : State :=
  match k with
  | .noRaise | .noLower | .noMotion => s
  | .keepClosed => s.keepClosedReleased
  | .marineStop => if s.hasHold .marineStop then s else s.decideAspects

/-- The owner and kind of each fixed slot (R177). -/
def fixedSlot : Fin 4 → Owner × HoldKind
  | 0 => (.panel, .noRaise)
  | 1 => (.panel, .noLower)
  | 2 => (.maintenance, .noMotion)
  | 3 => (.maintenance, .keepClosed)

def fixedIndex (i : Fin 4) : Fin 12 := ⟨i.val, by omega⟩

/-- A fixed slot's record is placed (R179, R180). -/
def State.placeFixed (s : State) (i : Fin 4) : State :=
  s.onHt fun t => t.put (fixedIndex i) { owner := (fixedSlot i).1, kind := (fixedSlot i).2, reason := 0, age := 0 }

/-- A fixed slot's record, if it holds one, is retired (R179, R180). -/
def State.retireFixed (s : State) (i : Fin 4) : State :=
  if (s.ht.slots[fixedIndex i]).record.isSome then s.onHt fun t => t.retire (fixedIndex i) else s

/-- Place or retire fixed records, all at once, and deliver each (R179, R180). -/
def State.setFixed (s : State) (l : List (Fin 4)) (on : Bool) : State :=
  if on then l.foldl (fun s i => s.deliverPlaced (fixedSlot i).2 false) (l.foldl State.placeFixed s)
  else l.foldl (fun s i => s.deliverReleased (fixedSlot i).2) (l.foldl State.retireFixed s)

/-- HT takes an input event (R179, R180). -/
def State.htLine (s : State) (l : Fin 48) (b : Bool) : State :=
  match l.val with
  | 43 => s.setFixed [0] b
  | 44 => s.setFixed [1] b
  | 37 => s.setFixed [2, 3] b
  | _ => s

/-- HT takes the first levels of its lines at qualification complete (R179, R180). -/
def State.htQualified (s : State) : State :=
  let s := if s.line 43 then s.setFixed [0] true else s
  let s := if s.line 44 then s.setFixed [1] true else s
  if s.line 37 then s.setFixed [2, 3] true else s

/-- The station slots in search order from the pointer (R182). -/
def searchOrder (ptr : Nat) : List (Fin 12) :=
  let l := (List.finRange 12).filter fun i => 4 ≤ i.val
  (l.filter fun i => ptr ≤ i.val) ++ (l.filter fun i => i.val < ptr)

/-- The first empty station slot in search order (R182). -/
def State.freeHoldSlot (s : State) : Option (Fin 12) :=
  (searchOrder s.ht.pointer).find? fun i => (s.ht.slots[i]).record.isNone

/-- The pointer after a placement (R182). -/
def nextPointer (i : Fin 12) : Nat := if i.val = 11 then 4 else i.val + 1

/-- The kinds that a station may place (R181). -/
def mayPlace (p : Port) (k : HoldKind) : Bool :=
  match p with
  | .operator => true
  | .traffic => k = .noLower || k = .marineStop

def portOwner : Port → Owner
  | .operator => .operator
  | .traffic => .traffic

/-- HT takes a placement that has passed its checks (R182, R183): the handle, and whether the hold already existed.
None where no station slot is empty, which R177 excludes. -/
def State.placeHold (s : State) (p : Port) (k : HoldKind) (reason : Nat) : Option (Handle 12 × Bool) × State :=
  match s.holdOf (portOwner p) k with
  | some i =>
    (some (s.holdHandle i, true),
     match (s.ht.slots[i]).record with
     | some h => s.onHt fun t => t.put i { h with reason := reason }
     | none => s)
  | none =>
    match s.freeHoldSlot with
    | none => (none, s)
    | some i =>
      let was := s.hasHold k
      let h := s.holdHandle i
      let s := s.onHt fun t =>
        { t.put i { owner := portOwner p, kind := k, reason := reason, age := 0 } with pointer := nextPointer i }
      (some (h, false), s.deliverPlaced k was)

/-- HT takes a release that has passed its checks (R184). -/
def State.releaseHold (s : State) (i : Fin 12) (k : HoldKind) : State :=
  (s.onHt fun t => t.retire i).deliverReleased k

/-- A tick of the hold clock: every age, up to 65535 (R178). -/
def Ht.tick (t : Ht) : Ht :=
  { t with slots := Vector.ofFn fun i =>
      match (t.slots[i]).record with
      | some h => { t.slots[i] with record := some { h with age := min (h.age + 1) 65535 } }
      | none => t.slots[i] }

/-- The number of live holds (R186). -/
def State.liveHolds (s : State) : List (Fin 12) := (List.finRange 12).filter fun i => (s.ht.slots[i]).record.isSome

end Sys2Proof.Machine
end

