-- ==== Sys2Proof/Machine/Monitors.lean ====
section
/-! DEFINITION. The wind speed, the supply value and the two threshold monitors (chapter 10, sections 10.1 to 10.3), and
the acknowledgement of faults (R198). -/

namespace Sys2Proof.Machine

/-- The kinds of a value (R191). -/
inductive ValueKind | crossed | band | back
deriving DecidableEq, Repr

def windKind (c : Settings) (v : Nat) : ValueKind :=
  if (v : Int) > c.windLevel then .crossed else if (v : Int) ≤ c.windLevel - c.windHyst then .back else .band

def supplyKind (c : Settings) (v : Nat) : ValueKind :=
  if (v : Int) < c.supplyLevel then .crossed else if (v : Int) ≥ c.supplyLevel + c.supplyHyst then .back else .band

/-- What a change of a monitor brings (R194, R195): an entry to ALERT from ALERT_PENDING, an entry to NORMAL, and
whether that is an exit from ALERT. -/
inductive MonitorEvent | none | toAlert | toNormal (exit : Bool)
deriving DecidableEq, Repr

/-- A monitor takes a value: the first table of R192. `d` is the delay with which a delay starts. -/
def Monitor.take (m : Monitor) (k : ValueKind) (d : Nat) : Monitor × MonitorEvent :=
  let m := { m with latestBack := decide (k = ValueKind.back) }
  match m.state, k with
  | .normal, .crossed => ({ m with state := .alertPending, delay := some d }, .none)
  | .alertPending, .band | .alertPending, .back => ({ m with state := .normal, delay := none }, .toNormal false)
  | .alert, .back => ({ m with state := .clearPending, delay := some d }, .none)
  | .clearPending, .crossed => ({ m with state := .alert, delay := none }, .none)
  | _, _ => (m, .none)

/-- The end of a monitor's delay: the second table of R192. -/
def Monitor.endDelay (m : Monitor) : Monitor × MonitorEvent :=
  match m.state with
  | .alertPending => ({ m with state := .alert, delay := none }, .toAlert)
  | .clearPending =>
    if m.latestBack then ({ m with state := .normal, delay := none }, .toNormal true)
    else ({ m with state := .alert, delay := none }, .none)
  | .normal | .alert => (m, .none)

/-- Set a rise flag or a fall flag for both stations (R195). -/
def Mfs.flagBoth (m : Mfs) (f : StationFlags → StationFlags) : Mfs :=
  { m with flags := { operator := f m.flags.operator, traffic := f m.flags.traffic } }

/-- The WIND monitor's event is flagged and delivered (R194, R195). -/
def State.windEvent (s : State) : MonitorEvent → State
  | .none => s
  | .toAlert => (s.onMfs fun m => m.flagBoth fun f => { f with windRise := true }).smcWindAlert
  | .toNormal _ => s.onMfs fun m => m.flagBoth fun f => { f with windFall := true }

/-- The SUPPLY monitor's event is flagged and delivered (R194, R195); PG reads the monitor at each proving point. -/
def State.supplyEvent (s : State) : MonitorEvent → State
  | .none => s
  | .toAlert => ((s.onMfs fun m => m.flagBoth fun f => { f with supplyRise := true }).smcSupplyAlert).rcsSupply true
  | .toNormal exit =>
    let s := s.onMfs fun m => m.flagBoth fun f => { f with supplyFall := true }
    if exit then s.rcsSupply false else s

/-! ### Wind (R189, R193) -/

/-- The window count set with a new count (R189). -/
def addWindow (l : List Nat) (n : Nat) : List Nat := if l.length < 3 then l ++ [n] else l.drop 1 ++ [n]

/-- The sum S: each missing count is taken as the newest (R189). -/
def windowSum (l : List Nat) : Nat := l.sum + (3 - l.length) * l.getLastD 0

/-- The wind speed (R189). -/
def windSpeedOf (c : Settings) (l : List Nat) : Nat := min (windowSum l * c.kw.toNat / 64) 999

/-- The WIND monitor takes a value; a delay that was running has one value less to go, and at the last it ends (R193). -/
def Monitor.takeWind (c : Settings) (m : Monitor) (v : Nat) : Monitor × MonitorEvent :=
  let r := m.take (windKind c v) c.windDelay.toNat
  match m.delay, r.1.delay with
  | some k, some _ => if k ≤ 1 then r.1.endDelay else ({ r.1 with delay := some (k - 1) }, r.2)
  | _, _ => r

/-- MFS takes one window count (R189). -/
def State.takeWindow (s : State) (n : Nat) : State :=
  let l := addWindow s.mfs.windows n
  let v := windSpeedOf s.act l
  let r := s.mfs.wind.takeWind s.act v
  (s.onMfs fun m => { m with windows := l, windSpeed := some v, wind := r.1 }).windEvent r.2

/-- The end of a wind window (R6): the count goes to MFS, and the next window begins. -/
def State.windowEnd (s : State) : State :=
  if s.iq.windowTimer.isNone then s
  else
    let n := s.iq.anemometer
    (s.onIq fun q => { q with anemometer := 0, windowTimer := startTimer (secTicks 1) }).takeWindow n

/-! ### Supply (R190, R193) -/

/-- The supply value (R190). -/
def supplyValueOf (c : Settings) (code : Nat) : Nat := code * c.ksup.toNat / 1024

/-- The code that a set gives MFS, when channel 4 is VALID and holds one (R190). -/
def MeasSet.supplyCode (m : MeasSet) : Option Nat := if m.channels.c4.state = .valid then m.channels.c4.held else none

/-- MFS takes a measurement set (R33, R190). -/
def State.mfsTakesSet (s : State) : State :=
  match s.mu.set.bind (·.supplyCode) with
  | none => s
  | some code =>
    let v := supplyValueOf s.act code
    let r := s.mfs.supply.take (supplyKind s.act v) (msTicks s.act.supplyDelay)
    (s.onMfs fun m => { m with supplyValue := some v, supply := r.1 }).supplyEvent r.2

/-- The SUPPLY delay timer expires (R193). -/
def State.supplyExpiry (s : State) : State :=
  if s.mfs.supply.delay.isNone then s
  else
    let r := s.mfs.supply.endDelay
    (s.onMfs fun m => { m with supply := r.1 }).supplyEvent r.2

/-! ### Acknowledgement (R15, R198, R199) -/

/-- The faults that an acknowledgement clears. -/
def State.latchedFaults (s : State) : List (Fin 37) := (List.finRange 37).filter fun f => s.fault f = .latched

/-- Every LATCHED fault becomes CLEAR, and the first trip fault and the alarm are revised (R198 to R200). -/
def State.clearLatched (s : State) : State :=
  (s.onMfs fun m =>
    { m with
      faults := Vector.ofFn fun f => if m.faults[f] = .latched then .clear else m.faults[f]
      firstTrip := if m.firstTrip.any fun f => m.faults[f] = .latched then none else m.firstTrip }).driveAlarm

/-- The latch is released when ESTOP becomes CLEAR (R15). -/
def State.releaseLatch (s : State) : State := (s.onOm fun o => { o with latch := false }).compare

/-- MFS takes an acknowledgement (R198): the number of faults cleared and the state. -/
def State.acknowledge (s : State) : Nat × State :=
  let l := s.latchedFaults
  let estop := l.contains 0
  let s := s.clearLatched
  let s := if estop then s.releaseLatch else s
  (l.length, s.rcsAcknowledged.smcAcknowledged)

end Sys2Proof.Machine
end

