-- ==== Sys2Proof/Machine/Measure.lean ====
section
/-! DEFINITION. The Measurement Unit (chapter 2) and its arithmetic (section 3.2). -/

namespace Sys2Proof.Machine

/-! ### Codes and states (R22 to R25, R38) -/

/-- The reference is in range (R22). -/
def refInRange (c : Settings) (q : Nat) : Bool := ((q : Int) - c.qn).natAbs * 50 ≤ c.qn.toNat

/-- The corrected code (R38). -/
def correctedCode (c : Settings) (r q : Nat) : Nat := min ((r * c.qn.toNat + q / 2) / q) 4095

/-- A code lies within 200 of a calibration span (R23). -/
def withinSpan (lo hi : Int) (code : Nat) : Bool := lo - 200 ≤ (code : Int) && (code : Int) ≤ hi + 200

/-- The state change of a converted channel (R24). -/
def ChannelState.next (st : ChannelState) (inRange : Bool) : ChannelState :=
  match st, inRange with
  | _, false => .faulted
  | .invalid, true => .priming
  | .faulted, true => .priming
  | .priming, true => .valid
  | .valid, true => .valid

/-- A channel record after a conversion (R21, R23 to R25): `code` is its corrected code, none without a valid
reference; `range` is its range rule. -/
def Channel.convert (ch : Channel) (raw : Nat) (code : Option Nat) (range : Nat → Bool) : Channel :=
  let st := ch.state.next (code.any range)
  { state := st, raw := some raw, corrected := code <|> ch.corrected,
    held := if st = .valid then code else ch.held }

/-- Channel 3's record after its conversion: its value is the raw code (R21, R25). -/
def Channel.convertRef (ch : Channel) (c : Settings) (q : Nat) : Channel :=
  let st := ch.state.next (refInRange c q)
  { state := st, raw := some q, corrected := none, held := if st = .valid then some q else ch.held }

/-- The records after a scan (R21 to R25). -/
def convertAll (c : Settings) (chs : PerChannel Channel) (codes : RawCodes) : PerChannel Channel :=
  let q := codes.ch3.toNat
  let corr (r : Nat) : Option Nat := if refInRange c q then some (correctedCode c r q) else none
  let one (ch : Channel) (r : BitVec 12) (range : Nat → Bool) : Channel := ch.convert r.toNat (corr r.toNat) range
  { c0 := one chs.c0 codes.ch0 (withinSpan c.cseatA c.ctopA)
    c1 := one chs.c1 codes.ch1 (withinSpan c.cseatB c.ctopB)
    c2 := if c.waterEnabled then one chs.c2 codes.ch2 (withinSpan c.cw0 c.cw1) else chs.c2
    c3 := chs.c3.convertRef c q
    c4 := one chs.c4 codes.ch4 fun _ => true }

/-! ### Heights, water, clearance (R29, R30, R39 to R42) -/

/-- A tower height (R39). -/
def heightOf (c : Settings) (code : Nat) (cseat ctop : Int) : Int :=
  roundNearest (((code : Int) - cseat) * c.hfull) (ctop - cseat)

/-- The measured water elevation (R41). -/
def waterOf (c : Settings) (code : Nat) : Int :=
  clampInt (c.wlow - 500) (c.whigh + 500)
    (c.wlow + roundNearest (((code : Int) - c.cw0) * (c.whigh - c.wlow)) (c.cw1 - c.cw0))

/-- The heights, skew and clearance (R39, R40, R42). -/
def heightsOf (c : Settings) (codeA codeB : Nat) (w : Int) : Heights :=
  let hA := heightOf c codeA c.cseatA c.ctopA
  let hB := heightOf c codeB c.cseatB c.ctopB
  let mm := c.e0 + min hA hB - w
  { hA := hA, hB := hB, hs := min hA hB, skew := hA - hB, clearanceMm := mm, clearanceCm := max 0 (mm / 10) }

def Channel.show (ch : Channel) : SetChannel := { state := ch.state, raw := ch.raw, held := ch.held }

/-- The code of a VALID channel. -/
def Channel.validCode (ch : Channel) : Option Nat := if ch.state = .valid then ch.held else none

/-- The measured water of the records, none where it is substituted (R30). -/
def measuredWater (c : Settings) (chs : PerChannel Channel) : Option Int :=
  if c.waterEnabled then chs.c2.validCode.map (waterOf c) else none

/-- The set that a scan publishes (R28 to R30). -/
def setOf (c : Settings) (chs : PerChannel Channel) (seq : Nat) : MeasSet :=
  let w := (measuredWater c chs).getD c.wdesign
  { seq := seq
    channels := { c0 := chs.c0.show, c1 := chs.c1.show, c2 := chs.c2.show, c3 := chs.c3.show, c4 := chs.c4.show }
    waterEnabled := c.waterEnabled
    heights :=
      match chs.c0.validCode, chs.c1.validCode with
      | some a, some b => some (heightsOf c a b w)
      | _, _ => none
    water := w
    measured := (measuredWater c chs).isSome }

/-! ### Scans (R18, R19, R26, R27, R32, R33) -/

/-- A scan starts with the settings of the moment (R18); the first one after a commit that changed the water channel enable
begins with channel 2's record emptied, whichever way the enable then stands (R26). -/
def State.startScan (s : State) : State :=
  let c := s.act
  s.onMu fun m =>
    { m with scan := some c, scanTimer := startTimer (288 * (c.conversions * c.convTime).toNat),
             channels := if m.waterChanged then { m.channels with c2 := .empty } else m.channels
             waterChanged := false }

/-- A drive period boundary (R12, R18, R61). -/
def State.periodBoundary (s : State) : State :=
  if s.smc.periodTimer.isNone then s
  else
    let s := (s.onSmc fun m => { m with periodTimer := startTimer (msTicks s.act.tp) }).onOm Om.transfer
    (((s.examineTower .a).examineTower .b).compare).startScan

/-- The conditions that the MU reports (R32): REF, POS_A, POS_B, WATER. -/
def muConditions (c : Settings) (chs : PerChannel Channel) : List (Fin 37 × Bool) :=
  [(5, decide (chs.c3.state = .faulted)), (3, decide (chs.c0.state = .faulted)), (4, decide (chs.c1.state = .faulted)),
   (35, c.waterEnabled && decide (chs.c2.state = .faulted))]

/-- A consumer of the measurement set (R33). -/
inductive Consumer | smc | pau | mfs
deriving DecidableEq, Repr

def State.deliverSet (s : State) : Consumer → State
  | .smc => s.smcTakesSet
  | .pau => s.pauTakesSet
  | .mfs => s.mfsTakesSet

/-- Scan completion (R27). The reports and the consumers have no order among themselves (log 1). -/
def State.completeScan (s : State) (codes : RawCodes) : State :=
  match s.mu.scan with
  | none => s
  | some c =>
    let chs := convertAll c s.mu.channels codes
    let set := setOf c chs s.mu.seq
    let s := s.onMu fun m => { m with channels := chs, scan := none, scanTimer := none }
    let s := s.inAnyOrder ((muConditions c chs).filter fun x => s.faultChanges x.1 x.2) fun s x => s.tripReport x.1 x.2
    let s := s.onMu fun m => { m with set := some set, seq := (m.seq + 1) % 65536 }
    s.inAnyOrder [Consumer.smc, Consumer.pau, Consumer.mfs] State.deliverSet

end Sys2Proof.Machine
end

