-- ==== Sys2Proof/Machine/Lines.lean ====
section
/-! DEFINITION. The Input Qualifier: sampling, the majority filter and the delivery of input events (chapter 1), and the
E-stop loop terminal (R14 to R16). -/

namespace Sys2Proof.Machine

/-- The column of samples of one instant: line 0 is the loop terminal, which the part's own state holds; line 35 is
not sampled (R1, R6). -/
def State.sampleColumn (s : State) (lines : BitVec 48) : BitVec 48 :=
  let rest := lines &&& ~~~((1 : BitVec 48) ||| (1 : BitVec 48) <<< 35)
  if s.om.loopClosed then rest ||| 1 else rest

/-- A history with a new sample, of at most three, newest last (R2). -/
def addSample {α : Type} (l : List α) (x : α) : List α := (if l.length < 3 then l else l.drop 1) ++ [x]

/-- The level held by at least two of three samples, line by line (R2). -/
def majority (a b c : BitVec 48) : BitVec 48 := (a &&& b) ||| (b &&& c) ||| (a &&& c)

/-- The qualified levels of a full history (R2). -/
def qualify (l : List (BitVec 48)) : Option (BitVec 48) :=
  match l with
  | [a, b, c] => some (majority a b c)
  | _ => none

/-- The lines that have receiving blocks and whose levels differ (R1, R3). -/
def changedLines (a b : BitVec 48) : List (Fin 48) :=
  (List.finRange 48).filter fun l => l.val < 45 && l.val ≠ 35 && (a.getLsb l != b.getLsb l)

/-- An input event is delivered to each receiving block of its line (R1, R3). -/
def State.deliverLine (s : State) (l : Fin 48) : State :=
  let b := s.line l
  let s := (s.rcsLine l b).htLine l b
  let s := if l = 33 then s.beamEvent .u b else if l = 34 then s.beamEvent .d b else s
  let s := if l = 0 then s.reportEstop else s
  s.smcLine l b

/-- A block that reports a trip fault at qualification complete (R4). -/
inductive FirstLevels | om | smc
deriving DecidableEq, Repr

/-- OM reports ESTOP from its line's first level (R15); SMC begins its comparisons, reports OVERTRAVEL and leaves INITIAL
where it can (R58, R77, R78). -/
def State.takeFirstLevels (s : State) : FirstLevels → State
  | .om => s.reportEstop
  | .smc => s.compare.reportOvertravel.leaveInitial

/-- The qualification complete event (R4): OM, SMC, RCS and HT take their starting values. R4 gives OM and SMC no order, and the
first trip fault can depend on it (R199): the order is free (log 1). -/
def State.qualificationComplete (s : State) : State :=
  (s.inAnyOrder [FirstLevels.om, .smc] State.takeFirstLevels).rcsQualified.htQualified

/-- A sampling instant (R2 to R4, R7). -/
def State.sample (s : State) (lines : BitVec 48) (lamps : BitVec 15) : State :=
  if s.iq.samplingTimer.isNone then s
  else
    let old := s.iq.qualified
    let hist := addSample s.iq.samples (s.sampleColumn lines)
    let s := s.onIq fun q =>
      { q with samples := hist, qualified := qualify hist, sensed := some lamps, samplingTimer := startTimer (msTicks 5) }
    match old, qualify hist with
    | some a, some b => (s.compare).inAnyOrder (changedLines a b) State.deliverLine
    | none, some _ => s.qualificationComplete
    | _, none => s

/-- The E-stop loop terminal opens (R14, R16). -/
def State.loopOpens (s : State) : State :=
  let s := s.onOm fun o => { o with loopClosed := false }
  if s.configured then (s.setLatch.reportEstop).compare else s.onOm fun o => { o with latch := true }

/-- The E-stop loop terminal closes (R15, R16). -/
def State.loopCloses (s : State) : State :=
  let s := s.onOm fun o => { o with loopClosed := true }
  if s.configured then s.reportEstop else s.onOm fun o => { o with latch := false }

end Sys2Proof.Machine
end

