-- ==== Sys2Proof/Machine/Entry.lean ====
section
/-! DEFINITION. The entry to CONFIGURED, a commit in CONFIGURED and the three resets (R215 to R218, and the reset rule of
every chapter). -/

namespace Sys2Proof.Machine

/-! ### The blocks at the entry to CONFIGURED -/

/-- R4, R6: sampling and the wind windows begin. -/
def Iq.entry : Iq := { Iq.reset with samplingTimer := startTimer (msTicks 5), windowTimer := startTimer (secTicks 1) }

/-- R9, R13, R16: the assignment is resolved, every command is off, the duties are 0 and the latch is clear. DESIGN
CHOICE (log 12): the carrier periods run from the entry. -/
def Om.entry (c : Settings) (o : Om) : Om :=
  { Om.reset.resolve c with loopClosed := o.loopClosed, speed := { a := Speed.reset.startPeriod, b := Speed.reset.startPeriod } }

def TowerRec.entry (c : Settings) : TowerRec :=
  { TowerRec.reset with reversal := some { blocked := .both, remaining := msTicks c.tdead } }

/-- R60, R83. -/
def Smc.entry (c : Settings) : Smc := { Smc.reset with towers := { a := TowerRec.entry c, b := TowerRec.entry c } }

/-- R102, R108: the budget at Bmax, and suspended until line 0 is qualified closed. -/
def Rcs.entry (c : Settings) : Rcs := { Rcs.reset with budget := c.bmax.toNat, causeLoop := true }

/-- R136, R149, R175: the table stands, the opening is NONE and the clock starts. -/
def Pau.entry (u : Pau) : Pau :=
  { Pau.reset with slots := u.slots, queue := u.queue, clock := startTimer (secTicks 1) }

/-- R178, R187. -/
def Ht.entry (t : Ht) : Ht := { t with clock := startTimer (secTicks 1) }

/-- The aspects with which the heads start (R125). -/
def entryAspect : Head → Aspect
  | .warnN | .warnS => .flash
  | .trafN | .trafS => .red
  | .chanU | .chanD => .stop
  | .horn => .silent

/-- OM reports DISPLACED, fault 36 (R9). -/
def State.reportDisplaced (s : State) : State := s.reportFault 36 (!s.om.displaced.isEmpty)

/-- The E-stop loop found open at the entry (R16). -/
def State.entryLoop (s : State) : State := if s.om.loopClosed then s else s.setLatch.reportEstop

/-- Every block at its entry values, before anything that they then do. -/
def State.entryValues (s : State) : State :=
  { s with
    cs := { s.cs with state := .configured }, iq := Iq.entry, om := Om.entry s.act s.om, mu := Mu.reset,
    smc := Smc.entry s.act, rcs := Rcs.entry s.act, pg := Pg.reset, pau := s.pau.entry, ht := s.ht.entry, mfs := Mfs.reset }

/-- The entry to CONFIGURED under the active settings (R216): the heads start, the conditions found are reported, and
the first drive period boundary falls. -/
def State.enterConfigured (s : State) : State :=
  let s := s.entryValues
  let s := Head.all.foldl (fun s h => s.startAspect h (entryAspect h)) s
  let s := (s.reportDisplaced.displaceLamps []).entryLoop
  (s.onSmc fun m => { m with periodTimer := startTimer 0 }).periodBoundary

/-! ### A successful commit (R215, R216) -/

/-- A commit in CONFIGURED: the assignment is resolved again, the budget is the new Bmax and every head starts its
running aspect again (R9, R107, R127). -/
def State.recommit (s : State) : State :=
  let was := s.om.displaced
  let s := (s.onOm fun o => o.resolve s.act).onRcs fun m => { m with budget := s.act.bmax.toNat }
  let s := Head.all.foldl State.restartHead s
  s.reportDisplaced.displaceLamps was

/-- The pending set is copied into the active set, and takes effect (R215, R216); a change of the water channel enable is
noted for the next start of a scan (R26). -/
def State.commit (s : State) : State :=
  let was := s.configured
  let water := s.act.waterEnabled != s.cs.pendingSet.waterEnabled
  let s := s.onCs fun c => { c with active := c.pendingSet }
  if was then (s.onMu fun m => { m with waterChanged := m.waterChanged || water }).recommit else s.enterConfigured

/-- What COMMIT SETTINGS needs in CONFIGURED (R215). -/
def State.mayCommit (s : State) : Bool :=
  !s.configured ||
    (s.rcs.road = .isOpen && s.smc.motion = .seatedLocked && s.pau.opening.state = .none)

/-! ### Resets (R217, R218) -/

/-- A power-on reset or the reset line: everything takes its reset value. What stays is the terminals' levels, the
queue of commands and the counter of free values; the latch follows the loop terminal (R16). -/
def State.powerOn (s : State) : State :=
  { State.reset with
    pending := s.pending, free := s.free, cs := { Cs.reset with resetLow := s.cs.resetLow, supplyLow := s.cs.supplyLow }
    om := { Om.reset with loopClosed := s.om.loopClosed, latch := !s.om.loopClosed } }

/-- RESTART is accepted: no drive line is active (R218). -/
def State.mayRestart (s : State) : Bool := !s.driveCommanded && s.om.speed.a.live = 0 && s.om.speed.b.live = 0

/-- Every record is retired (R150). -/
def Pau.retireAll (u : Pau) : Pau :=
  { (List.finRange 16).foldl (fun u i => if (u.slots[i]).record.isSome then u.retire i else u) u with queue := [] }

/-- Every hold is retired, and the pointer returns to 4 (R188). -/
def Ht.retireAll (t : Ht) : Ht :=
  { (List.finRange 12).foldl (fun t i => if (t.slots[i]).record.isSome then t.retire i else t) t with pointer := 4 }

/-- A port at a RESTART (R218): the bit rate is kept. -/
def PortRec.restart (r : PortRec) : PortRec := { PortRec.reset with bitRate := r.bitRate, rateDue := r.rateDue }

/-- A port takes the bit rate that is due at the first moment at which its transmitter is idle; a frame that its receiver
is part-way through is abandoned where the rate changes (R204). -/
def PortRec.takeRate (r : PortRec) : PortRec :=
  match r.rateDue, r.tx with
  | some rate, .idle => { r with rateDue := none, bitRate := rate, rx := if r.bitRate = rate then r.rx else .hunting }
  | _, _ => r

def State.takeRate (s : State) (p : Port) : State := s.onPort p PortRec.takeRate

def State.takeRates (s : State) : State := (s.takeRate .operator).takeRate .traffic

/-- The restart acts (R218). -/
def State.restartActs (s : State) : State :=
  let s := (s.onPau Pau.retireAll).onHt Ht.retireAll
  (((s.onPort .operator PortRec.restart).onPort .traffic PortRec.restart).takeRates).enterConfigured

end Sys2Proof.Machine
end

