-- ==== Sys2Proof/Machine/Operands.lean ====
section
/-! DEFINITION. The fields of request payloads (R219) and their ranges. -/

namespace Sys2Proof.Machine

/-- The number in `len` characters of a payload from `off` (R219). -/
def field (l : List Byte) (off len : Nat) : Nat := beNat ((l.drop off).take len)

/-- The handle of a payload's two characters from `off`; none for a slot that a table of `n` slots does not have. -/
def handleField (n : Nat) (l : List Byte) (off : Nat) : Option (Handle n) :=
  if h : field l off 1 < n then some { slot := ⟨field l off 1, h⟩, gen := field l (off + 1) 1 } else none

def dirOf : Nat → Option Dir
  | 0 => some .up
  | 1 => some .down
  | _ => none

def classOf : Nat → Option Class
  | 0 => some .emergency
  | 1 => some .commercial
  | 2 => some .routine
  | _ => none

def holdKindOf : Nat → Option HoldKind
  | 0 => some .noRaise
  | 1 => some .noLower
  | 2 => some .noMotion
  | 3 => some .keepClosed
  | 4 => some .marineStop
  | _ => none

def airDraftOk (n : Nat) : Bool := 100 ≤ n && n ≤ 9000
def marginOk (n : Nat) : Bool := n ≤ 500
def expiryOk (n : Nat) : Bool := 1 ≤ n

/-- The fields of FILE PASSAGE (R133, R219). -/
structure FileFields where
  tag : Nat
  dir : Dir
  cls : Class
  airDraft : Nat
  wait : Nat
  margin : Option Nat
  expiry : Option Nat
deriving DecidableEq, Repr

/-- An optional field: absent, or present and in its range; none when it is out of range. -/
def optionalField (present : Bool) (ok : Nat → Bool) (n : Nat) : Option (Option Nat) :=
  if !present then some none else if ok n then some (some n) else none

/-- The fields of a FILE PASSAGE payload, none when one is out of range (R133, R219). -/
def fileFields (l : List Byte) : Option FileFields :=
  let flags := field l 10 1
  match dirOf (field l 4 1), classOf (field l 5 1), optionalField (flags % 2 = 1) marginOk (field l 11 2),
    optionalField (2 ≤ flags) expiryOk (field l 13 2) with
  | some d, some c, some m, some e =>
    if 1 ≤ field l 0 4 ∧ airDraftOk (field l 6 2) ∧ flags ≤ 3 then
      some { tag := field l 0 4, dir := d, cls := c, airDraft := field l 6 2, wait := field l 8 2, margin := m, expiry := e }
    else none
  | _, _, _, _ => none

/-- What AMEND PASSAGE asks of a field (R141, R219). -/
inductive Change (α : Type)
  | keep
  | set (x : α)
  | makeAbsent
deriving DecidableEq, Repr

/-- The change that an action and a value ask for, none where R219 or the range refuses it. -/
def changeOf {α : Type} (action : Nat) (value : Option α) (mayDrop : Bool) : Option (Change α) :=
  match action with
  | 0 => some .keep
  | 1 => value.map .set
  | 2 => if mayDrop then some .makeAbsent else none
  | _ => none

/-- A value, when a range admits it. -/
def inRange (ok : Nat → Bool) (n : Nat) : Option Nat := if ok n then some n else none

/-- The fields of AMEND PASSAGE (R141, R219). -/
structure AmendFields where
  handle : Handle 16
  cls : Change Class
  airDraft : Change Nat
  margin : Change Nat
  wait : Change Nat
  expiry : Change Nat
deriving DecidableEq, Repr

/-- The fields of an AMEND PASSAGE payload, none when one is refused (R141, R219). -/
def amendFields (l : List Byte) : Option AmendFields :=
  match handleField 16 l 0, changeOf (field l 2 1) (classOf (field l 7 1)) false,
    changeOf (field l 3 1) (inRange airDraftOk (field l 8 2)) false,
    changeOf (field l 4 1) (inRange marginOk (field l 10 2)) true, changeOf (field l 5 1) (some (field l 12 2)) false,
    changeOf (field l 6 1) (inRange expiryOk (field l 14 2)) true with
  | some h, some c, some a, some m, some w, some e =>
    some { handle := h, cls := c, airDraft := a, margin := m, wait := w, expiry := e }
  | _, _, _, _, _, _ => none

/-- A field after a change; `makeAbsent` leaves a field that is always present as it stands. -/
def Change.apply {α : Type} : Change α → α → α
  | .set x, _ => x
  | .keep, y => y
  | .makeAbsent, y => y

/-- An optional field after a change. -/
def Change.applyOption {α : Type} : Change α → Option α → Option α
  | .set x, _ => some x
  | .keep, y => y
  | .makeAbsent, _ => none

/-- The record with its fields amended (R142): FILED, the unreachable flag clear; a LAPSED record keeps no expiry that
the amendment does not give. DESIGN CHOICE (log 39): R146 also says that both flags are kept through LAPSED and the return from it;
the model follows R142 there, and keeps the deferred flag alone. -/
def AmendFields.apply (a : AmendFields) (p : Passage) : Passage :=
  { p with
    cls := a.cls.apply p.cls, airDraft := a.airDraft.apply p.airDraft, margin := a.margin.applyOption p.margin,
    wait := a.wait.apply p.wait, expiry := a.expiry.applyOption (if p.state = .lapsed then none else p.expiry),
    state := .filed, unreachable := false, linger := none }

end Sys2Proof.Machine
end

