-- ==== Sys2Proof/Machine/Flags.lean ====
section
/-! DEFINITION. The flag characters of replies (R219): each holds named flags, the first in its least significant bit. -/

namespace Sys2Proof.Machine

/-- The reply flags: OVERRUN, then CLAMPED (R208, R219). -/
def replyFlags (overrun clamped : Bool) : Nat := flagChar [overrun, clamped]

/-- The flags of a station (R195). -/
def StationFlags.list (f : StationFlags) : List Bool := [f.windRise, f.windFall, f.supplyRise, f.supplyFall]

/-- The header's flags (R210, R219): the station's four, the summary alarm command, and the key in LOCAL. -/
def State.headerFlags (s : State) (p : Port) : Nat := flagChar ((s.mfs.flags.get p).list ++ [s.cmd 39, s.isLocal])

/-- A tower's RAISE, LOWER and BRAKE_RELEASE commands (R82). -/
def State.towerFlags (s : State) (t : Tower) : Nat :=
  flagChar [s.cmd (towerFn t 0), s.cmd (towerFn t 1), s.cmd (towerFn t 2)]

/-- The four lock commands (R82). -/
def State.lockFlags (s : State) : Nat := flagChar [s.cmd 8, s.cmd 9, s.cmd 10, s.cmd 11]

/-- The skew warning, whether attendance is required, and the attendance source (R82). -/
def State.spanFlags (s : State) : Nat := flagChar [s.smc.skewWarning, s.attendanceRequired, s.isLocal]

/-- The hold kinds in force (R186). -/
def State.holdFlags (s : State) : Nat :=
  flagChar ([HoldKind.noRaise, .noLower, .noMotion, .keepClosed, .marineStop].map s.hasHold)

/-- The road's flags (R110). -/
def State.roadFlags (s : State) : Nat :=
  flagChar [s.rcs.suspended, s.rcs.causeGate, s.rcs.causeLoop, s.rcs.causeSupply, s.rcs.holding, s.rcs.waitingHeads]

/-- A passage record's presence flags and its own flags (R219). -/
def Passage.presence (p : Passage) : Nat := flagChar [p.margin.isSome, p.expiry.isSome, p.lift.isSome, p.linger.isSome]
def Passage.flags (p : Passage) : Nat := flagChar [p.deferred, p.unreachable]

/-- The flags of a measurement record (R219). -/
def MeasSet.flags (m : MeasSet) : Nat := flagChar [true, m.heights.isSome, !m.measured]

end Sys2Proof.Machine
end

