-- ==== Sys2Proof/Machine/Layouts.lean ====
section
/-! DEFINITION. The records and status pages that replies carry (R219). A named value is carried as its position in the
rule that defines it, which is its constructor's position here. -/

namespace Sys2Proof.Machine

/-- One character. -/
def ch (n : Nat) : List Byte := beBytes 1 n

/-- A one-character field that shows none carries 255, a two-character one 65535 (R219). -/
def chOr (o : Option Nat) : List Byte := ch (o.getD 255)
def ch2Or (o : Option Nat) : List Byte := beBytes 2 (o.getD 65535)

def boolNat (b : Bool) : Nat := if b then 1 else 0

def handleBytes {n : Nat} (h : Handle n) : List Byte := ch h.slot.val ++ ch h.gen

/-- The passage record, 25 characters (R219). A field that is absent carries 0. -/
def passageBytes (h : Handle 16) (p : Passage) : List Byte :=
  handleBytes h ++ beBytes 4 p.tag ++ ch p.filer.ctorIdx ++ ch p.dir.ctorIdx ++ ch p.cls.ctorIdx ++
    beBytes 2 p.airDraft ++ beBytes 2 p.wait ++ ch p.presence ++ beBytes 2 (p.margin.getD 0) ++
    beBytes 2 (p.expiry.getD 0) ++ ch p.state.ctorIdx ++ ch p.flags ++ beBytes 3 (p.lift.getD 0) ++
    beBytes 2 (p.linger.getD 0)

/-- The hold record, 7 characters (R219). -/
def holdBytes (h : Handle 12) (r : Hold) : List Byte :=
  handleBytes h ++ ch r.owner.ctorIdx ++ ch r.kind.ctorIdx ++ ch r.reason ++ beBytes 2 r.age

/-- What the measurement record says of one channel's state (R219). -/
def channelChar (x : SetChannel) (enabled : Bool) : List Byte :=
  ch (x.state.ctorIdx * 8 + boolNat x.held.isSome * 4 + boolNat x.raw.isSome * 2 + boolNat enabled)

/-- A height with 10000 added (R219); 0 while unavailable. -/
def heightBytes (h : Option Int) : List Byte :=
  match h with
  | none => beBytes 2 0
  | some x => beBytes 2 (x + 10000).toNat

/-- The measurement record, 44 characters (R219); with no set published every field is 0. -/
def measurementBytes : Option MeasSet → List Byte
  | none => List.replicate 44 0
  | some m =>
    let l := m.channels.toList
    ch m.flags ++ beBytes 2 m.seq ++
      (l.zipIdx.map fun x => channelChar x.1 (x.2 ≠ 2 || m.waterEnabled)).flatten ++
      (l.map fun x => beBytes 2 (x.held.getD 0)).flatten ++ (l.map fun x => beBytes 2 (x.raw.getD 0)).flatten ++
      heightBytes (m.heights.map (·.hA)) ++ heightBytes (m.heights.map (·.hB)) ++ heightBytes (m.heights.map (·.hs)) ++
      signedBytes 3 ((m.heights.map (·.skew)).getD 0) ++ signedBytes 2 m.water ++
      signedBytes 3 ((m.heights.map (·.clearanceMm)).getD 0) ++
      beBytes 2 (((m.heights.map fun (h : Heights) => h.clearanceCm).getD 0).toNat)

/-- The body of READ FAULTS (R201, R219). -/
def State.faultBytes (s : State) : List Byte :=
  (s.mfs.faults.toList.map fun v => ch v.ctorIdx).flatten ++ chOr (s.mfs.firstTrip.map (·.val)) ++
    ch (s.mfs.faults.toList.filter (· ≠ .clear)).length

/-- The body of READ HOLDS: the count, and up to six records from a first slot (R186, R210). -/
def State.holdsBytes (s : State) (first : Nat) : List Byte :=
  ch s.liveHolds.length ++
    ((s.liveHolds.filter fun i => first ≤ i.val).take 6).flatMap fun i =>
      match (s.ht.slots[i]).record with
      | some r => holdBytes (s.holdHandle i) r
      | none => []

/-- The body of LIST PASSAGES (R148). -/
def State.listBytes (s : State) : List Byte := ch s.pau.queue.length ++ s.pau.queue.flatMap handleBytes

/-! ### Status pages (R219) -/

/-- The header (R210). -/
def State.headerBytes (s : State) (p : Port) (page : Nat) : List Byte :=
  ch page ++ ch s.cs.state.ctorIdx ++ ch s.smc.motion.ctorIdx ++ ch s.rcs.road.ctorIdx ++
    ch s.pau.opening.state.ctorIdx ++ ch (s.headerFlags p)

def State.towerBytes (s : State) (t : Tower) : List Byte :=
  ch (s.tower t).phase.ctorIdx ++ ch (s.towerFlags t) ++ beBytes 2 (s.om.speed.get t).staged ++
    beBytes 2 (s.om.speed.get t).live ++ chOr ((s.tower t).reversal.map fun r => r.blocked.ctorIdx)

/-- Page 0, span (R82, R192, R186). -/
def State.page0 (s : State) : List Byte :=
  ch s.smc.stop.ctorIdx ++ ch2Or s.smc.target ++ s.towerBytes .a ++ s.towerBytes .b ++ ch s.lockFlags ++
    ch s.spanFlags ++ ch s.mfs.wind.state.ctorIdx ++ ch s.mfs.supply.state.ctorIdx ++ ch2Or s.mfs.windSpeed ++
    ch2Or s.mfs.supplyValue ++ ch s.holdFlags

def GateRec.char (r : GateRec) : List Byte :=
  ch (r.cmd.ctorIdx * 16 + r.pos.ctorIdx * 4 + boolNat r.obstructed)

/-- Page 1, road (R110). DESIGN CHOICE (log 13): the raising phase is shown in every road state. -/
def State.page1 (s : State) : List Byte :=
  ch s.rcs.phase.ctorIdx ++ ch s.roadFlags ++ Gate.all.flatMap (fun g => (s.gate g).char) ++ beBytes 2 s.rcs.budget

def State.headBytes (s : State) (h : Head) : List Byte :=
  let r := s.pg.heads.get h
  chOr (r.running.map (aspectCode h)) ++ chOr (r.pending.map (aspectCode h)) ++ ch r.index ++
    ch (r.pass * 2 + boolNat (s.pg.impaired.get h))

/-- Page 2, heads (R124). -/
def State.page2 (s : State) : List Byte := Head.all.flatMap s.headBytes

def State.lampChar (s : State) (i : Fin 15) : List Byte :=
  ch (boolNat (s.cmd (lampFn i)) * 16 + (s.pg.lamps[i]).litMiss * 4 + (s.pg.lamps[i]).darkMiss)

/-- Page 3, lamps (R124). DEDUCED (log 13): lamp-sense line 0 in the least significant bit. -/
def State.page3 (s : State) : List Byte :=
  (List.finRange 15).flatMap s.lampChar ++ beBytes 2 ((s.iq.sensed.map (·.toNat)).getD 0)

/-- The active direction as a code: NONE, UP, DOWN (R152). -/
def dirCode : Option Dir → Nat
  | none => 0
  | some .up => 1
  | some .down => 2

/-- A member's position in its admission queue, from 1, or 0 (R219). -/
def Opening.place (o : Opening) (h : Handle 16) : Nat :=
  if o.queueUp.contains h then o.queueUp.idxOf h + 1
  else if o.queueDown.contains h then o.queueDown.idxOf h + 1 else 0

/-- Page 4, channel (R174). -/
def State.page4 (s : State) : List Byte :=
  let o := s.pau.opening
  ch2Or o.target ++ ch (dirCode o.active) ++
    ch (aspectCode .chanU s.pau.decidedU * 4 + aspectCode .chanD s.pau.decidedD) ++ ch o.members.length ++
    o.members.flatMap fun h => handleBytes h ++ ch (o.place h)

/-- The number of live passages in a state (R132). -/
def State.countIn (s : State) (st : PassState) : Nat :=
  (s.liveSlots.filter fun i => (s.pau.slots[i]).record.any fun p => p.state = st).length

/-- The qualified levels as a number, line 0 in its least significant bit, line 35 as 0 (R219). -/
def State.lineLevels (s : State) : BitVec 48 := s.iq.qualified.getD 0 &&& ~~~((1 : BitVec 48) <<< 35)

/-- Page 5, lines and tables (R1, R132, R186). -/
def State.page5 (s : State) : List Byte :=
  beBytes 6 s.lineLevels.toNat ++ ch s.liveSlots.length ++
    ([PassState.filed, .grouped, .admitted, .transiting, .lapsed].flatMap fun st => ch (s.countIn st)) ++
    ch s.liveHolds.length

/-- The body of a status page; none for a page above 5 (R210). -/
def State.pageBytes (s : State) : Nat → Option (List Byte)
  | 0 => some s.page0
  | 1 => some s.page1
  | 2 => some s.page2
  | 3 => some s.page3
  | 4 => some s.page4
  | 5 => some s.page5
  | _ => none

end Sys2Proof.Machine
end

