-- ==== Sys2Proof/Machine/Ports.lean ====
section
/-! DEFINITION. The Station Ports: characters, frames, the check, reception, screening and transmission (chapter 11,
sections 11.1 to 11.5). -/

namespace Sys2Proof.Machine

/-! ### The check (R205) -/

/-- One bit of the check: shift, and subtract x^16 + x^12 + x^5 + 1 where the top bit leaves. -/
def crcBit (c : BitVec 16) (b : Bool) : BitVec 16 :=
  let out := c.getLsbD 15 != b
  if out then (c <<< 1) ^^^ 0x1021 else c <<< 1

/-- One character, most significant bit first. -/
def crcByte (c : BitVec 16) (x : Byte) : BitVec 16 :=
  [7, 6, 5, 4, 3, 2, 1, 0].foldl (fun c i => crcBit c (x.getLsbD i)) c

/-- The check over characters, from 0xFFFF (R205). -/
def crc16 (l : List Byte) : BitVec 16 := l.foldl crcByte 0xFFFF

/-- The characters of a frame (R205). -/
def frameChars (kind tag : Byte) (payload : List Byte) : List Byte :=
  let covered := kind :: tag :: BitVec.ofNat 8 payload.length :: payload
  (0xC5 : Byte) :: covered ++ beBytes 2 (crc16 covered).toNat

/-- The characters of a reply. -/
def Reply.chars (r : Reply) : List Byte := frameChars r.kind r.tag r.payload

/-! ### The receive buffer (R207) -/

/-- An OVERRUN set while a reply is held is carried by the next one (R211). -/
def Transmitter.keepOverrun : Transmitter → Transmitter
  | .idle => .idle
  | .waiting r t => .waiting { r with clearsOverrun := false } t
  | .sending r k t => .sending { r with clearsOverrun := false } k t

/-- A complete frame goes into the buffer, or is lost with OVERRUN set (R207). -/
def PortRec.placeFrame (r : PortRec) (f : Frame) : PortRec :=
  if r.buffer.length < 2 then { r with rx := .hunting, buffer := r.buffer ++ [{ frame := f, age := 0 }] }
  else { r with rx := .hunting, overrun := true, tx := r.tx.keepOverrun }

/-! ### Reception (R206) -/

/-- How long a receiver in a frame waits for the next character's stop bit: the gap of four character times to its start
bit, and the character itself (R206). DEDUCED (log 15): a character is an event at its stop bit. -/
def PortRec.gapTicks (r : PortRec) : Ticks := 5 * charTicks r.bitRate

/-- The frame that the characters after a start character complete, none while more are due (R205, R206). -/
def frameOf (l : List Byte) (perr ferr : Bool) : Option Frame :=
  let len := field l 2 1
  if l.length = 3 + len + 2 then
    some { kind := l.getD 0 0, tag := l.getD 1 0, payload := (l.drop 3).take len, parityError := perr, framingError := ferr,
           checkError := (crc16 (l.take (3 + len))).toNat ≠ field l (3 + len) 2 }
  else none

/-- The receiver takes a character (R206). -/
def PortRec.receive (r : PortRec) (c : RxChar) : PortRec :=
  match r.rx with
  | .hunting =>
    if c.data = 0xC5 then { r with rx := .inFrame [] c.parityError c.framingError r.gapTicks } else r
  | .inFrame l p f _ =>
    let l := l ++ [c.data]
    let p := p || c.parityError
    let f := f || c.framingError
    if l.length = 3 && 48 < field l 2 1 then { r with rx := .hunting }
    else
      match if 3 ≤ l.length then frameOf l p f else none with
      | some fr => r.placeFrame fr
      | none => { r with rx := .inFrame l p f r.gapTicks }

/-! ### The request table (R208) -/

/-- One row of the request table. -/
structure RequestRow where
  lengths : List Nat
  traffic : Bool
  inLocal : Bool
  unconfigured : Bool
deriving DecidableEq, Repr

def readRow (l : List Nat) : RequestRow := { lengths := l, traffic := true, inLocal := true, unconfigured := true }
def bothRow (n : Nat) : RequestRow := { lengths := [n], traffic := true, inLocal := true, unconfigured := false }
def operatorRow (l : List Nat) : RequestRow := { lengths := l, traffic := false, inLocal := true, unconfigured := false }
def remoteRow (l : List Nat) : RequestRow := { lengths := l, traffic := false, inLocal := false, unconfigured := false }
def settingsRow (l : List Nat) : RequestRow := { lengths := l, traffic := false, inLocal := true, unconfigured := true }

/-- The request table (R208); none for a kind that it does not list. -/
def requestRow (kind : Nat) : Option RequestRow :=
  match kind with
  | 0x01 => some (readRow [1])
  | 0x02 => some (readRow [0])
  | 0x03 => some (readRow [0])
  | 0x04 => some (readRow [0, 1])
  | 0x05 => some (readRow [2])
  | 0x06 => some (readRow [4])
  | 0x07 => some (readRow [0])
  | 0x10 => some (bothRow 15)
  | 0x11 => some (bothRow 16)
  | 0x12 => some (bothRow 2)
  | 0x18 => some (operatorRow [0])
  | 0x19 => some (operatorRow [0])
  | 0x20 => some (remoteRow [0])
  | 0x21 => some (remoteRow [0])
  | 0x28 => some (remoteRow [0, 2])
  | 0x29 => some (remoteRow [0])
  | 0x2A => some (operatorRow [0])
  | 0x2B => some (remoteRow [0])
  | 0x30 => some (bothRow 2)
  | 0x31 => some (bothRow 2)
  | 0x38 => some (operatorRow [0])
  | 0x40 => some (settingsRow [2, 6])
  | 0x41 => some (settingsRow [0])
  | 0x42 => some (operatorRow [0])
  | _ => none

/-- The screening of a request (R208): the first test that fails gives the status; none when it passes. -/
def State.screen (s : State) (p : Port) (f : Frame) : Option Status :=
  match requestRow f.kind.toNat with
  | none => some .unknownRequest
  | some r =>
    if !r.lengths.contains f.payload.length then some .badArgument
    else if p = .traffic && !r.traffic then some .authority
    else if !s.configured && !r.unconfigured then some .unconfigured
    else if s.configured && s.isLocal && !r.inLocal then some .authority
    else none

/-- A frame that is dropped when it is taken (R207). -/
def Frame.dropped (f : Frame) : Bool :=
  f.parityError || f.framingError || f.checkError || 0x80 ≤ f.kind.toNat

/-- The row of the command table under which SP takes a frame. -/
def takeCommand (p : Port) (f : Frame) : Instr :=
  if Machine.Frame.dropped f then .frameDropped p
  else
    match f.kind.toNat with
    | 0x01 => .readStatus p
    | 0x02 => .readMeasurements p
    | 0x03 => .readFaults p
    | 0x04 => .readHolds p
    | 0x05 => .readPassage p
    | 0x06 => .findPassage p
    | 0x07 => .listPassages p
    | 0x10 => .filePassage p
    | 0x11 => .amendPassage p
    | 0x12 => .withdrawPassage p
    | 0x18 => .beginOpening p
    | 0x19 => .endOpening p
    | 0x20 => .closeRoad p
    | 0x21 => .reopenRoad p
    | 0x28 => .raiseSpan p
    | 0x29 => .lowerSpan p
    | 0x2A => .haltSpan p
    | 0x2B => .attend p
    | 0x30 => .placeHold p
    | 0x31 => .releaseHold p
    | 0x38 => .acknowledgeFaults p
    | 0x40 => if f.payload.length = 2 then .loadSettingItemAlone p else .loadSetting p
    | 0x41 => .commitSettings p
    | 0x42 => .restart p
    | _ => .unknownRequest p

/-- The frame that SP takes next at a port (R207): the older entry, while the transmitter is idle and the part is not
held in reset. -/
def State.takeable (s : State) (p : Port) : Option Buffered :=
  if s.cs.held then none
  else
    match (s.sp.get p).tx, (s.sp.get p).buffer with
    | .idle, b :: _ => some b
    | _, _ => none

/-- The command under which SP takes a frame at a port, none when there is none to take. -/
def State.takenCommand (s : State) (p : Port) : Option Instr := (s.takeable p).map fun b => takeCommand p b.frame

def PortRec.pop (r : PortRec) : PortRec := { r with buffer := r.buffer.drop 1 }

/-! ### Replies (R208, R209, R211) -/

/-- A block's answer to a request: status, CLAMPED, body, and whether the reply's end matters to CS. -/
structure Answer where
  status : Status
  clamped : Bool
  body : List Byte
  commits : Bool
  restarts : Bool
deriving DecidableEq, Repr

/-- OK with a body. -/
def Answer.ok (body : List Byte) : Answer :=
  { status := .ok, clamped := false, body := body, commits := false, restarts := false }

/-- A refusal, which has no body. -/
def Answer.refuse (st : Status) : Answer :=
  { status := st, clamped := false, body := [], commits := false, restarts := false }

/-- A status with no body. -/
def Answer.plain (st : Status) : Answer := Answer.refuse st

/-- The reply to a frame (R205, R208, R219). -/
def replyTo (f : Frame) (overrun : Bool) (a : Answer) : Reply :=
  { kind := f.kind + 0x80, tag := f.tag, payload := ch a.status.ctorIdx ++ ch (replyFlags overrun a.clamped) ++ a.body,
    clearsOverrun := overrun, commits := a.commits, restarts := a.restarts }

/-- The wait until the driver rises (R211): what remains of the turnaround guard after the request's last stop bit. -/
def guardLeft (c : Settings) (rate age : Nat) : Ticks := c.guard * charTicks rate - age

/-- SP forms the reply, which makes the transmitter busy (R207, R211). DESIGN CHOICE (log 32): the turnaround guard is the one
in force at this moment, and a commit taken on the other port before the driver rises does not change it (R204). -/
def State.formReply (s : State) (p : Port) (b : Buffered) (a : Answer) : State :=
  s.onPort p fun r =>
    { r with tx := .waiting (replyTo b.frame r.overrun a) (guardLeft s.act r.bitRate b.age) }

/-- SP takes the request at the head of a port's buffer, if it is of the command's row: the entry is removed and
screened, and one that passes goes to its owner, whose answer is the reply (R207, R208). -/
def State.takeRequest (s : State) (p : Port) (row : Instr) (owner : Frame → State → Answer × State) : State :=
  match s.takeable p with
  | none => s
  | some b =>
    if takeCommand p b.frame = row then
      let s := s.onPort p PortRec.pop
      match s.screen p b.frame with
      | some st => s.formReply p b (.refuse st)
      | none =>
        let r := owner b.frame s
        r.2.formReply p b r.1
    else s

/-! ### Transmission (R211, R212) -/

/-- What the end of a reply brings CS to do (R204, R218): the end of a commit's reply makes the active set's bit rate due at
both ports, and each takes what is due to it when its transmitter is idle. -/
def State.replyEnded (s : State) (r : Reply) : State :=
  let due (q : PortRec) : PortRec := { q with rateDue := some s.act.bitRate }
  let s := if r.commits then (s.onPort .operator due).onPort .traffic due else s
  if r.restarts then s.restartActs else s.takeRates

/-- The driver enable rises (R211): the reply takes one character time and then its characters. -/
def State.driverRises (s : State) (p : Port) : State :=
  match (s.sp.get p).tx with
  | .waiting r _ =>
    s.onPort p fun q =>
      { q with tx := .sending r 0 ((1 + r.chars.length) * charTicks q.bitRate), rx := .hunting }
  | _ => s

/-- A reply is completed (R211). -/
def State.replyCompletes (s : State) (p : Port) : State :=
  match (s.sp.get p).tx with
  | .sending r _ _ =>
    (s.onPort p fun q => { q with tx := .idle, overrun := q.overrun && !r.clearsOverrun }).replyEnded r
  | _ => s

/-- A receiver at the start of a frame (R206). -/
def PortRec.startFrame (r : PortRec) (perr ferr : Bool) : PortRec := { r with rx := .inFrame [] perr ferr r.gapTicks }

/-- A reply is abandoned (R212): its OVERRUN flag stays; before the driver has risen, the 0xC5 that abandons it starts a
frame. DESIGN CHOICE (log 14): that frame starts first, and what the end of the reply brings comes after it, so that a change
of the bit rate (R204) or a restart (R218) abandons it. -/
def State.abandonReply (s : State) (p : Port) (perr ferr : Bool) : State :=
  match (s.sp.get p).tx with
  | .idle => s
  | .waiting r _ =>
    (s.onPort p fun q => { q.startFrame perr ferr with tx := .idle }).replyEnded r
  | .sending r _ _ => (s.onPort p fun q => { q with tx := .idle, rx := .hunting }).replyEnded r

/-- A character that a port reads back while it sends (R212). -/
def State.readBack (s : State) (p : Port) (r : Reply) (k : Nat) (t : Ticks) (c : RxChar) : State :=
  match r.chars[k]? with
  | none => s
  | some x =>
    if c.data = x && !c.parityError && !c.framingError then s.onPort p fun q => { q with tx := .sending r (k + 1) t }
    else s.abandonReply p false false

/-- A port receives a character (R206, R212). DESIGN CHOICE (log 33): while a reply waits for its driver a 0xC5 abandons it and
starts a frame, inside a frame in reception too, where R206 calls it an ordinary character. -/
def State.charReceived (s : State) (p : Port) (c : RxChar) : State :=
  if s.cs.held then s
  else
    match (s.sp.get p).tx with
    | .sending r k t => s.readBack p r k t c
    | .waiting _ _ =>
      if c.data = 0xC5 then s.abandonReply p c.parityError c.framingError else s.onPort p fun q => q.receive c
    | .idle => s.onPort p fun q => q.receive c

/-- A whole frame completes at a port (R207). -/
def State.frameCompletes (s : State) (p : Port) (f : Frame) : State :=
  if s.cs.held then s
  else
    match (s.sp.get p).tx with
    | .sending _ _ _ => s
    | _ => s.onPort p fun q => q.placeFrame f

/-- A gap of more than four character times abandons the frame in reception (R206). -/
def State.frameAbandons (s : State) (p : Port) : State :=
  match (s.sp.get p).rx with
  | .inFrame _ _ _ _ => s.onPort p fun q => { q with rx := .hunting }
  | .hunting => s

end Sys2Proof.Machine
end

