-- ==== Sys2Proof/Machine/Reads.lean ====
section
/-! DEFINITION. The meanings of the reads: READ STATUS to LIST PASSAGES. -/

namespace Sys2Proof.Machine

/-- READ STATUS clears the station's four flags once the reply is formed (R195). -/
def State.clearFlags (s : State) (p : Port) : State := s.onMfs fun m => { m with flags := m.flags.set p .clear }

/-- READ STATUS (R210): a page above 5 is refused. -/
def State.ownReadStatus (p : Port) (f : Frame) (s : State) : Answer × State :=
  let page := field f.payload 0 1
  match s.pageBytes page with
  | none => (.refuse .badArgument, s)
  | some body => (.ok (s.headerBytes p page ++ body), s.clearFlags p)

/-- READ HOLDS: the first slot is 0 when omitted, and one above 11 is refused (R210). -/
def State.ownReadHolds (f : Frame) (s : State) : Answer × State :=
  let first := field f.payload 0 1
  if 11 < first then (.refuse .badArgument, s) else (.ok (s.holdsBytes first), s)

/-- READ PASSAGE (R147). -/
def State.ownReadPassage (f : Frame) (s : State) : Answer × State :=
  match handleField 16 f.payload 0 with
  | none => (.refuse .badArgument, s)
  | some h =>
    match s.passage h with
    | none => (.refuse .unknownHandle, s)
    | some p => (.ok (passageBytes h p), s)

/-- FIND PASSAGE (R147): a tag of 0 is refused. -/
def State.ownFindPassage (f : Frame) (s : State) : Answer × State :=
  let tag := field f.payload 0 4
  if tag = 0 then (.refuse .badArgument, s)
  else
    match (s.findTag tag).bind fun h => (s.passage h).map fun p => (h, p) with
    | none => (.refuse .unknownTag, s)
    | some x => (.ok (passageBytes x.1 x.2), s)

/-- READ_STATUS (R210). -/
def execReadStatus (p : Port) (s : State) : Host.Outcome State Fault Refusal :=
  .next (s.takeRequest p (.readStatus p) (State.ownReadStatus p))

/-- READ_MEASUREMENTS (R34). -/
def execReadMeasurements (p : Port) (s : State) : Host.Outcome State Fault Refusal :=
  .next (s.takeRequest p (.readMeasurements p) fun _ s => (.ok (measurementBytes s.mu.set), s))

/-- READ_FAULTS (R201). -/
def execReadFaults (p : Port) (s : State) : Host.Outcome State Fault Refusal :=
  .next (s.takeRequest p (.readFaults p) fun _ s => (.ok s.faultBytes, s))

/-- READ_HOLDS (R186). -/
def execReadHolds (p : Port) (s : State) : Host.Outcome State Fault Refusal :=
  .next (s.takeRequest p (.readHolds p) State.ownReadHolds)

/-- READ_PASSAGE (R147). -/
def execReadPassage (p : Port) (s : State) : Host.Outcome State Fault Refusal :=
  .next (s.takeRequest p (.readPassage p) State.ownReadPassage)

/-- FIND_PASSAGE (R147). -/
def execFindPassage (p : Port) (s : State) : Host.Outcome State Fault Refusal :=
  .next (s.takeRequest p (.findPassage p) State.ownFindPassage)

/-- LIST_PASSAGES (R148). -/
def execListPassages (p : Port) (s : State) : Host.Outcome State Fault Refusal :=
  .next (s.takeRequest p (.listPassages p) fun _ s => (.ok s.listBytes, s))

end Sys2Proof.Machine
end

