-- ==== Sys2Proof/Machine/PassageRequests.lean ====
section
/-! DEFINITION. The meanings of the passage and opening requests. -/

namespace Sys2Proof.Machine

/-- The record that a filing makes (R134). -/
def FileFields.record (x : FileFields) (p : Port) : Passage :=
  { tag := x.tag, filer := p, dir := x.dir, cls := x.cls, airDraft := x.airDraft, margin := x.margin, wait := x.wait,
    expiry := x.expiry, state := .filed, deferred := false, unreachable := false, lift := none, linger := none }

/-- A record is made in a slot, at the tail of the filing queue; with wait 0 the join test follows (R134). -/
def State.fileAt (s : State) (i : Fin 16) (r : Passage) : State :=
  let h := s.handleAt i
  let s := (s.setPassage i r).onPau fun u => { u with queue := u.queue ++ [h] }
  if r.wait = 0 then s.joinTest i else s

/-- FILE PASSAGE: the four checks of R133, in order, and the filing of R134. -/
def State.ownFilePassage (p : Port) (f : Frame) (s : State) : Answer × State :=
  match fileFields f.payload with
  | none => (.refuse .badArgument, s)
  | some x =>
    if (s.findTag x.tag).isSome then (.refuse .duplicateTag, s)
    else
      match s.emptySlot with
      | none => (.refuse .tableFull, s)
      | some i =>
        if s.reachable (needOf s.act x.airDraft x.margin) then (.ok (handleBytes (s.handleAt i)), s.fileAt i (x.record p))
        else (.refuse .unreachable, s)

/-- The station may amend or withdraw a record: its filer, or OPERATOR (R141, R144). -/
def mayHandle (p : Port) (r : Passage) : Bool := p = .operator || r.filer = p

/-- AMEND PASSAGE: the five checks of R141, in order, and the amendment of R142. -/
def State.ownAmendPassage (p : Port) (f : Frame) (s : State) : Answer × State :=
  match amendFields f.payload with
  | none => (.refuse .badArgument, s)
  | some a =>
    match s.passage a.handle with
    | none => (.refuse .unknownHandle, s)
    | some r =>
      if !mayHandle p r then (.refuse .authority, s)
      else if !(r.state = .filed || r.state = .lapsed) then (.refuse .notNow, s)
      else if !s.reachable ((a.apply r).need s.act) then (.refuse .unreachable, s)
      else
        let s := s.setPassage a.handle.slot (a.apply r)
        (.plain .ok, if (a.apply r).wait = 0 then s.joinTest a.handle.slot else s)

/-- WITHDRAW PASSAGE: the four checks of R144, in order, and the retirement. -/
def State.ownWithdrawPassage (p : Port) (f : Frame) (s : State) : Answer × State :=
  match handleField 16 f.payload 0 with
  | none => (.refuse .badArgument, s)
  | some h =>
    match s.passage h with
    | none => (.refuse .unknownHandle, s)
    | some r =>
      if !mayHandle p r then (.refuse .authority, s)
      else if r.state = .transiting then (.refuse .notNow, s)
      else (.plain .ok, s.retirePassage h.slot)

/-- BEGIN OPENING (R153): the reply carries the number of members and T as the opening was formed. -/
def State.ownBeginOpening (_ : Frame) (s : State) : Answer × State :=
  if s.opening.state = .none && 0 < s.rcs.budget then
    let marked := (List.finRange 16).foldl State.markUnreachable s
    let chosen := marked.eligibleOrder.take 8
    (.ok (ch chosen.length ++ beBytes 2 (marked.targetFor chosen)), s.formOpening)
  else (.refuse .notNow, s)

/-- END OPENING (R171). -/
def State.ownEndOpening (_ : Frame) (s : State) : Answer × State :=
  match s.opening.state with
  | .gathered | .admitting => (.plain .ok, s.enterClosing.decideAspects)
  | .closingChannel => (.plain .ok, s)
  | .none => (.refuse .notNow, s)

/-- FILE_PASSAGE (R133, R134). -/
def execFilePassage (p : Port) (s : State) : Host.Outcome State Fault Refusal :=
  .next (s.takeRequest p (.filePassage p) (State.ownFilePassage p))

/-- AMEND_PASSAGE (R141, R142). -/
def execAmendPassage (p : Port) (s : State) : Host.Outcome State Fault Refusal :=
  .next (s.takeRequest p (.amendPassage p) (State.ownAmendPassage p))

/-- WITHDRAW_PASSAGE (R144, R145). -/
def execWithdrawPassage (p : Port) (s : State) : Host.Outcome State Fault Refusal :=
  .next (s.takeRequest p (.withdrawPassage p) (State.ownWithdrawPassage p))

/-- BEGIN_OPENING (R153). -/
def execBeginOpening (p : Port) (s : State) : Host.Outcome State Fault Refusal :=
  .next (s.takeRequest p (.beginOpening p) State.ownBeginOpening)

/-- END_OPENING (R171). -/
def execEndOpening (p : Port) (s : State) : Host.Outcome State Fault Refusal :=
  .next (s.takeRequest p (.endOpening p) State.ownEndOpening)

end Sys2Proof.Machine
end

