-- ==== Sys2Proof/Machine/RoadSpanRequests.lean ====
section
/-! DEFINITION. The meanings of the road and span requests. -/

namespace Sys2Proof.Machine

/-- RAISE SPAN: a height in the two-character payload, or none (R62); attendance is refreshed whatever the reply
(R63, R70). -/
def State.ownRaiseSpan (f : Frame) (s : State) : Answer × State :=
  let wish := if f.payload.length = 2 then RaiseWish.height (field f.payload 0 2) else .noHeight
  let r := s.refreshAttendance.raise wish
  ({ status := r.1, clamped := r.2.1, body := [], commits := false, restarts := false }, r.2.2)

/-- LOWER SPAN: attendance is refreshed whatever the reply (R66, R70). -/
def State.ownLowerSpan (_ : Frame) (s : State) : Answer × State :=
  let r := s.refreshAttendance.lower
  (.plain r.1, r.2)

/-- CLOSE_ROAD (R87). -/
def execCloseRoad (p : Port) (s : State) : Host.Outcome State Fault Refusal :=
  .next (s.takeRequest p (.closeRoad p) fun _ s => (.plain .ok, s.closeRoad))

/-- REOPEN_ROAD (R88). -/
def execReopenRoad (p : Port) (s : State) : Host.Outcome State Fault Refusal :=
  .next (s.takeRequest p (.reopenRoad p) fun _ s => (.plain s.reopenRoad.1, s.reopenRoad.2))

/-- RAISE_SPAN (R62, R63). -/
def execRaiseSpan (p : Port) (s : State) : Host.Outcome State Fault Refusal :=
  .next (s.takeRequest p (.raiseSpan p) State.ownRaiseSpan)

/-- LOWER_SPAN (R66, R68). -/
def execLowerSpan (p : Port) (s : State) : Host.Outcome State Fault Refusal :=
  .next (s.takeRequest p (.lowerSpan p) State.ownLowerSpan)

/-- HALT_SPAN (R72, R81): accepted in every motion state. -/
def execHaltSpan (p : Port) (s : State) : Host.Outcome State Fault Refusal :=
  .next (s.takeRequest p (.haltSpan p) fun _ s => (.plain .ok, s.halt))

/-- ATTEND (R70). -/
def execAttend (p : Port) (s : State) : Host.Outcome State Fault Refusal :=
  .next (s.takeRequest p (.attend p) fun _ s => (.plain .ok, s.refreshAttendance))

end Sys2Proof.Machine
end

