-- ==== Sys2Proof/Machine/HoldFaultRequests.lean ====
section
/-! DEFINITION. The meanings of the hold requests and ACKNOWLEDGE FAULTS. -/

namespace Sys2Proof.Machine

/-- PLACE HOLD: the checks of R181, in order, and the placement of R182 or R183. A table without an empty station slot,
which R177 excludes, would refuse with TABLE_FULL. -/
def State.ownPlaceHold (p : Port) (f : Frame) (s : State) : Answer × State :=
  match holdKindOf (field f.payload 0 1) with
  | none => (.refuse .badArgument, s)
  | some k =>
    if !mayPlace p k then (.refuse .authority, s)
    else
      let r := s.placeHold p k (field f.payload 1 1)
      match r.1 with
      | some x => (.ok (handleBytes x.1 ++ ch (boolNat x.2)), r.2)
      | none => (.refuse .tableFull, r.2)

/-- RELEASE HOLD: the checks of R184, in order. -/
def State.ownReleaseHold (p : Port) (f : Frame) (s : State) : Answer × State :=
  match handleField 12 f.payload 0 with
  | none => (.refuse .badArgument, s)
  | some h =>
    match s.holdAt h with
    | none => (.refuse .unknownHandle, s)
    | some r => if r.owner = portOwner p then (.plain .ok, s.releaseHold h.slot r.kind) else (.refuse .authority, s)

/-- PLACE_HOLD (R181 to R183). -/
def execPlaceHold (p : Port) (s : State) : Host.Outcome State Fault Refusal :=
  .next (s.takeRequest p (.placeHold p) (State.ownPlaceHold p))

/-- RELEASE_HOLD (R184). -/
def execReleaseHold (p : Port) (s : State) : Host.Outcome State Fault Refusal :=
  .next (s.takeRequest p (.releaseHold p) (State.ownReleaseHold p))

/-- ACKNOWLEDGE_FAULTS (R198): the reply carries the number of faults cleared. -/
def execAcknowledgeFaults (p : Port) (s : State) : Host.Outcome State Fault Refusal :=
  .next (s.takeRequest p (.acknowledgeFaults p) fun _ s => (.ok (ch s.acknowledge.1), s.acknowledge.2))

end Sys2Proof.Machine
end

