-- ==== Sys2Proof/Machine/SettingsRequests.lean ====
section
/-! DEFINITION. The meanings of the settings requests, RESTART, and the frames without an owner. -/

namespace Sys2Proof.Machine

/-- LOAD SETTING with a value (R214). -/
def State.ownLoadSetting (f : Frame) (s : State) : Answer × State :=
  match (itemOf (field f.payload 0 2)).bind fun i => writeItem s.cs.pendingSet i ((f.payload.drop 2).take 4) with
  | none => (.refuse .badArgument, s)
  | some c => (.plain .ok, s.onCs fun x => { x with pendingSet := c })

/-- LOAD SETTING with an item alone (R214). -/
def State.ownShowSetting (f : Frame) (s : State) : Answer × State :=
  match itemOf (field f.payload 0 2) with
  | none => (.refuse .badArgument, s)
  | some i => (.ok (showItem s.cs.pendingSet i ++ showItem s.cs.active i), s)

/-- COMMIT SETTINGS (R215): the failure with the lowest item, or the commit. -/
def State.ownCommit (_ : Frame) (s : State) : Answer × State :=
  if !s.mayCommit then (.refuse .notNow, s)
  else
    match commitFailure s.cs.pendingSet with
    | some item => ({ Answer.refuse .commitFailed with body := beBytes 2 item }, s)
    | none => ({ Answer.plain .ok with commits := true }, s.commit)

/-- RESTART (R218): accepted, the restart acts at the end of the reply. -/
def State.ownRestart (_ : Frame) (s : State) : Answer × State :=
  if s.mayRestart then ({ Answer.plain .ok with restarts := true }, s) else (.refuse .notNow, s)

/-- A port's transmitter holds the reply to an accepted RESTART (R218). -/
def Transmitter.restarts : Transmitter → Bool
  | .idle => false
  | .waiting r _ => r.restarts
  | .sending r _ _ => r.restarts

/-- LOAD_SETTING (R214). -/
def execLoadSetting (p : Port) (s : State) : Host.Outcome State Fault Refusal :=
  .next (s.takeRequest p (.loadSetting p) State.ownLoadSetting)

/-- LOAD_SETTING_ITEM_ALONE (R214). -/
def execLoadSettingItemAlone (p : Port) (s : State) : Host.Outcome State Fault Refusal :=
  .next (s.takeRequest p (.loadSettingItemAlone p) State.ownShowSetting)

/-- COMMIT_SETTINGS (R215, R216). -/
def execCommitSettings (p : Port) (s : State) : Host.Outcome State Fault Refusal :=
  .next (s.takeRequest p (.commitSettings p) State.ownCommit)

/-- RESTART (R218). -/
def execRestart (p : Port) (s : State) : Host.Outcome State Fault Refusal :=
  .next (s.takeRequest p (.restart p) State.ownRestart)

/-- RESTART_ACTS (R218): the reply to an accepted RESTART, which port 0 holds, is at its end. -/
def execRestartActs (s : State) : Host.Outcome State Fault Refusal :=
  .next (if s.sp.operator.tx.restarts then s.restartActs else s)

/-- UNKNOWN_REQUEST (R208). The screening answers a kind that the table does not list, so no owner takes it. -/
def execUnknownRequest (p : Port) (s : State) : Host.Outcome State Fault Refusal :=
  .next (s.takeRequest p (.unknownRequest p) fun _ s => (.refuse .unknownRequest, s))

/-- FRAME_DROPPED (R207): the entry is removed without reply. -/
def execFrameDropped (p : Port) (s : State) : Host.Outcome State Fault Refusal :=
  .next (match s.takeable p with
    | none => s
    | some b => if takeCommand p b.frame = .frameDropped p then s.onPort p PortRec.pop else s)

end Sys2Proof.Machine
end

