-- ==== Sys2Proof/Machine/PortEvents.lean ====
section
/-! DEFINITION. The meanings of the events on a station port (chapter 11). -/

namespace Sys2Proof.Machine

/-- FRAME_COMPLETE (R207). -/
def execFrameComplete (p : Port) (f : Frame) (s : State) : Host.Outcome State Fault Refusal :=
  .next (s.frameCompletes p f)

/-- FRAME_ABANDONED (R206). -/
def execFrameAbandoned (p : Port) (s : State) : Host.Outcome State Fault Refusal := .next (s.frameAbandons p)

/-- DRIVER_ENABLE_RISES (R211). -/
def execDriverEnableRises (p : Port) (s : State) : Host.Outcome State Fault Refusal := .next (s.driverRises p)

/-- REPLY_COMPLETED (R211). -/
def execReplyCompleted (p : Port) (s : State) : Host.Outcome State Fault Refusal := .next (s.replyCompletes p)

/-- REPLY_ABANDONED (R212): a read-back mismatch while the driver is raised, or a 0xC5 before it has risen. -/
def execReplyAbandoned (p : Port) (s : State) : Host.Outcome State Fault Refusal :=
  .next (s.abandonReply p false false)

/-- CHARACTER_RECEIVED (R206, R212). -/
def execCharacterReceived (p : Port) (c : RxChar) (s : State) : Host.Outcome State Fault Refusal :=
  .next (s.charReceived p c)

end Sys2Proof.Machine
end

