-- ==== Sys2Proof/Machine/LineEvents.lean ====
section
/-! DEFINITION. The meanings of the events of the field lines, the wind windows and the supply monitor. -/

namespace Sys2Proof.Machine

/-- SAMPLING_INSTANT (R2 to R4, R7): the levels at the terminals. -/
def execSamplingInstant (lines : BitVec 48) (lamps : BitVec 15) (s : State) : Host.Outcome State Fault Refusal :=
  .next (s.sample lines lamps)

/-- ANEMOMETER_PULSE (R6): counted while the windows run. -/
def execAnemometerPulse (s : State) : Host.Outcome State Fault Refusal :=
  .next (if s.iq.windowTimer.isNone then s else s.onIq fun q => { q with anemometer := min (q.anemometer + 1) 65535 })

/-- WIND_WINDOW_END (R6, R189). -/
def execWindWindowEnd (s : State) : Host.Outcome State Fault Refusal := .next s.windowEnd

/-- WIND_DELAY_END (R193): the window end whose value is the d-th after the delay started. -/
def execWindDelayEnd (s : State) : Host.Outcome State Fault Refusal :=
  .next (if s.mfs.wind.delay = some 1 then s.windowEnd else s)

/-- SUPPLY_DELAY_EXPIRY (R193). -/
def execSupplyDelayExpiry (s : State) : Host.Outcome State Fault Refusal := .next s.supplyExpiry

/-- ESTOP_LOOP_OPENS (R14, R16). -/
def execEstopLoopOpens (s : State) : Host.Outcome State Fault Refusal := .next s.loopOpens

/-- ESTOP_LOOP_CLOSES (R15, R16). -/
def execEstopLoopCloses (s : State) : Host.Outcome State Fault Refusal := .next s.loopCloses

end Sys2Proof.Machine
end

