-- ==== Sys2Proof/Machine/DriveEvents.lean ====
section
/-! DEFINITION. The meanings of the events of the drive period, the scans, the towers and the locks. -/

namespace Sys2Proof.Machine

/-- DRIVE_PERIOD_BOUNDARY (R12, R18, R61). -/
def execDrivePeriodBoundary (s : State) : Host.Outcome State Fault Refusal := .next s.periodBoundary

/-- SCAN_COMPLETION (R27): the raw codes of the scan in progress. -/
def execScanCompletion (codes : RawCodes) (s : State) : Host.Outcome State Fault Refusal := .next (s.completeScan codes)

/-- BRAKE_TIMER_EXPIRY (R59, R61). -/
def execBrakeTimerExpiry (t : Tower) (s : State) : Host.Outcome State Fault Refusal := .next (s.brakeExpiry t)

/-- REVERSAL_INTERVAL_EXPIRY (R59, R60). -/
def execReversalIntervalExpiry (t : Tower) (s : State) : Host.Outcome State Fault Refusal := .next (s.reversalExpiry t)

/-- LOCK_TRAVEL_TIMEOUT (R79). -/
def execLockTravelTimeout (s : State) : Host.Outcome State Fault Refusal := .next s.lockTimeout

/-- SEAT_TIMEOUT (R79). -/
def execSeatTimeout (s : State) : Host.Outcome State Fault Refusal := .next s.seatTimeout

/-- ATTENDANCE_TIMER_EXPIRY (R71). -/
def execAttendanceTimerExpiry (s : State) : Host.Outcome State Fault Refusal := .next s.attendanceExpiry

/-- DISAGREEMENT_TIMER_EXPIRY (R77). -/
def execDisagreementTimerExpiry (t : Tower) (p : Proving) (s : State) : Host.Outcome State Fault Refusal :=
  .next (s.disagreementExpiry t p)

/-- CARRIER_PERIOD_START (R12): the live duty then in force, while the carrier runs. -/
def execCarrierPeriodStart (t : Tower) (s : State) : Host.Outcome State Fault Refusal :=
  .next (if (s.om.speed.get t).carrierTimer.isNone then s
    else s.onOm fun o => { o with speed := o.speed.set t (o.speed.get t).startPeriod })

end Sys2Proof.Machine
end

