-- ==== Sys2Proof/Machine/RoadEvents.lean ====
section
/-! DEFINITION. The meanings of the events of the road (chapter 5) and the budget. -/

namespace Sys2Proof.Machine

/-- PREWARN_TIMER_EXPIRY (R93). -/
def execPrewarnTimerExpiry (s : State) : Host.Outcome State Fault Refusal := .next s.prewarnExpiry

/-- AMBER_TIMER_EXPIRY (R86). -/
def execAmberTimerExpiry (s : State) : Host.Outcome State Fault Refusal := .next s.amberExpiry

/-- CLEARING_TIMER_EXPIRY (R94). -/
def execClearingTimerExpiry (s : State) : Host.Outcome State Fault Refusal := .next s.clearingExpiry

/-- EXTINGUISH_TIMER_EXPIRY (R99). -/
def execExtinguishTimerExpiry (s : State) : Host.Outcome State Fault Refusal := .next s.extinguishExpiry

/-- GATE_TRAVEL_TIMEOUT (R91). -/
def execGateTravelTimeout (g : Gate) (s : State) : Host.Outcome State Fault Refusal := .next (s.travelExpiry g)

/-- SETTLE_TIMER_EXPIRY (R96). -/
def execSettleTimerExpiry (g : Gate) (s : State) : Host.Outcome State Fault Refusal := .next (s.settleExpiry g)

/-- BUDGET_TICK (R105, R106). -/
def execBudgetTick (s : State) : Host.Outcome State Fault Refusal := .next s.budgetTick

/-- BUDGET_EXHAUSTED (R106, R170): the tick that brings the budget to 0. -/
def execBudgetExhausted (s : State) : Host.Outcome State Fault Refusal :=
  .next (if s.rcs.budget = 1 then s.budgetTick else s)

end Sys2Proof.Machine
end

