-- ==== Sys2Proof/Machine/HeadEvents.lean ====
section
/-! DEFINITION. The meanings of the events of the heads (chapter 6). -/

namespace Sys2Proof.Machine

/-- STEP_TIMER_EXPIRY (R115, R116). -/
def execStepTimerExpiry (h : Head) (s : State) : Host.Outcome State Fault Refusal := .next (s.stepExpiry h)

/-- HORN_GIVES_UP (R116): the horn's step expiry that completes the last pass. -/
def execHornGivesUp (s : State) : Host.Outcome State Fault Refusal :=
  .next (if s.givesUp .horn then s.stepExpiry .horn else s)

/-- PROVING_POINT (R119). -/
def execProvingPoint (h : Head) (s : State) : Host.Outcome State Fault Refusal := .next (s.provingPointOf h)

end Sys2Proof.Machine
end

