-- ==== Sys2Proof/Machine/ClockEvents.lean ====
section
/-! DEFINITION. The meanings of the ticks of the passage clock and the hold clock (R136 to R139, R178). -/

namespace Sys2Proof.Machine

/-- PASSAGE_CLOCK_TICK (R136). -/
def execPassageClockTick (s : State) : Host.Outcome State Fault Refusal :=
  .next (if s.pau.clock.isNone then s
    else (s.onPau fun u => { u with clock := startTimer (secTicks 1) }).tickPassages)

/-- WINDOW_OPENS (R137): the last count of one record's wait. -/
def execWindowOpens (i : Fin 16) (s : State) : Host.Outcome State Fault Refusal :=
  .next (if (s.pau.slots[i]).record.any fun p => p.wait = 1 then s.countWait i else s)

/-- LAPSE (R138): the last count of a FILED record's expiry. -/
def execLapse (i : Fin 16) (s : State) : Host.Outcome State Fault Refusal :=
  .next (if (s.pau.slots[i]).record.any fun p => p.state = .filed && p.expiry = some 1 then s.countExpiry i else s)

/-- LINGER_END (R139): the last count of a LAPSED record's linger. -/
def execLingerEnd (i : Fin 16) (s : State) : Host.Outcome State Fault Refusal :=
  .next (if (s.pau.slots[i]).record.any fun p => p.state = .lapsed && p.linger = some 1 then s.countExpiry i else s)

/-- HOLD_CLOCK_TICK (R178). -/
def execHoldClockTick (s : State) : Host.Outcome State Fault Refusal :=
  .next (if s.ht.clock.isNone then s else s.onHt fun t => { t.tick with clock := startTimer (secTicks 1) })

end Sys2Proof.Machine
end

