-- ==== Sys2Proof/Machine/Resets.lean ====
section
/-! DEFINITION. The meanings of the resets (R217). -/

namespace Sys2Proof.Machine

/-- POWER_ON_RESET (R217): the core supply crosses its threshold. A fall holds the part in reset, until the rise, which is a
power-on reset too. DEDUCED (log 31): each such command is one crossing, so it inverts the supply's state. -/
def execPowerOnReset (s : State) : Host.Outcome State Fault Refusal :=
  .next (s.onCs fun c => { c with supplyLow := !c.supplyLow }).powerOn

/-- RESET_LINE (R217): the part is held in reset until the line rises. -/
def execResetLine (s : State) : Host.Outcome State Fault Refusal :=
  .next (s.onCs fun c => { c with resetLow := true }).powerOn

/-- RESET_LINE_RISES (R217). -/
def execResetLineRises (s : State) : Host.Outcome State Fault Refusal :=
  .next (s.onCs fun c => { c with resetLow := false })

end Sys2Proof.Machine
end

