-- ==== Sys2Proof/Machine/Dispatch.lean ====
section
/-! DEFINITION. One arm for each command: a direct call of its meaning. -/

namespace Sys2Proof.Machine

def exec (i : Instr) (s : State) : Host.Outcome State Fault Refusal :=
  match i with
  | .powerOnReset => Sys2Proof.Machine.execPowerOnReset s
  | .resetLine => Sys2Proof.Machine.execResetLine s
  | .readStatus p => Sys2Proof.Machine.execReadStatus p s
  | .readMeasurements p => Sys2Proof.Machine.execReadMeasurements p s
  | .readFaults p => Sys2Proof.Machine.execReadFaults p s
  | .readHolds p => Sys2Proof.Machine.execReadHolds p s
  | .readPassage p => Sys2Proof.Machine.execReadPassage p s
  | .findPassage p => Sys2Proof.Machine.execFindPassage p s
  | .listPassages p => Sys2Proof.Machine.execListPassages p s
  | .filePassage p => Sys2Proof.Machine.execFilePassage p s
  | .amendPassage p => Sys2Proof.Machine.execAmendPassage p s
  | .withdrawPassage p => Sys2Proof.Machine.execWithdrawPassage p s
  | .beginOpening p => Sys2Proof.Machine.execBeginOpening p s
  | .endOpening p => Sys2Proof.Machine.execEndOpening p s
  | .closeRoad p => Sys2Proof.Machine.execCloseRoad p s
  | .reopenRoad p => Sys2Proof.Machine.execReopenRoad p s
  | .raiseSpan p => Sys2Proof.Machine.execRaiseSpan p s
  | .lowerSpan p => Sys2Proof.Machine.execLowerSpan p s
  | .haltSpan p => Sys2Proof.Machine.execHaltSpan p s
  | .attend p => Sys2Proof.Machine.execAttend p s
  | .placeHold p => Sys2Proof.Machine.execPlaceHold p s
  | .releaseHold p => Sys2Proof.Machine.execReleaseHold p s
  | .acknowledgeFaults p => Sys2Proof.Machine.execAcknowledgeFaults p s
  | .loadSetting p => Sys2Proof.Machine.execLoadSetting p s
  | .loadSettingItemAlone p => Sys2Proof.Machine.execLoadSettingItemAlone p s
  | .commitSettings p => Sys2Proof.Machine.execCommitSettings p s
  | .restart p => Sys2Proof.Machine.execRestart p s
  | .restartActs => Sys2Proof.Machine.execRestartActs s
  | .unknownRequest p => Sys2Proof.Machine.execUnknownRequest p s
  | .frameDropped p => Sys2Proof.Machine.execFrameDropped p s
  | .frameComplete p f => Sys2Proof.Machine.execFrameComplete p f s
  | .frameAbandoned p => Sys2Proof.Machine.execFrameAbandoned p s
  | .driverEnableRises p => Sys2Proof.Machine.execDriverEnableRises p s
  | .replyCompleted p => Sys2Proof.Machine.execReplyCompleted p s
  | .replyAbandoned p => Sys2Proof.Machine.execReplyAbandoned p s
  | .samplingInstant lines lamps => Sys2Proof.Machine.execSamplingInstant lines lamps s
  | .anemometerPulse => Sys2Proof.Machine.execAnemometerPulse s
  | .windWindowEnd => Sys2Proof.Machine.execWindWindowEnd s
  | .windDelayEnd => Sys2Proof.Machine.execWindDelayEnd s
  | .supplyDelayExpiry => Sys2Proof.Machine.execSupplyDelayExpiry s
  | .estopLoopOpens => Sys2Proof.Machine.execEstopLoopOpens s
  | .estopLoopCloses => Sys2Proof.Machine.execEstopLoopCloses s
  | .drivePeriodBoundary => Sys2Proof.Machine.execDrivePeriodBoundary s
  | .scanCompletion codes => Sys2Proof.Machine.execScanCompletion codes s
  | .brakeTimerExpiry t => Sys2Proof.Machine.execBrakeTimerExpiry t s
  | .reversalIntervalExpiry t => Sys2Proof.Machine.execReversalIntervalExpiry t s
  | .lockTravelTimeout => Sys2Proof.Machine.execLockTravelTimeout s
  | .seatTimeout => Sys2Proof.Machine.execSeatTimeout s
  | .attendanceTimerExpiry => Sys2Proof.Machine.execAttendanceTimerExpiry s
  | .disagreementTimerExpiry t v => Sys2Proof.Machine.execDisagreementTimerExpiry t v s
  | .prewarnTimerExpiry => Sys2Proof.Machine.execPrewarnTimerExpiry s
  | .amberTimerExpiry => Sys2Proof.Machine.execAmberTimerExpiry s
  | .clearingTimerExpiry => Sys2Proof.Machine.execClearingTimerExpiry s
  | .extinguishTimerExpiry => Sys2Proof.Machine.execExtinguishTimerExpiry s
  | .gateTravelTimeout g => Sys2Proof.Machine.execGateTravelTimeout g s
  | .settleTimerExpiry g => Sys2Proof.Machine.execSettleTimerExpiry g s
  | .budgetTick => Sys2Proof.Machine.execBudgetTick s
  | .budgetExhausted => Sys2Proof.Machine.execBudgetExhausted s
  | .stepTimerExpiry h => Sys2Proof.Machine.execStepTimerExpiry h s
  | .hornGivesUp => Sys2Proof.Machine.execHornGivesUp s
  | .provingPoint h => Sys2Proof.Machine.execProvingPoint h s
  | .passageClockTick => Sys2Proof.Machine.execPassageClockTick s
  | .windowOpens slot => Sys2Proof.Machine.execWindowOpens slot s
  | .lapse slot => Sys2Proof.Machine.execLapse slot s
  | .lingerEnd slot => Sys2Proof.Machine.execLingerEnd slot s
  | .holdClockTick => Sys2Proof.Machine.execHoldClockTick s
  | .characterReceived p c => Sys2Proof.Machine.execCharacterReceived p c s
  | .resetLineRises => Sys2Proof.Machine.execResetLineRises s
  | .carrierPeriodStart t => Sys2Proof.Machine.execCarrierPeriodStart t s

end Sys2Proof.Machine
end

