-- ==== Sys2Proof/Machine/Time.lean ====
section
/-! DEFINITION. What the part does while no command waits (log 2): SP takes the requests that its buffers hold, and time
runs on to the next timer that expires. -/

namespace Sys2Proof.Machine

/-- A timer with the command that its expiry is. -/
abbrev Due := Ticks × Instr

def timerDue (t : Timer) (i : Instr) : List Due :=
  match t with
  | none => []
  | some r => [(r, i)]

def reversalDue (t : Tower) (r : Option Reversal) : List Due := timerDue (r.map (·.remaining)) (.reversalIntervalExpiry t)

def comparisonDue (t : Tower) (p : Proving) (c : Comparison) : List Due :=
  match c with
  | .disagrees r => [(r, .disagreementTimerExpiry t p)]
  | .agrees | .failed => []

def towerDue (t : Tower) (r : TowerRec) : List Due :=
  timerDue r.brakeTimer (.brakeTimerExpiry t) ++ reversalDue t r.reversal ++ comparisonDue t .raiseAux r.raiseCmp ++
    comparisonDue t .lowerAux r.lowerCmp ++ comparisonDue t .brake r.brakeCmp

def attendanceDue (a : AttendanceTimer) : List Due :=
  match a with
  | .counting r => [(r, .attendanceTimerExpiry)]
  | .stopped | .standing => []

def smcDue (m : Smc) : List Due :=
  towerDue .a m.towers.a ++ towerDue .b m.towers.b ++ timerDue m.lockTimer .lockTravelTimeout ++
    timerDue m.seatTimer .seatTimeout ++ attendanceDue m.attendance ++ timerDue m.periodTimer .drivePeriodBoundary

def gateDue (g : Gate) (r : GateRec) : List Due :=
  timerDue r.travel (.gateTravelTimeout g) ++
    (match r.settle with
     | .running t => [(t, .settleTimerExpiry g)]
     | .stopped | .expired => [])

/-- The step timers of the road are frozen while RCS is suspended (R103). -/
def rcsDue (m : Rcs) : List Due :=
  (if m.suspended then []
   else timerDue m.prewarn .prewarnTimerExpiry ++ timerDue m.amber .amberTimerExpiry ++
     (match m.clearing with
      | .running t => [(t, .clearingTimerExpiry)]
      | .stopped | .expired => []) ++
     timerDue m.extinguish .extinguishTimerExpiry) ++
    Gate.all.flatMap (fun g => gateDue g (m.gates.get g)) ++ timerDue m.budgetTimer .budgetTick

/-- A proving point that falls at its step's end is part of that expiry (R119). -/
def headDue (h : Head) (r : RunRec) : List Due :=
  timerDue r.stepTimer (.stepTimerExpiry h) ++ (if r.proving = r.stepTimer then [] else timerDue r.proving (.provingPoint h))

def portDue (p : Port) (r : PortRec) : List Due :=
  (match r.tx with
   | .idle => []
   | .waiting _ t => [(t, .driverEnableRises p)]
   | .sending _ _ t => [(t, .replyCompleted p)]) ++
  (match r.rx with
   | .hunting => []
   | .inFrame _ _ _ t => [(t, .frameAbandoned p)])

/-- The raw codes of a scan that no command gives (log 2). -/
def freeCodes (n : Nat) : RawCodes :=
  { ch0 := Config.rawCode n 0, ch1 := Config.rawCode n 1, ch2 := Config.rawCode n 2, ch3 := Config.rawCode n 3,
    ch4 := Config.rawCode n 4 }

/-- Every running timer with the command that its expiry is. -/
def State.due (s : State) : List Due :=
  timerDue s.iq.samplingTimer (.samplingInstant (Config.lineSample s.free) (Config.lampSample s.free)) ++
    timerDue s.iq.windowTimer .windWindowEnd ++ timerDue s.mfs.supply.delay .supplyDelayExpiry ++
    timerDue s.mu.scanTimer (.scanCompletion (freeCodes s.free)) ++ smcDue s.smc ++ rcsDue s.rcs ++
    Head.all.flatMap (fun h => headDue h (s.pg.heads.get h)) ++ timerDue s.pau.clock .passageClockTick ++
    timerDue s.ht.clock .holdClockTick ++ timerDue s.om.speed.a.carrierTimer (.carrierPeriodStart .a) ++
    timerDue s.om.speed.b.carrierTimer (.carrierPeriodStart .b) ++ portDue .operator s.sp.operator ++
    portDue .traffic s.sp.traffic

/-! ### The passing of time -/

def Timer.less (t : Timer) (d : Ticks) : Timer := t.map (· - d)

def Comparison.less (c : Comparison) (d : Ticks) : Comparison :=
  match c with
  | .disagrees r => .disagrees (r - d)
  | c => c

def TowerRec.less (d : Ticks) (r : TowerRec) : TowerRec :=
  { r with
    brakeTimer := Timer.less r.brakeTimer d, reversal := r.reversal.map fun v => { v with remaining := v.remaining - d }
    raiseCmp := r.raiseCmp.less d, lowerCmp := r.lowerCmp.less d, brakeCmp := r.brakeCmp.less d }

def AttendanceTimer.less (a : AttendanceTimer) (d : Ticks) : AttendanceTimer :=
  match a with
  | .counting r => .counting (r - d)
  | a => a

def Smc.less (d : Ticks) (m : Smc) : Smc :=
  { m with
    towers := { a := m.towers.a.less d, b := m.towers.b.less d }, lockTimer := Timer.less m.lockTimer d,
    seatTimer := Timer.less m.seatTimer d, attendance := m.attendance.less d, periodTimer := Timer.less m.periodTimer d }

def MarkTimer.less (t : MarkTimer) (d : Ticks) : MarkTimer :=
  match t with
  | .running r => .running (r - d)
  | t => t

def GateRec.less (d : Ticks) (r : GateRec) : GateRec := { r with travel := Timer.less r.travel d, settle := r.settle.less d }

def Rcs.less (d : Ticks) (m : Rcs) : Rcs :=
  let m := { m with gates := m.gates.mapAll (GateRec.less d), budgetTimer := Timer.less m.budgetTimer d }
  if m.suspended then m
  else { m with prewarn := Timer.less m.prewarn d, amber := Timer.less m.amber d, clearing := m.clearing.less d,
                extinguish := Timer.less m.extinguish d }

def RunRec.less (d : Ticks) (r : RunRec) : RunRec :=
  { r with stepTimer := Timer.less r.stepTimer d, proving := Timer.less r.proving d }

def PerHead.mapAll {α : Type} (f : α → α) (p : PerHead α) : PerHead α :=
  { warnN := f p.warnN, warnS := f p.warnS, trafN := f p.trafN, trafS := f p.trafS, chanU := f p.chanU,
    chanD := f p.chanD, horn := f p.horn }

def Speed.less (d : Ticks) (v : Speed) : Speed := { v with carrierTimer := Timer.less v.carrierTimer d }

def Transmitter.less (t : Transmitter) (d : Ticks) : Transmitter :=
  match t with
  | .idle => .idle
  | .waiting r x => .waiting r (x - d)
  | .sending r k x => .sending r k (x - d)

def Receiver.less (t : Receiver) (d : Ticks) : Receiver :=
  match t with
  | .hunting => .hunting
  | .inFrame l p f x => .inFrame l p f (x - d)

def PortRec.less (d : Ticks) (r : PortRec) : PortRec :=
  { r with tx := r.tx.less d, rx := r.rx.less d, buffer := r.buffer.map fun b => { b with age := b.age + d } }

/-- A length of time passes: every running timer has less to go. -/
def State.elapse (s : State) (d : Ticks) : State :=
  { s with
    iq := { s.iq with samplingTimer := Timer.less s.iq.samplingTimer d, windowTimer := Timer.less s.iq.windowTimer d }
    om := { s.om with speed := { a := s.om.speed.a.less d, b := s.om.speed.b.less d } }
    mu := { s.mu with scanTimer := Timer.less s.mu.scanTimer d }
    smc := s.smc.less d
    rcs := s.rcs.less d
    pg := { s.pg with heads := s.pg.heads.mapAll (RunRec.less d) }
    pau := { s.pau with clock := Timer.less s.pau.clock d }
    ht := { s.ht with clock := Timer.less s.ht.clock d }
    mfs := { s.mfs with supply := { s.mfs.supply with delay := Timer.less s.mfs.supply.delay d } }
    sp := { operator := s.sp.operator.less d, traffic := s.sp.traffic.less d } }

/-- The shortest time in a list, none for an empty one. -/
def shortest : List Due → Option Ticks
  | [] => none
  | x :: t => some (t.foldl (fun m y => min m y.1) x.1)

/-- The commands that SP could take now, one for each port (R207). -/
def State.takes (s : State) : List Instr :=
  (s.takenCommand .operator).toList ++ (s.takenCommand .traffic).toList

/-- One command of a list, in a free choice where it holds several (log 1). -/
def State.choose (s : State) (l : List Instr) : Option Instr × State :=
  match l with
  | [] => (none, s)
  | [i] => (some i, s)
  | _ => (l[Config.order s.free % l.length]?, { s with free := s.free + 1 })

/-- The next command of the part itself (log 2): a request that SP takes, or else the next timer's expiry, with the
time that passes until it. None where nothing waits and no timer runs. -/
def State.nextEvent (s : State) : Option Instr × State :=
  match s.takes with
  | i :: l => s.choose (i :: l)
  | [] =>
    match shortest s.due with
    | none => (none, s)
    | some d => ({ s.elapse d with free := s.free + 1 }).choose ((s.due.filter fun (x : Due) => x.1 = d).map fun (x : Due) => x.2)

end Sys2Proof.Machine
end

