-- ==== Sys2Proof/Safety.lean ====
section
/-! DEFINITION. What counts as a safe part: the laws that the spec states of every moment, as invariants of the state, and
the words in which statements speak of requests and replies. -/

namespace Sys2Proof.Machine

/-! ### Outcomes -/

/-- The outcome is a next state of which `P` holds. -/
def Gives (o : Host.Outcome State Fault Refusal) (P : State → Prop) : Prop := ∃ t, o = .next t ∧ P t

/-! ### Requests and replies (R205, R207, R208, R211, R219) -/

/-- At port `p` SP takes the well received frame of `b` next: the part runs, the transmitter is idle, and `b` is the older
entry of the buffer, with `rest` behind it (R207). -/
def State.offers (s : State) (p : Port) (b : Buffered) (rest : List Buffered) : Bool :=
  !s.cs.held && (s.sp.get p).tx = .idle && (s.sp.get p).buffer = b :: rest && !b.frame.parityError &&
    !b.frame.framingError && !b.frame.checkError

/-- The frame of `b` is the request of a kind with a payload. -/
def Buffered.asks (b : Buffered) (kind : Nat) (payload : List Byte) : Bool :=
  b.frame.kind.toNat = kind && b.frame.payload = payload

/-- The reply that port `p` forms to `b`: the kind plus 0x80, the tag echoed, and the payload of the status, the flags
OVERRUN and CLAMPED and the body (R205, R208, R219). -/
def State.replyWith (s : State) (p : Port) (b : Buffered) (status : Nat) (clamped : Bool) (body : List Byte) : Reply :=
  { kind := b.frame.kind + 0x80, tag := b.frame.tag,
    payload :=
      BitVec.ofNat 8 status :: ((if (s.sp.get p).overrun then 1 else 0) + (if clamped then 2 else 0) : Byte) :: body,
    clearsOverrun := (s.sp.get p).overrun, commits := false, restarts := false }

/-- `s` after port `p` has formed the reply `r` to `b`: the entry is removed, and the reply waits for what remains of the
turnaround guard, counted in character times of 11 bits (R204, R207, R211). Nothing else differs from `s`. -/
def State.replied (s : State) (p : Port) (b : Buffered) (rest : List Buffered) (r : Reply) : State :=
  { s with
    sp := s.sp.set p
      { s.sp.get p with
        buffer := rest, tx := .waiting r (s.act.guard * (11 * 2880000 / (s.sp.get p).bitRate) - b.age) } }

/-- `s` after port `p` has answered `b` with a status and a body, CLAMPED clear. -/
def State.answered (s : State) (p : Port) (b : Buffered) (rest : List Buffered) (status : Nat) (body : List Byte) : State :=
  s.replied p b rest (s.replyWith p b status false body)

/-- Port `p` receives characters one after the other. -/
def feed (p : Port) : List RxChar → State → Host.Outcome State Fault Refusal
  | [], s => .next s
  | c :: l, s =>
    match exec (.characterReceived p c) s with
    | .next t => feed p l t
    | o => o

/-- The request table (R208): kind, payload length and command. -/
def requests (p : Port) : List (Nat × Nat × Instr) :=
  [(0x01, 1, .readStatus p), (0x02, 0, .readMeasurements p), (0x03, 0, .readFaults p), (0x04, 0, .readHolds p),
   (0x04, 1, .readHolds p), (0x05, 2, .readPassage p), (0x06, 4, .findPassage p), (0x07, 0, .listPassages p),
   (0x10, 15, .filePassage p), (0x11, 16, .amendPassage p), (0x12, 2, .withdrawPassage p), (0x18, 0, .beginOpening p),
   (0x19, 0, .endOpening p), (0x20, 0, .closeRoad p), (0x21, 0, .reopenRoad p), (0x28, 0, .raiseSpan p),
   (0x28, 2, .raiseSpan p), (0x29, 0, .lowerSpan p), (0x2A, 0, .haltSpan p), (0x2B, 0, .attend p), (0x30, 2, .placeHold p),
   (0x31, 2, .releaseHold p), (0x38, 0, .acknowledgeFaults p), (0x40, 6, .loadSetting p),
   (0x40, 2, .loadSettingItemAlone p), (0x41, 0, .commitSettings p), (0x42, 0, .restart p)]

/-- The kinds that only OPERATOR may send (R208's table). -/
def operatorKinds : List Nat := [0x18, 0x19, 0x20, 0x21, 0x28, 0x29, 0x2A, 0x2B, 0x38, 0x40, 0x41, 0x42]

/-- The kinds that are refused while the key is in LOCAL (R208's table). -/
def remoteKinds : List Nat := [0x20, 0x21, 0x28, 0x29, 0x2B]

/-- The kinds that are refused in UNCONFIGURED (R208's table). -/
def configuredKinds : List Nat :=
  [0x10, 0x11, 0x12, 0x18, 0x19, 0x20, 0x21, 0x28, 0x29, 0x2A, 0x2B, 0x30, 0x31, 0x38, 0x42]

/-- OPERATOR's request of a kind and payload is offered at port 0 to a CONFIGURED part whose key is in REMOTE: it passes
every test of R208 that does not look at its length. -/
def State.operatorAsks (s : State) (b : Buffered) (rest : List Buffered) (kind : Nat) (payload : List Byte) : Bool :=
  s.offers .operator b rest && b.asks kind payload && s.configured && !s.isLocal

/-- The 15 characters of a FILE PASSAGE payload (R219); an absent margin or expiry leaves a field that may hold any number, which is
ignored. -/
def FileFields.payload (x : FileFields) (unusedMargin unusedExpiry : Nat) : List Byte :=
  beBytes 4 x.tag ++ [BitVec.ofNat 8 x.dir.ctorIdx, BitVec.ofNat 8 x.cls.ctorIdx] ++ beBytes 2 x.airDraft ++
    beBytes 2 x.wait ++
    [((if x.margin.isSome then 1 else 0) + (if x.expiry.isSome then 2 else 0) : Byte)] ++
    beBytes 2 (x.margin.getD unusedMargin) ++ beBytes 2 (x.expiry.getD unusedExpiry)

/-- Every field of a filing lies in its range (R128). -/
def FileFields.inRange (x : FileFields) : Bool :=
  1 ≤ x.tag && x.tag < 2 ^ 32 && 100 ≤ x.airDraft && x.airDraft ≤ 9000 && x.wait < 2 ^ 16 && x.margin.all (· ≤ 500) &&
    x.expiry.all fun e => 1 ≤ e && e < 2 ^ 16

/-- The action character of a change: 0 keep, 1 set, 2 make absent (R219). -/
def Change.action {α : Type} : Change α → Byte
  | .keep => 0
  | .set _ => 1
  | .makeAbsent => 2

/-- The number in a change's field: the new value, or anything where the action leaves the field unused (R219). -/
def Change.value (unused : Nat) : Change Nat → Nat
  | .set x => x
  | .keep | .makeAbsent => unused

/-- The 16 characters of an AMEND PASSAGE payload (R219), with the contents of its unused fields. -/
def AmendFields.payload (a : AmendFields) (cls draft margin wait expiry : Nat) : List Byte :=
  [BitVec.ofNat 8 a.handle.slot.val, BitVec.ofNat 8 a.handle.gen, a.cls.action, a.airDraft.action, a.margin.action,
   a.wait.action, a.expiry.action,
   BitVec.ofNat 8 (match a.cls with | .set c => c.ctorIdx | _ => cls)] ++
    beBytes 2 (a.airDraft.value draft) ++ beBytes 2 (a.margin.value margin) ++ beBytes 2 (a.wait.value wait) ++
    beBytes 2 (a.expiry.value expiry)

/-- A change sets a value that passes a test, keeps the field, or drops one that may be dropped. -/
def Change.ok {α : Type} (test : α → Bool) (mayDrop : Bool) : Change α → Bool
  | .set x => test x
  | .keep => true
  | .makeAbsent => mayDrop

/-- Every new value of an amendment lies in its range, and only a margin or an expiry is made absent (R128, R141). -/
def AmendFields.inRange (a : AmendFields) : Bool :=
  a.handle.gen < 256 && a.cls.ok (fun _ => true) false && a.airDraft.ok (fun n => 100 ≤ n && n ≤ 9000) false &&
    a.margin.ok (· ≤ 500) true && a.wait.ok (· < 2 ^ 16) false && a.expiry.ok (fun n => 1 ≤ n && n < 2 ^ 16) true

/-! ### Output lines (R8, R9) -/

/-- The assignment of some settings is resolved (R9): each line's winner is the function assigned to it that has the highest rank,
and within a rank the lowest number; the displaced list holds the other assigned functions in ascending order; the polarities are
taken. -/
def Om.resolvedBy (o : Om) (c : Settings) : Prop :=
  (∀ l : Fin 48,
    match o.winner[l] with
    | none => ∀ f : Fin 40, c.assign[f] ≠ some l
    | some f =>
      c.assign[f] = some l ∧ ∀ g : Fin 40, c.assign[g] = some l → rank f < rank g ∨ (rank f = rank g ∧ f ≤ g)) ∧
  o.displaced = ((List.finRange 40).filter fun f => (c.assign[f]).any fun l => o.winner[l] ≠ some f) ∧ o.inverted = c.inverted

/-! ### One input event (R1 to R3) -/

/-- What the part samples of a line: the loop terminal's own level on line 0, nothing on line 35 (R1, R6; log 3). -/
def State.sampleOf (s : State) (lines : BitVec 48) (l : Fin 48) : Bool :=
  if l = 0 then s.om.loopClosed else if l = 35 then false else lines.getLsb l

/-- A sampling instant with these levels, after qualification complete, qualifies line `l` at the level `b`, which it did not
have, and changes the level of no other line: two of the last three samples of each line decide (R2, R3). -/
def State.qualifies (s : State) (lines : BitVec 48) (l : Fin 48) (b : Bool) : Prop :=
  s.iq.samplingTimer.isSome = true ∧
    ∃ x y q : BitVec 48, (s.iq.samples = [x, y] ∨ ∃ o, s.iq.samples = [o, x, y]) ∧ s.iq.qualified = some q ∧
      q.getLsb l = !b ∧
      ∀ k : Fin 48,
        ((x.getLsb k && y.getLsb k) || (y.getLsb k && s.sampleOf lines k) || (x.getLsb k && s.sampleOf lines k)) =
          if k = l then b else q.getLsb k

/-! ### The channel (chapter 8) -/

/-- The head that a direction faces (R152). -/
def faces : Dir → Head
  | .up => .chanD
  | .down => .chanU

/-- The clearance under which passages may be admitted now: none unless the opening is ADMITTING, the latest set carries the
clearance, no MARINE_STOP hold is live and the budget is above 0 (R160). -/
def State.openClearance (s : State) : Option Int :=
  if s.pau.opening.state = .admitting ∧ s.hasHold .marineStop = false ∧ 0 < s.rcs.budget then
    (s.mu.set.bind (·.heights)).map (·.clearanceCm)
  else none

/-- A handle names a GROUPED member whose need that clearance meets, and whose record passes a test. -/
def State.canGo (s : State) (test : Passage → Bool) (h : Handle 16) : Bool :=
  s.pau.opening.members.contains h &&
    (s.passage h).any fun r => r.state = .grouped && s.openClearance.any (fun c => (r.need s.act : Int) ≤ c) && test r

/-- The direction that holds the channel after an admission test: the one that held it, or the direction of the best candidate,
lowest class rank first and within one class the earliest in the filing queue (R160). -/
def State.givenDirection (s : State) : Option Dir :=
  match s.pau.opening.active with
  | some d => some d
  | none =>
    let cands (k : Machine.Class) : List (Handle 16) :=
      s.pau.queue.filter (s.canGo fun r => r.cls = k && !s.pg.impaired.get (faces r.dir))
    ((cands .emergency ++ cands .commercial ++ cands .routine).head?.bind s.passage).map (·.dir)

/-- The members that an admission test admits, in member order: none of a direction whose head is impaired (R161). -/
def State.admitted (s : State) : List (Handle 16) :=
  match s.givenDirection with
  | none => []
  | some d => if s.pg.impaired.get (faces d) then [] else s.pau.opening.members.filter (s.canGo fun r => r.dir = d)

/-- From `s` to `t` the admission test of R160 and R161 is made, and changes no more of the table and the opening than this: the
direction is given, the admitted members are ADMITTED and join the tail of its queue. -/
def AdmissionTested (s t : State) : Prop :=
  t.pau.opening =
      { s.pau.opening with
        active := s.givenDirection
        queueUp := s.pau.opening.queueUp ++ (if s.givenDirection = some .up then s.admitted else [])
        queueDown := s.pau.opening.queueDown ++ (if s.givenDirection = some .down then s.admitted else []) } ∧
    t.pau.queue = s.pau.queue ∧
    ∀ i : Fin 16,
      t.pau.slots[i] =
        { gen := (s.pau.slots[i]).gen,
          record := (s.pau.slots[i]).record.map fun r =>
            if { slot := i, gen := (s.pau.slots[i]).gen } ∈ s.admitted then { r with state := .admitted } else r }

/-- The direction that holds the channel once the admission queues are these: a queue left empty gives it back (R161). -/
def heldBy (active : Option Dir) (up down : List (Handle 16)) : Option Dir :=
  match active with
  | some .up => if up = [] then none else some .up
  | some .down => if down = [] then none else some .down
  | none => none

/-- A handle names an ADMITTED member whose record passes a test. -/
def State.calledBack (s : State) (test : Passage → Bool) (h : Handle 16) : Bool :=
  s.pau.opening.members.contains h && (s.passage h).any fun r => r.state = .admitted && test r

/-- From `s` to `t` each ADMITTED member that passes the test returns to GROUPED and leaves its queue, keeping its place in the
member list, and a queue left empty gives the channel back (R158, R162, R164, R161). No more of the table and the opening
changes. -/
def CalledBack (s t : State) (test : Passage → Bool) : Prop :=
  let up := s.pau.opening.queueUp.filter fun h => !s.calledBack test h
  let down := s.pau.opening.queueDown.filter fun h => !s.calledBack test h
  t.pau.opening =
      { s.pau.opening with
        queueUp := up
        queueDown := down
        active := heldBy s.pau.opening.active up down } ∧
    t.pau.queue = s.pau.queue ∧
    ∀ i : Fin 16,
      t.pau.slots[i] =
        { gen := (s.pau.slots[i]).gen,
          record := (s.pau.slots[i]).record.map fun r =>
            if s.calledBack test { slot := i, gen := (s.pau.slots[i]).gen } = true then { r with state := .grouped } else r }

/-- From `s` to `t` the join test of the record `r` in slot `i` is made (R155, R156): where it passes, the record is GROUPED with
its required lift, at the tail of the members, and an opening in ADMITTING makes an admission test; else nothing changes. -/
def JoinTested (s t : State) (i : Fin 16) (r : Passage) : Prop :=
  let lift := s.liftOf (r.need s.act)
  if (s.pau.opening.state = .gathered ∨ s.pau.opening.state = .admitting) ∧ r.state = .filed ∧ r.wait = 0 ∧
      (lift : Int) ≤ s.act.hfull ∧ (∃ x, s.pau.opening.target = some x ∧ lift ≤ x) ∧
      s.pg.impaired.get (faces r.dir) = false ∧ s.pau.opening.members.length < 8 ∧ 0 < s.rcs.budget ∧ s.act.jr ≤ s.rcs.budget then
    t = { s with pau := t.pau, pg := t.pg, om := t.om } ∧
      AdmissionTested
        { s with
          pau :=
            { s.pau with
              slots := s.pau.slots.set i
                { gen := (s.pau.slots[i]).gen,
                  record := some { r with state := .grouped, lift := some lift, deferred := false, unreachable := false } }
              opening :=
                { s.pau.opening with
                  members := s.pau.opening.members ++ [{ slot := i, gen := (s.pau.slots[i]).gen }] } } } t
  else t = s

/-- The aspect that R165's table decides for the head of a direction: the first of its lines that holds. -/
def State.aspectFor (s : State) (d : Dir) : Aspect :=
  let queue : List (Handle 16) := match d with | .up => s.pau.opening.queueUp | .down => s.pau.opening.queueDown
  let clear : Option Int := (s.mu.set.bind (·.heights)).map (·.clearanceCm)
  let under (r : Passage) : Bool := r.state = .admitted || r.state = .transiting
  if s.pau.opening.state = .none ∨ s.pau.opening.state = .closingChannel ∨ s.hasHold .marineStop = true then .stop
  else if s.smc.motion = .holding ∧ s.pau.opening.state = .admitting ∧ s.pau.opening.active = some d ∧
      queue.any (fun h => (s.passage h).any fun r => r.state = .admitted) = true ∧ s.pg.impaired.get (faces d) = false ∧
      clear.any (fun c => queue.all fun h => (s.passage h).all fun r => !under r || (r.need s.act : Int) ≤ c) = true then .proceed
  else if s.pau.opening.members.any (fun h =>
      (s.passage h).any fun r => (r.state = .grouped || r.state = .admitted) && r.dir = d) = true then .standby
  else .stop

/-- Both channel heads are decided as R165's table says of the state. -/
def State.aspectsDecided (s : State) : Prop := s.pau.decidedU = s.aspectFor .down ∧ s.pau.decidedD = s.aspectFor .up

/-! ### Departures and the end of an opening (R168 to R173) -/

/-- Some member is in a state. -/
def State.hasMember (s : State) (st : PassState) : Bool :=
  s.pau.opening.members.any fun h => (s.passage h).any fun r => r.state = st

/-- A handle names a GROUPED or ADMITTED member, which returns to FILED when the channel closes (R170, R171). -/
def State.returns (s : State) (h : Handle 16) : Bool :=
  s.pau.opening.members.contains h && (s.passage h).any fun r => r.state = .grouped || r.state = .admitted

/-- The opening in the state `o` once the GROUPED and ADMITTED members of `s` have left it (R170, R171). -/
def State.openingLeft (s : State) (o : OpeningState) : Opening :=
  let up := s.pau.opening.queueUp.filter fun h => !s.returns h
  let down := s.pau.opening.queueDown.filter fun h => !s.returns h
  { s.pau.opening with
    state := o, members := s.pau.opening.members.filter fun h => !s.returns h, queueUp := up, queueDown := down,
    active := heldBy s.pau.opening.active up down }

/-- From `s` to `t` each GROUPED and ADMITTED member returns to FILED with its deferred flag set and its required lift absent, and
no more of the table changes (R170, R171). -/
def ReturnedToFiled (s t : State) : Prop :=
  t.pau.queue = s.pau.queue ∧
    ∀ i : Fin 16,
      t.pau.slots[i] =
        { gen := (s.pau.slots[i]).gen,
          record := (s.pau.slots[i]).record.map fun r =>
            if s.returns { slot := i, gen := (s.pau.slots[i]).gen } = true then
              { r with state := .filed, deferred := true, lift := none }
            else r }

/-- The opening NONE, with everything it holds emptied (R152, R173). -/
def noOpening : Opening :=
  { state := .none, members := [], target := none, active := none, queueUp := [], queueDown := [] }

/-- The finishing test on the members of `s` and the beams of `t`: none TRANSITING and both beams clear (R173). -/
def State.mayFinish (s t : State) : Bool := !s.hasMember .transiting && t.line 33 && t.line 34

/-- From `s` to `t` the opening enters CLOSING_CHANNEL, and is retired at once where no member is TRANSITING and both beams are
clear (R171, R173). -/
def ChannelClosed (s t : State) : Prop :=
  ReturnedToFiled s t ∧
    t.pau.opening = if s.mayFinish t then noOpening else s.openingLeft .closingChannel

/-- `s` with the record that `h` names retired: its slot empty under the next generation, and its handle gone from the filing queue,
the members and the admission queues (R129, R145). -/
def State.withRetired (s : State) (h : Handle 16) : State :=
  let gone (l : List (Handle 16)) : List (Handle 16) := l.filter (· ≠ h)
  { s with
    pau :=
      { s.pau with
        slots := s.pau.slots.set h.slot { gen := (h.gen + 1) % 256, record := none }
        queue := gone s.pau.queue
        opening :=
          { s.pau.opening with
            members := gone s.pau.opening.members, queueUp := gone s.pau.opening.queueUp,
            queueDown := gone s.pau.opening.queueDown } } }

/-- From `s`, in which a member has been retired, to `t` its departure takes effect (R168, R172): ADMITTING without a member, or a
budget of 0 with no member ADMITTED or TRANSITING, closes the channel (R171); a queue left empty gives the channel back and, while
ADMITTING, brings an admission test (R161); in CLOSING_CHANNEL the opening may finish (R173). CLEARANCE_LOW is evaluated again
(R163), and both channel heads are decided. -/
def Departed (s t : State) : Prop :=
  let o := s.pau.opening
  let freed := heldBy o.active o.queueUp o.queueDown
  let closes : Prop := (o.state = .admitting ∧ o.members = []) ∨
    ((o.state = .gathered ∨ o.state = .admitting) ∧ s.rcs.budget = 0 ∧ s.hasMember .admitted = false ∧
      s.hasMember .transiting = false)
  let low : Bool := s.pau.lastClearance.any fun c =>
    o.members.any fun h => (s.passage h).any fun r => r.state = .transiting && decide (c < (r.need s.act : Int))
  (if closes then ChannelClosed s t
   else if o.state = .admitting ∧ o.active ≠ none ∧ freed = none then
     AdmissionTested { s with pau := { s.pau with opening := { o with active := freed } } } t
   else
     t.pau.opening = (if o.state = .closingChannel ∧ s.mayFinish t = true then noOpening else { o with active := freed }) ∧
       t.pau.slots = s.pau.slots ∧ t.pau.queue = s.pau.queue) ∧
  t.pau.clock = s.pau.clock ∧ t.pau.lastClearance = s.pau.lastClearance ∧ t.pau.clearanceLow = low ∧
  t.fault 34 = (s.fault 34).report low ∧ t.aspectsDecided

/-! ### Stops of the span (R61, R72 to R77) -/

/-- A tower's phase at the beginning of a stop (R61's table). -/
def Phase.stopped : Phase → Phase
  | .waitingReversal => .atRest
  | .releasingBrake => .settingBrake
  | .running => .rampingDown
  | p => p

/-- A controlled halt of the moving span, from `s` to `t` (R61, R72): the towers begin to stop under the stop kind HALT, or
the span is HALTED at once where both are then AT_REST. -/
def HaltTaken (s t : State) : Prop :=
  (∀ w, (t.tower w).phase = (s.tower w).phase.stopped) ∧ t.smc.attendance = .stopped ∧ t.smc.seatTimer = none ∧
    if (s.tower .a).phase.stopped = .atRest ∧ (s.tower .b).phase.stopped = .atRest then
      t.smc.motion = .halted ∧ t.smc.stop = .none ∧ t.smc.target = none
    else t.smc.motion = s.smc.motion ∧ t.smc.stop = .halt

/-- SMC stands from `s` to `t`, but for its proving comparisons, which it may look at again (R77). -/
def SmcStands (s t : State) : Prop :=
  t.smc = { s.smc with towers := t.smc.towers } ∧
    ∀ w, t.tower w =
      { s.tower w with
        raiseCmp := (t.tower w).raiseCmp, lowerCmp := (t.tower w).lowerCmp, brakeCmp := (t.tower w).brakeCmp }

/-- SMC takes an event of R73's table, whose listed motion states are `l`: in one of them the controlled halt of R72 (R64 in
UNLOCKING, R68 in LOCKING, the call-back of R158 at the exit from HOLDING), and nothing in another state or under a HALT or QUICK
stop. -/
def HaltsIn (l : List Motion) (s t : State) : Prop :=
  let rest (m : Motion) : Prop :=
    t.smc.motion = m ∧ ∀ w, (t.tower w).phase = (s.tower w).phase
  (s.smc.motion = .holding ∧ Motion.holding ∈ l → rest .halted ∧ t.smc.stop = .none ∧ t.smc.target = none ∧
    if s.pau.opening.state = .admitting then
      (CalledBack { s with pau := { s.pau with opening := { s.pau.opening with state := .gathered } } } t fun _ => true) ∧
        t.aspectsDecided
    else t.pau = s.pau) ∧
  (¬(s.smc.motion = .holding ∧ Motion.holding ∈ l) → t.pau = s.pau ∧
    if s.smc.motion ∈ l then
      match s.smc.motion with
      | .raising | .lowering | .seating =>
        if s.smc.stop = .none ∨ s.smc.stop = .arrival then HaltTaken s t else SmcStands s t
      | .unlocking =>
        rest (if s.line 1 = true ∧ s.line 6 = true then .seated else .halted) ∧ t.smc.lockTimer = none ∧ t.cmd 9 = false ∧
          t.cmd 11 = false
      | .locking => rest .seated ∧ t.smc.lockTimer = none ∧ t.cmd 8 = false ∧ t.cmd 10 = false
      | _ => SmcStands s t
    else SmcStands s t)

/-- A tower's phase after a quick stop (R74). -/
def Phase.quickStopped : Phase → Phase
  | .waitingReversal => .atRest
  | .releasingBrake | .running | .rampingDown => .settingBrake
  | p => p

/-- SMC takes an event of R74's list: the quick stop in LOWERING and SEATING, with any stop kind except QUICK, and else nothing. -/
def QuickStopsFor (s t : State) : Prop :=
  if (s.smc.motion = .lowering ∨ s.smc.motion = .seating) ∧ s.smc.stop ≠ .quick then
    t.smc.attendance = .stopped ∧ t.smc.seatTimer = none ∧ t.smc.out = 0 ∧
    (∀ w, (t.tower w).phase = (s.tower w).phase.quickStopped ∧ (t.om.speed.get w).live = 0 ∧ (t.om.speed.get w).staged = 0 ∧
      ((s.tower w).phase = .releasingBrake ∨ (s.tower w).phase = .running ∨ (s.tower w).phase = .rampingDown →
        (t.tower w).brakeTimer = some (2880 * s.act.tbrk.toNat) ∧ t.cmd (towerFn w 2) = false)) ∧
    if (s.tower .a).phase.quickStopped = .atRest ∧ (s.tower .b).phase.quickStopped = .atRest then
      t.smc.motion = .halted ∧ t.smc.stop = .none ∧ t.smc.target = none
    else t.smc.motion = s.smc.motion ∧ t.smc.stop = .quick
  else SmcStands s t

/-- From `s` to `t` SMC has looked at its six comparisons (R77): one whose line shows its command, as the latch modifies it, agrees;
another that agreed has its disagreement timer started with Tprove; and one that disagreed goes on. The condition of a fault all of
whose comparisons agree is reported absent. -/
def ComparedFrom (s t : State) : Prop :=
  ∀ w : Tower,
    let agrees (line : Fin 5) (fn : Fin 4) : Bool := t.line (towerLine w line) == (t.cmd (towerFn w fn) && !t.om.latch)
    let looked (old : Comparison) (agree : Bool) : Comparison :=
      if agree then .agrees else if old = .agrees then .disagrees (2880 * t.act.tprove.toNat) else old
    let after (f : Fin 37) (agree : Bool) : FaultValue := if agree then (s.fault f).report false else s.fault f
    (t.tower w).raiseCmp = looked (s.tower w).raiseCmp (agrees 2 0) ∧
    (t.tower w).lowerCmp = looked (s.tower w).lowerCmp (agrees 3 1) ∧
    (t.tower w).brakeCmp = looked (s.tower w).brakeCmp (agrees 4 2) ∧
    t.fault (match w with | .a => 6 | .b => 7) = after (match w with | .a => 6 | .b => 7) (agrees 2 0 && agrees 3 1) ∧
    t.fault (match w with | .a => 8 | .b => 9) = after (match w with | .a => 8 | .b => 9) (agrees 4 2)

/-- Every RAISE, LOWER, BRAKE_RELEASE and lock command is off, and the duties are 0 (R57, R75). -/
def State.spanIsOff (s : State) : Prop :=
  (∀ f : Fin 40, f.val ≤ 11 → f.val ≠ 3 → f.val ≠ 7 → s.cmd f = false) ∧
    ∀ w, (s.om.speed.get w).staged = 0 ∧ (s.om.speed.get w).live = 0

/-! ### The steps of the road (chapter 5) -/

/-- Where the road stands once it has gone past every step that has ended, the motors free to run (R94, R97, R99): a step ends with
all its gates, and in a closing those of the steps before it, proven at their positions with no obstruction flag. `cleared`: the
clearing timer has expired. That the raising phase stands at EXIT in BARRIER_RAISING and at ENTRY from EXTINGUISH on is the model's
choice (log 41). -/
def roadPast (pos : Gate → GatePos) (obstructed : Gate → Bool) (cleared : Bool) (road : Road) (phase : RaisingPhase) :
    Road × RaisingPhase :=
  let proven (p : GatePos) (l : List Gate) : Bool := l.all fun g => pos g = p && !obstructed g
  let lowered : Road :=
    if proven .down [.w1, .w3, .w2, .w4, .b1, .b2] then .sealed
    else if proven .down [.w1, .w3, .w2, .w4] then .barrierLowering else .exitLowering
  let raised : Road × RaisingPhase :=
    if !proven .up [.w2, .w4] then (.gateRaising, .exit)
    else if !proven .up [.w1, .w3] then (.gateRaising, .entry) else (.extinguish, .entry)
  match road, phase with
  | .entryLowering, k => (if proven .down [.w1, .w3] then .clearing else .entryLowering, k)
  | .clearing, k => (if proven .down [.w1, .w3] && cleared then lowered else .clearing, k)
  | .exitLowering, k => (lowered, k)
  | .barrierLowering, k => (if lowered = .sealed then .sealed else .barrierLowering, k)
  | .barrierRaising, k => if proven .up [.b1, .b2] then raised else (.barrierRaising, k)
  | .gateRaising, .exit => raised
  | .gateRaising, .entry => if proven .up [.w1, .w3] then (.extinguish, .entry) else (.gateRaising, .entry)
  | .isOpen, k => (.isOpen, k)
  | .prewarn, k => (.prewarn, k)
  | .sealed, k => (.sealed, k)
  | .extinguish, k => (.extinguish, k)
  | .recovery, k => (.recovery, k)

/-- Each gate of the step is driven (R90): one proven at its position has no command and no timer, and another is commanded there,
its motor on, with a fresh travel timer. -/
def State.stepDriven (t : State) : Prop :=
  ∀ g c, (g, c) ∈ Machine.stepGates t.rcs.road t.rcs.phase →
    if cmdPos c = some (t.gate g).pos then
      (t.gate g).cmd = .none ∧ (t.gate g).travel = none ∧ t.cmd (gateDownFn g) = false ∧ t.cmd (gateUpFn g) = false
    else
      (t.gate g).cmd = c ∧ (t.gate g).travel = some (2880000 * t.act.gateTime.toNat) ∧
        t.cmd (gateDownFn g) = decide (c = .down) ∧ t.cmd (gateUpFn g) = decide (c = .up)

/-- From `s` to `t` RCS restarts the interrupted step (R101, R104): each of its gates is driven on, one that has come to its
position needs no drive, the closure that waits for the road heads goes on where none is impaired (R93; at this moment: log 11), the
road goes past every step that has ended, and the step timers go on from where they stood. -/
def StepRestarted (s t : State) : Prop :=
  let impaired := s.pg.impaired.warnN || s.pg.impaired.warnS || s.pg.impaired.trafN || s.pg.impaired.trafS
  let goes : Prop := s.rcs.road = .prewarn ∧ s.rcs.waitingHeads = true ∧ impaired = false
  (t.rcs.road, t.rcs.phase) =
    roadPast (fun g => (s.gate g).pos) (fun _ => false) (s.rcs.clearing = .expired)
      (if goes then .entryLowering else s.rcs.road) s.rcs.phase ∧
  (∀ g, (t.gate g).pos = (s.gate g).pos) ∧ t.stepDriven ∧ t.rcs.prewarn = s.rcs.prewarn ∧ t.rcs.amber = s.rcs.amber

/-- From `s` to `t` a cause of suspension may leave, after which RCS would hold `r` (R102, R104): nothing else changes in RCS where
it stays as suspended as it was, or is holding; and where the last cause leaves, the step restarts. What a restart does is said with
no gate function displaced, no obstruction and every zone clear. -/
def CauseLeaves (s t : State) (r : Rcs) : Prop :=
  (s.rcs.suspended = r.suspended → t.rcs = r) ∧
  (s.rcs.suspended = true → r.suspended = false →
    (r.holding = true → t.rcs = r) ∧
    (r.holding = false → (∀ f : Fin 40, s.isDisplaced f = false) →
      t.rcs.suspended = false ∧ t.rcs.holding = false ∧
      ((∀ g, (s.gate g).obstructed = false ∧ s.zoneClear g = true) → StepRestarted s t)))

/-! ### Laws of every moment -/

/-- A span that unlocks, moves or holds stands over a road that is SEALED (R63, R66, R98). -/
def State.spanLaw (s : State) : Bool :=
  match s.smc.motion with
  | .unlocking | .raising | .holding | .lowering | .seating => s.rcs.road = .sealed
  | .initial | .seatedLocked | .seated | .locking | .halted | .tripped => true

/-- R59's table for one tower: which lines its phase has on. Together they say that RAISE and LOWER are never on together
(R60), that the brake is released and a duty staged only in RUNNING and RAMPING_DOWN, and that a tower at rest has every line
off (R57). -/
def State.towerLaw (s : State) (t : Tower) : Bool :=
  let raise := s.cmd (towerFn t 0)
  let lower := s.cmd (towerFn t 1)
  let brake := s.cmd (towerFn t 2)
  let none := (s.om.speed.get t).staged = 0
  match (s.tower t).phase with
  | .atRest | .waitingReversal => !raise && !lower && !brake && none
  | .releasingBrake | .settingBrake => (raise != lower) && !brake && none
  | .running | .rampingDown => (raise != lower) && brake

/-- The towers: R59's table holds, and only RAISING, LOWERING and SEATING find a tower away from AT_REST (R57). -/
def State.towersLaw (s : State) : Bool :=
  s.towerLaw .a && s.towerLaw .b && (s.smc.motion.moving || s.bothAtRest)

/-- The DOWN and UP functions of one gate are never on together, and neither is on while RCS is suspended or holding
(R89). -/
def State.gatesLaw (s : State) : Bool :=
  Gate.all.all fun g =>
    !(s.cmd (gateDownFn g) && s.cmd (gateUpFn g)) &&
      (!(s.rcs.suspended || s.rcs.holding) || (!s.cmd (gateDownFn g) && !s.cmd (gateUpFn g)))

/-- The summary alarm is commanded exactly while some fault is ACTIVE or LATCHED (R200), and the first trip fault, where
there is one, is a trip fault that is not CLEAR (R199). -/
def State.alarmLaw (s : State) : Bool :=
  (s.cmd 39 = (List.finRange 37).any fun f => s.fault f ≠ .clear) &&
    s.mfs.firstTrip.all fun f => f.val ≤ 11 && s.fault f ≠ .clear

/-- Each head's impaired flag is what the values of its LAMP faults make it (R123; their numbers: R196). -/
def State.impairedLaw (s : State) : Bool :=
  let failed (f : Fin 37) : Bool := s.fault f = .active
  s.pg.impaired =
    { warnN := failed 22 && failed 23, warnS := failed 24 && failed 25, trafN := failed 26, trafS := failed 29,
      chanU := failed 18 || failed 19, chanD := failed 20 || failed 21, horn := false }

/-- The filing queue holds the handle of every live record exactly once (R131). -/
def State.queueLaw (s : State) : Prop :=
  s.pau.queue.Nodup ∧ ∀ h : Handle 16, h ∈ s.pau.queue ↔ (s.passage h).isSome

/-- A head whose run record shows PROCEED, or waits to, is decided PROCEED; a head that runs nothing waits for nothing. -/
def RunRec.proceedOk (r : RunRec) (decided : Aspect) : Bool :=
  (!(r.running = some .proceed || r.pending = some .proceed) || decided = .proceed) &&
    (r.running.isSome || r.pending.isNone)

/-- A channel head that shows PROCEED, or waits to, is decided PROCEED, and the two heads are never both decided PROCEED
(R165). -/
def State.proceedLaw (s : State) : Bool :=
  !(s.pau.decidedU = .proceed && s.pau.decidedD = .proceed) && s.pg.heads.chanU.proceedOk s.pau.decidedU &&
    s.pg.heads.chanD.proceedOk s.pau.decidedD

/-- The spec's bounds on the stores: sample histories (R2), window counts (R189), receive buffers (R207), miss counts
(R120). -/
def State.boundsLaw (s : State) : Bool :=
  s.iq.samples.length ≤ 3 && s.iq.anemometer ≤ 65535 && s.mfs.windows.length ≤ 3 && s.sp.operator.buffer.length ≤ 2 &&
    s.sp.traffic.buffer.length ≤ 2 && s.pg.lamps.toList.all fun r => r.litMiss ≤ 3 && r.darkMiss ≤ 3

/-- A port's transmitter holds the reply to an accepted RESTART. -/
def State.holdsRestart (s : State) (p : Port) : Bool :=
  match (s.sp.get p).tx with
  | .idle => false
  | .waiting r _ | .sending r _ _ => r.restarts

/-- The commands at which the spec lets the road leave SEALED whatever the span does: the resets, and what may end the reply
to a RESTART (R98, R218). -/
def mayReset (c : Instr) (s : State) : Bool :=
  match c with
  | .powerOnReset | .resetLine | .restartActs => true
  | .replyCompleted p | .replyAbandoned p | .characterReceived p _ => s.holdsRestart p
  | _ => false

end Sys2Proof.Machine
end

