-- ==== Sys2Proof/WellFormed.lean ====
section
/-! DEFINITION. Which commands can occur: the checks on operands that the types do not already make. -/

namespace Sys2Proof

/-- A complete frame carries at most 48 payload characters (R205): a longer length abandons the frame (R206). -/
def Frame.wf (f : Frame) : Bool := f.payload.length ≤ 48

/-- Only the warning gates have a settle timer (R96): the barriers have no zones (R95). -/
def Gate.isWarning : Gate → Bool
  | .w1 | .w2 | .w3 | .w4 => true
  | .b1 | .b2 => false

/-- The commands that can occur. -/
def Instr.wf : Instr → Bool
  | .frameComplete _ f => f.wf
  | .settleTimerExpiry g => g.isWarning
  | _ => true

end Sys2Proof
end

