-- ==== Sys2Proof/Certificates/Slice0/Obligations.lean ====
section
/-! DEFINITION. The statements for the provers. -/

open Sys2Proof Sys2Proof.Machine

/-! ### The queue, the resets -/

/-- The command at the front of the queue is the one that runs, on the queue's rest (the queue is the model's own: log 16). -/
def Obligations.StepRunsFrontCommand : Prop :=
  ∀ (c : Instr) (s : State) (rest : List Instr), s.pending = c :: rest → step s = exec c { s with pending := rest }

/-- R217, R214, R5, R13, R35, R83, R108, R125, R149, R175, R187, R202, R204: what a power-on reset leaves, and the reset line the
same, with the part held in reset; the rise of the line ends that and changes nothing else. Each power-on reset is a crossing of the
supply's threshold, below which the part is held too (the model's reading: log 31). While it is held no port takes a character, a
frame or a request (what is held back is the model's choice: log 20). -/
def Obligations.ResetsClearThePart : Prop :=
  (∀ (s : State) (c : Instr), c = .powerOnReset ∨ c = .resetLine →
    Gives (exec c s) fun t =>
      t.cs.state = .unconfigured ∧ t.cs.pendingSet = Settings.cleared ∧ t.cs.active = Settings.cleared ∧
      t.iq.samples = [] ∧ t.iq.qualified = none ∧ t.iq.sensed = none ∧ t.iq.anemometer = 0 ∧ t.iq.samplingTimer = none ∧
      t.iq.windowTimer = none ∧
      (∀ f, t.cmd f = false) ∧ (∀ l : Fin 48, t.om.energised l = false) ∧ t.om.displaced = [] ∧
      (∀ tw, (t.om.speed.get tw).staged = 0 ∧ (t.om.speed.get tw).live = 0) ∧
      t.mu.set = none ∧ t.mu.seq = 0 ∧ t.mu.scan = none ∧ (∀ ch ∈ t.mu.channels.toList, ch = Channel.empty) ∧
      t.smc.motion = .initial ∧ t.smc.stop = .none ∧ t.smc.target = none ∧ t.smc.out = 0 ∧
      (∀ tw, (t.tower tw).phase = .atRest ∧ (t.tower tw).reversal = none ∧ (t.tower tw).seated = false) ∧
      t.rcs.road = .recovery ∧ t.rcs.budget = 0 ∧ (∀ g, (t.gate g).cmd = .none ∧ (t.gate g).pos = .unknown) ∧
      (∀ h, (t.pg.heads.get h).running = none ∧ (t.pg.heads.get h).pending = none ∧ t.pg.impaired.get h = false) ∧
      (∀ i : Fin 16, (t.pau.slots[i]).gen = 0 ∧ (t.pau.slots[i]).record = none) ∧ t.pau.queue = [] ∧
      t.pau.opening = Opening.absent ∧
      (∀ i : Fin 12, (t.ht.slots[i]).gen = 0 ∧ (t.ht.slots[i]).record = none) ∧ t.ht.pointer = 4 ∧
      (∀ f, t.fault f = .clear) ∧ t.mfs.firstTrip = none ∧ t.mfs.windows = [] ∧ t.mfs.wind.state = .normal ∧
      t.mfs.supply.state = .normal ∧
      (∀ p, (t.sp.get p).rx = .hunting ∧ (t.sp.get p).buffer = [] ∧ (t.sp.get p).tx = .idle ∧ (t.sp.get p).overrun = false ∧
        (t.sp.get p).bitRate = 38400) ∧
      t.cs.resetLow = (s.cs.resetLow || decide (c = .resetLine)) ∧
      t.cs.supplyLow = (if c = .powerOnReset then !s.cs.supplyLow else s.cs.supplyLow) ∧ t.pending = s.pending) ∧
  ∀ s : State,
    exec .resetLineRises s = .next { s with cs := { s.cs with resetLow := false } } ∧
    (s.cs.resetLow = true ∨ s.cs.supplyLow = true →
      ∀ (p : Port) (c : RxChar) (f : Frame),
        exec (.characterReceived p c) s = .next s ∧ exec (.frameComplete p f) s = .next s ∧ s.takenCommand p = none)

/-! ### The station ports (chapter 11) -/

/-- R207: a complete frame becomes the newer entry of the buffer while that has room, and otherwise is lost with OVERRUN set;
a port that is sending assembles no frame (R206). -/
def Obligations.FrameCompleteIsBufferedOrLost : Prop :=
  ∀ (p : Port) (f : Frame) (s : State), s.cs.held = false →
    Gives (exec (.frameComplete p f) s) fun t =>
      t = { s with sp := t.sp } ∧ (∀ q, q ≠ p → t.sp.get q = s.sp.get q) ∧
      (match (s.sp.get p).tx with
       | .sending _ _ _ => t = s
       | _ =>
         if (s.sp.get p).buffer.length < 2 then
           t.sp.get p = { s.sp.get p with rx := .hunting, buffer := (s.sp.get p).buffer ++ [{ frame := f, age := 0 }] }
         else
           (t.sp.get p).buffer = (s.sp.get p).buffer ∧ (t.sp.get p).overrun = true ∧ (t.sp.get p).rx = .hunting)

/-- R207: a frame with any error, or with a reply kind, is removed when it is taken, and nothing else changes. -/
def Obligations.FaultyFrameIsDropped : Prop :=
  ∀ (p : Port) (s : State) (b : Buffered) (rest : List Buffered),
    s.cs.held = false → (s.sp.get p).tx = .idle → (s.sp.get p).buffer = b :: rest →
    b.frame.parityError = true ∨ b.frame.framingError = true ∨ b.frame.checkError = true ∨ 0x80 ≤ b.frame.kind.toNat →
    exec (.frameDropped p) s = .next { s with sp := s.sp.set p { s.sp.get p with buffer := rest } }

/-- R205, R206: the characters of a frame, received without error by a hunting port, are exactly one complete frame with that
kind, tag and payload and no error recorded. -/
def Obligations.CharactersMakeTheFrame : Prop :=
  ∀ (p : Port) (s : State) (kind tag : Byte) (payload : List Byte), payload.length ≤ 48 →
    s.cs.held = false → (s.sp.get p).tx = .idle → (s.sp.get p).rx = .hunting → (s.sp.get p).buffer.length < 2 →
    feed p ((frameChars kind tag payload).map fun d => { data := d, parityError := false, framingError := false }) s =
      .next
        { s with
          sp := s.sp.set p
            { s.sp.get p with
              buffer := (s.sp.get p).buffer ++
                [{ frame := { kind := kind, tag := tag, payload := payload, parityError := false, framingError := false,
                              checkError := false },
                   age := 0 }] } }

/-- R206: while hunting a port discards every character but 0xC5, which starts a frame; a length above 48 abandons the frame,
and so does a gap. -/
def Obligations.ReceiverHuntsAndAbandons : Prop :=
  ∀ (p : Port) (s : State), s.cs.held = false → (s.sp.get p).tx = .idle →
    (∀ c : RxChar, (s.sp.get p).rx = .hunting → c.data ≠ 0xC5 → exec (.characterReceived p c) s = .next s) ∧
    (∀ c : RxChar, (s.sp.get p).rx = .hunting → c.data = 0xC5 →
      Gives (exec (.characterReceived p c) s) fun t =>
        t = { s with sp := t.sp } ∧ ∃ g, (t.sp.get p).rx = .inFrame [] c.parityError c.framingError g) ∧
    (∀ (c : RxChar) (k t : Byte) (e e' : Bool) (g : Ticks), (s.sp.get p).rx = .inFrame [k, t] e e' g → 48 < c.data.toNat →
      exec (.characterReceived p c) s = .next { s with sp := s.sp.set p { s.sp.get p with rx := .hunting } }) ∧
    (∀ (l : List Byte) (e e' : Bool) (g : Ticks), (s.sp.get p).rx = .inFrame l e e' g →
      exec (.frameAbandoned p) s = .next { s with sp := s.sp.set p { s.sp.get p with rx := .hunting } })

/-- R211, R204: at the rise of the driver enable the reply is sent: one character time and then its characters, each of 11 bits.
That a frame in reception is dropped at this rise is the model's choice (log 23). Completed, the reply leaves the transmitter idle
and clears OVERRUN where it carried that flag. The end of a commit's reply makes the active bit rate due at both ports; a port takes
the rate that is due to it while its transmitter is idle, and keeps it due while it is not. Nothing outside the ports changes. The
reply to a RESTART is `RestartAcceptedThenActs`'s. -/
def Obligations.ReplyIsSentAndCompleted : Prop :=
  ∀ (p : Port) (s : State) (r : Reply),
    (∀ w : Ticks, (s.sp.get p).tx = .waiting r w →
      exec (.driverEnableRises p) s =
        .next
          { s with
            sp := s.sp.set p
              { s.sp.get p with
                rx := .hunting,
                tx := .sending r 0 ((1 + (6 + r.payload.length)) * (11 * 2880000 / (s.sp.get p).bitRate)) } }) ∧
    (∀ (k : Nat) (w : Ticks), (s.sp.get p).tx = .sending r k w → r.restarts = false →
      Gives (exec (.replyCompleted p) s) fun t =>
        t = { s with sp := t.sp } ∧ (t.sp.get p).tx = .idle ∧ (t.sp.get p).buffer = (s.sp.get p).buffer ∧
        (t.sp.get p).overrun = ((s.sp.get p).overrun && !r.clearsOverrun) ∧
        (∀ q, q ≠ p → (t.sp.get q).tx = (s.sp.get q).tx ∧ (t.sp.get q).buffer = (s.sp.get q).buffer ∧
          (t.sp.get q).overrun = (s.sp.get q).overrun) ∧
        ∀ q,
          let due := if r.commits then some s.act.bitRate else (s.sp.get q).rateDue
          if (t.sp.get q).tx = .idle then
            (t.sp.get q).bitRate = due.getD (s.sp.get q).bitRate ∧ (t.sp.get q).rateDue = none
          else (t.sp.get q).bitRate = (s.sp.get q).bitRate ∧ (t.sp.get q).rateDue = due)

/-- R212, R204: an abandoned reply leaves the transmitter idle with OVERRUN as it stood and the request's effects in place; a
mismatch of the character read back, in a data bit, its parity or its stop bit, abandons it, and before the driver has risen a 0xC5
does, which starts a frame. The end of a commit's reply makes the active bit rate due at both ports; a port takes the rate that is
due to it while its transmitter is idle, a change of it abandoning a frame in reception, and keeps it due while it is not. That a
changed rate abandons the frame just started is the model's choice of order (log 14), as is the start of a frame by a 0xC5 inside
another (log 33). -/
def Obligations.AbandonedReplyKeepsOverrun : Prop :=
  let ends (p : Port) (r : Reply) (s t : State) : Prop :=
    t = { s with sp := t.sp } ∧ (t.sp.get p).tx = .idle ∧ (t.sp.get p).overrun = (s.sp.get p).overrun ∧
    (t.sp.get p).buffer = (s.sp.get p).buffer ∧
    (∀ q, q ≠ p → (t.sp.get q).tx = (s.sp.get q).tx ∧ (t.sp.get q).buffer = (s.sp.get q).buffer ∧
      (t.sp.get q).overrun = (s.sp.get q).overrun ∧
      (t.sp.get q).rx = if (t.sp.get q).bitRate = (s.sp.get q).bitRate then (s.sp.get q).rx else .hunting) ∧
    ∀ q,
      let due := if r.commits then some s.act.bitRate else (s.sp.get q).rateDue
      if (t.sp.get q).tx = .idle then
        (t.sp.get q).bitRate = due.getD (s.sp.get q).bitRate ∧ (t.sp.get q).rateDue = none
      else (t.sp.get q).bitRate = (s.sp.get q).bitRate ∧ (t.sp.get q).rateDue = due
  ∀ (p : Port) (s : State) (r : Reply), r.restarts = false → s.cs.held = false →
    (∀ (k : Nat) (w : Ticks) (c : RxChar), (s.sp.get p).tx = .sending r k w →
      (∃ x, (frameChars r.kind r.tag r.payload)[k]? = some x ∧
        (c.data ≠ x ∨ c.parityError = true ∨ c.framingError = true)) →
      (Gives (exec (.replyAbandoned p) s) fun t => ends p r s t ∧ (t.sp.get p).rx = .hunting) ∧
      exec (.characterReceived p c) s = exec (.replyAbandoned p) s) ∧
    (∀ (w : Ticks) (c : RxChar), (s.sp.get p).tx = .waiting r w → c.data = 0xC5 →
      Gives (exec (.characterReceived p c) s) fun t =>
        ends p r s t ∧
        ∃ g, (t.sp.get p).rx =
          if (t.sp.get p).bitRate = (s.sp.get p).bitRate then .inFrame [] c.parityError c.framingError g else .hunting)

/-! ### Screening (R208) -/

/-- R208, R209: a request of a kind that the table does not list is answered UNKNOWN_REQUEST (2), and one of a length that its kind
does not have BAD_ARGUMENT (3); nothing else changes. That a wrong length of ATTEND, RAISE SPAN or LOWER SPAN on port 0 does not
refresh the attendance timer either is the model's reading of R70 (log 19). -/
def Obligations.ScreeningByKindAndLength : Prop :=
  ∀ (p : Port) (s : State) (b : Buffered) (rest : List Buffered), s.offers p b rest = true → b.frame.kind.toNat < 0x80 →
    ((∀ y ∈ requests p, y.1 ≠ b.frame.kind.toNat) →
      exec (.unknownRequest p) s = .next (s.answered p b rest 2 [])) ∧
    (∀ x ∈ requests p, x.1 = b.frame.kind.toNat → x.2.2 ≠ .loadSettingItemAlone p →
      (∀ y ∈ requests p, y.1 = b.frame.kind.toNat → y.2.1 ≠ b.frame.payload.length) →
      exec x.2.2 s = .next (s.answered p b rest 3 []))

/-- R208, R209: a request of OPERATOR's alone is refused from TRAFFIC with AUTHORITY (1), and so are CLOSE ROAD, REOPEN ROAD,
RAISE SPAN, LOWER SPAN and ATTEND while the key of a CONFIGURED part is in LOCAL. Before the first commit every request but the
reads, LOAD SETTING and COMMIT SETTINGS is refused with UNCONFIGURED (10), from a station that may send it. Nothing else changes. -/
def Obligations.ScreeningByAuthorityAndConfiguration : Prop :=
  ∀ (p : Port) (s : State) (b : Buffered) (rest : List Buffered), s.offers p b rest = true →
    ∀ x ∈ requests p, x.1 = b.frame.kind.toNat → x.2.1 = b.frame.payload.length →
      ((p = .traffic ∧ x.1 ∈ operatorKinds) ∨ (s.configured = true ∧ s.line 36 = true ∧ x.1 ∈ remoteKinds) →
        exec x.2.2 s = .next (s.answered p b rest 1 [])) ∧
      (s.configured = false → x.1 ∈ configuredKinds → (p = .operator ∨ x.1 ∉ operatorKinds) →
        exec x.2.2 s = .next (s.answered p b rest 10 []))

/-! ### Reads -/

/-- R201, R219: READ FAULTS answers OK with the 37 values in number order, the first trip fault (255 for none) and the number of
faults that are not CLEAR. R34, R219: READ MEASUREMENTS answers OK with 44 characters, all 0 before the first set, and else with the
latest set whole: its flags and sequence number; for each channel its state, whether it holds a value and a raw code, and whether it
is enabled, which only channel 2 can fail to be (R26); the held values and the raw codes, 0 where there is none; hA, hB and hs with
10000 added, the skew and both clearances, all 0 while the heights are unavailable, and w. Neither changes anything. -/
def Obligations.ReadFaultsAndMeasurements : Prop :=
  let shows (m : MeasSet) (f : Heights → Int) (l : List Byte) : Prop :=
    (m.heights = none → beNat (l.take 2) = 0) ∧
      ∀ h, m.heights = some h → -10000 ≤ f h → f h < 55536 → (beNat (l.take 2) : Int) = f h + 10000
  ∀ (p : Port) (s : State) (b : Buffered) (rest : List Buffered), s.offers p b rest = true →
    (b.asks 0x03 [] = true →
      exec (.readFaults p) s =
        .next (s.answered p b rest 0
          ((List.finRange 37).map (fun f => match s.fault f with | .clear => 0 | .active => 1 | .latched => 2) ++
            [(match s.mfs.firstTrip with | none => 255 | some f => BitVec.ofNat 8 f.val),
             BitVec.ofNat 8 ((List.finRange 37).filter fun f => s.fault f ≠ .clear).length]))) ∧
    (b.asks 0x02 [] = true →
      ∃ body : List Byte, exec (.readMeasurements p) s = .next (s.answered p b rest 0 body) ∧ body.length = 44 ∧
        match s.mu.set with
        | none => ∀ c ∈ body, c = 0
        | some m =>
          let channels := [m.channels.c0, m.channels.c1, m.channels.c2, m.channels.c3, m.channels.c4]
          let bit (b : Bool) (n : Nat) : Nat := if b then n else 0
          let of (f : Heights → Int) : Int := match m.heights with | none => 0 | some h => f h
          body.take 28 =
            [BitVec.ofNat 8 (1 + bit m.heights.isSome 2 + bit (!m.measured) 4)] ++ beBytes 2 m.seq ++
              (channels.zip [true, true, m.waterEnabled, true, true]).map (fun x =>
                BitVec.ofNat 8
                  ((match x.1.state with | .invalid => 0 | .priming => 1 | .valid => 2 | .faulted => 3) * 8 +
                    bit x.1.held.isSome 4 + bit x.1.raw.isSome 2 + bit x.2 1)) ++
              channels.flatMap (fun x => beBytes 2 (x.held.getD 0)) ++ channels.flatMap (fun x => beBytes 2 (x.raw.getD 0)) ∧
          shows m (·.hA) (body.drop 28) ∧ shows m (·.hB) (body.drop 30) ∧ shows m (·.hs) (body.drop 32) ∧
          (beNat ((body.drop 34).take 3) : Int) = of (·.skew) % 2 ^ 24 ∧
          (beNat ((body.drop 37).take 2) : Int) = m.water % 2 ^ 16 ∧
          (beNat ((body.drop 39).take 3) : Int) = of (·.clearanceMm) % 2 ^ 24 ∧
          (0 ≤ of (·.clearanceCm) → of (·.clearanceCm) < 65536 → (beNat ((body.drop 42).take 2) : Int) = of (·.clearanceCm)))

/-- R186, R210: READ HOLDS answers OK with the number of live records and up to six of them whole, in slot order from the
first slot, which is 0 when omitted; one above 11 is refused. R148: LIST PASSAGES answers OK with the number of handles in the
filing queue and the handles in its order. Neither changes anything. -/
def Obligations.ReadHoldsAndListPassages : Prop :=
  ∀ (p : Port) (s : State) (b : Buffered) (rest : List Buffered), s.offers p b rest = true →
    (∀ first : Byte, b.asks 0x04 [first] = true ∨ (first = 0 ∧ b.asks 0x04 [] = true) →
      exec (.readHolds p) s =
        .next (if 11 < first.toNat then s.answered p b rest 3 []
          else s.answered p b rest 0
            (BitVec.ofNat 8 ((List.finRange 12).filter fun i => (s.ht.slots[i]).record.isSome).length ::
              (((List.finRange 12).filterMap fun i =>
                if first.toNat ≤ i.val then (s.ht.slots[i]).record.map fun r =>
                  [BitVec.ofNat 8 i.val, BitVec.ofNat 8 (s.ht.slots[i]).gen, BitVec.ofNat 8 r.owner.ctorIdx,
                   BitVec.ofNat 8 r.kind.ctorIdx, BitVec.ofNat 8 r.reason, BitVec.ofNat 8 (r.age / 256),
                   BitVec.ofNat 8 r.age]
                else none).take 6).flatten))) ∧
    (b.asks 0x07 [] = true →
      exec (.listPassages p) s =
        .next (s.answered p b rest 0
          (BitVec.ofNat 8 s.pau.queue.length ::
            s.pau.queue.flatMap fun h => [BitVec.ofNat 8 h.slot.val, BitVec.ofNat 8 h.gen])))

/-- R147, R219: READ PASSAGE and FIND PASSAGE answer OK with the record whole, its 25 characters as R219 lays them out, and are
refused with BAD_ARGUMENT (3) for a slot above 15 or a tag of 0, with UNKNOWN_HANDLE (4) for a stale handle and with UNKNOWN_TAG (5)
for a tag that no live record carries. Neither changes anything. -/
def Obligations.ReadAndFindPassage : Prop :=
  let record (h : Handle 16) (r : Passage) : List Byte :=
    let bit (b : Bool) (n : Nat) : Nat := if b then n else 0
    [BitVec.ofNat 8 h.slot.val, BitVec.ofNat 8 h.gen] ++ beBytes 4 r.tag ++
      ([match r.filer with | .operator => 0 | .traffic => 1, match r.dir with | .up => 0 | .down => 1,
        match r.cls with | .emergency => 0 | .commercial => 1 | .routine => 2] : List Byte) ++
      beBytes 2 r.airDraft ++ beBytes 2 r.wait ++
      [BitVec.ofNat 8 (bit r.margin.isSome 1 + bit r.expiry.isSome 2 + bit r.lift.isSome 4 + bit r.linger.isSome 8)] ++
      beBytes 2 (r.margin.getD 0) ++ beBytes 2 (r.expiry.getD 0) ++
      [match r.state with | .filed => 0 | .grouped => 1 | .admitted => 2 | .transiting => 3 | .lapsed => 4,
       BitVec.ofNat 8 (bit r.deferred 1 + bit r.unreachable 2)] ++
      beBytes 3 (r.lift.getD 0) ++ beBytes 2 (r.linger.getD 0)
  ∀ (p : Port) (s : State) (b : Buffered) (rest : List Buffered), s.offers p b rest = true →
    (∀ slot gen : Byte, b.asks 0x05 [slot, gen] = true →
      (15 < slot.toNat → exec (.readPassage p) s = .next (s.answered p b rest 3 [])) ∧
      (∀ i : Fin 16, slot.toNat = i.val →
        (s.passage { slot := i, gen := gen.toNat } = none → exec (.readPassage p) s = .next (s.answered p b rest 4 [])) ∧
        ∀ r, s.passage { slot := i, gen := gen.toNat } = some r →
          exec (.readPassage p) s = .next (s.answered p b rest 0 (record { slot := i, gen := gen.toNat } r)))) ∧
    (∀ tag : Nat, tag < 2 ^ 32 → b.asks 0x06 (beBytes 4 tag) = true →
      (tag = 0 → exec (.findPassage p) s = .next (s.answered p b rest 3 [])) ∧
      (tag ≠ 0 → (∀ i : Fin 16, (s.pau.slots[i]).record.all (fun r => r.tag ≠ tag) = true) →
        exec (.findPassage p) s = .next (s.answered p b rest 5 [])) ∧
      (tag ≠ 0 → (∃ i : Fin 16, (s.pau.slots[i]).record.any (fun r => r.tag = tag) = true) →
        ∃ h r, s.passage h = some r ∧ r.tag = tag ∧
          exec (.findPassage p) s = .next (s.answered p b rest 0 (record h r))))

/-- R210, R195, R219: READ STATUS with a page of 0 to 5 answers OK with the common header and then the page asked for: span, road,
heads, lamps, channel, or lines and tables; and the four flags of the asking station are cleared once the reply is formed, in which
they still stand. A page above 5 is refused with BAD_ARGUMENT (3). Nothing else changes. The characters of each page are those of
R219's table; that page 1 shows the raising phase in every road state, that the lowest lamp-sense line stands in the least
significant bit of page 3, and the code of the active direction in page 4 (0 for NONE, 1 for UP, 2 for DOWN) are the model's (log
13). -/
def Obligations.ReadStatusAnswersAndClearsFlags : Prop :=
  ∀ (p : Port) (s : State) (b : Buffered) (rest : List Buffered) (page : Byte), s.offers p b rest = true →
    b.asks 0x01 [page] = true →
    (5 < page.toNat → exec (.readStatus p) s = .next (s.answered p b rest 3 [])) ∧
    (page.toNat ≤ 5 →
      exec (.readStatus p) s =
        .next
          (({ s with mfs := { s.mfs with flags := s.mfs.flags.set p .clear } } : State).answered p b rest 0
            ([page, BitVec.ofNat 8 s.cs.state.ctorIdx, BitVec.ofNat 8 s.smc.motion.ctorIdx,
              BitVec.ofNat 8 s.rcs.road.ctorIdx, BitVec.ofNat 8 s.pau.opening.state.ctorIdx,
              BitVec.ofNat 8
                ((if (s.mfs.flags.get p).windRise then 1 else 0) + (if (s.mfs.flags.get p).windFall then 2 else 0) +
                  (if (s.mfs.flags.get p).supplyRise then 4 else 0) + (if (s.mfs.flags.get p).supplyFall then 8 else 0) +
                  (if s.cmd 39 then 16 else 0) + (if s.line 36 then 32 else 0))] ++
              (match page.toNat with
               | 0 => s.page0
               | 1 => s.page1
               | 2 => s.page2
               | 3 => s.page3
               | 4 => s.page4
               | _ => s.page5)))) ∧
    (s.page0 =
      [BitVec.ofNat 8 s.smc.stop.ctorIdx] ++ beBytes 2 (s.smc.target.getD 65535) ++
        ([Tower.a, .b].flatMap fun w =>
          [BitVec.ofNat 8 (s.tower w).phase.ctorIdx,
           BitVec.ofNat 8 (flagChar [s.cmd (towerFn w 0), s.cmd (towerFn w 1), s.cmd (towerFn w 2)])] ++
            beBytes 2 (s.om.speed.get w).staged ++ beBytes 2 (s.om.speed.get w).live ++
            [BitVec.ofNat 8 (((s.tower w).reversal.map (·.blocked.ctorIdx)).getD 255)]) ++
        [BitVec.ofNat 8 (flagChar [s.cmd 8, s.cmd 9, s.cmd 10, s.cmd 11]),
         BitVec.ofNat 8 (flagChar [s.smc.skewWarning, s.smc.motion.moving && s.smc.stop = .none, s.line 36]),
         BitVec.ofNat 8 s.mfs.wind.state.ctorIdx, BitVec.ofNat 8 s.mfs.supply.state.ctorIdx] ++
        beBytes 2 (s.mfs.windSpeed.getD 65535) ++ beBytes 2 (s.mfs.supplyValue.getD 65535) ++
        [BitVec.ofNat 8 (flagChar [s.hasHold .noRaise, s.hasHold .noLower, s.hasHold .noMotion, s.hasHold .keepClosed,
          s.hasHold .marineStop])]) ∧
    (s.page1 =
      [BitVec.ofNat 8 s.rcs.phase.ctorIdx,
       BitVec.ofNat 8 (flagChar [s.rcs.causeGate || s.rcs.causeLoop || s.rcs.causeSupply, s.rcs.causeGate, s.rcs.causeLoop,
         s.rcs.causeSupply, s.rcs.holding, s.rcs.waitingHeads])] ++
        ([Gate.w1, .w2, .w3, .w4, .b1, .b2].map fun g =>
          BitVec.ofNat 8
            ((s.gate g).cmd.ctorIdx * 16 + (s.gate g).pos.ctorIdx * 4 + (if (s.gate g).obstructed then 1 else 0))) ++
        beBytes 2 s.rcs.budget) ∧
    (let aspects (h : Head) : List Aspect :=
      match h with
      | .warnN | .warnS => [.dark, .flash]
      | .trafN | .trafS => [.green, .amber, .red]
      | .chanU | .chanD => [.stop, .standby, .proceed]
      | .horn => [.silent, .admitHorn, .danger]
     let code (h : Head) (a : Option Aspect) : Byte := BitVec.ofNat 8 ((a.map (aspects h).idxOf).getD 255)
     s.page2 =
      ([Head.warnN, .warnS, .trafN, .trafS, .chanU, .chanD, .horn].flatMap fun h =>
        let r := s.pg.heads.get h
        [code h r.running, code h r.pending, BitVec.ofNat 8 r.index,
         BitVec.ofNat 8 (r.pass * 2 + (if s.pg.impaired.get h then 1 else 0))]) ∧
     s.page4 =
      beBytes 2 (s.pau.opening.target.getD 65535) ++
        [match s.pau.opening.active with | none => 0 | some .up => 1 | some .down => 2,
         BitVec.ofNat 8 ((aspects .chanU).idxOf s.pau.decidedU * 4 + (aspects .chanD).idxOf s.pau.decidedD),
         BitVec.ofNat 8 s.pau.opening.members.length] ++
        s.pau.opening.members.flatMap fun h =>
          let place (q : List (Handle 16)) : Option Nat := (q.findIdx? (· = h)).map (· + 1)
          [BitVec.ofNat 8 h.slot.val, BitVec.ofNat 8 h.gen,
           BitVec.ofNat 8 (((place s.pau.opening.queueUp).orElse fun _ => place s.pau.opening.queueDown).getD 0)]) ∧
    (s.page3 =
      ((List.finRange 15).map fun i =>
        BitVec.ofNat 8
          ((if s.cmd ⟨24 + i.val, by omega⟩ then 16 else 0) + (s.pg.lamps[i]).litMiss * 4 + (s.pg.lamps[i]).darkMiss)) ++
        beBytes 2 ((s.iq.sensed.map (·.toNat)).getD 0)) ∧
    (∀ l : Fin 48, (beNat (s.page5.take 6)).testBit l = (s.line l && l ≠ 35)) ∧
    (let inState (st : PassState) : Byte :=
      BitVec.ofNat 8 ((List.finRange 16).filter fun i => (s.pau.slots[i]).record.any fun r => r.state = st).length
     s.page5.drop 6 =
      [BitVec.ofNat 8 ((List.finRange 16).filter fun i => (s.pau.slots[i]).record.isSome).length, inState .filed,
       inState .grouped, inState .admitted, inState .transiting, inState .lapsed,
       BitVec.ofNat 8 ((List.finRange 12).filter fun i => (s.ht.slots[i]).record.isSome).length]) ∧
    s.page0.length = 26 ∧ s.page1.length = 10 ∧ s.page2.length = 28 ∧ s.page3.length = 17 ∧
    s.page4.length = 5 + 3 * s.pau.opening.members.length ∧ s.page5.length = 13

/-! ### Passages (chapter 7) -/

/-- R133, R134, R209: FILE PASSAGE makes a FILED record with the request's fields in the lowest empty slot, its handle at the tail
of the filing queue and in the reply; it is refused, in this order, with BAD_ARGUMENT (3) for a field out of its range of R128 or a
presence flag that R219 does not name, an absent field being ignored, DUPLICATE_TAG (7), TABLE_FULL (6) and UNREACHABLE (8), and
then changes nothing. A wait of 0 brings the join test at once (R155, R156). -/
def Obligations.FilePassageFilesOrRefuses : Prop :=
  ∀ (p : Port) (s : State) (b : Buffered) (rest : List Buffered), s.offers p b rest = true → s.configured = true →
    (b.frame.kind = 0x10 → b.frame.payload.length = 15 → fileFields b.frame.payload = none →
      exec (.filePassage p) s = .next (s.answered p b rest 3 [])) ∧
    (∀ (dir cls flags : Byte) (tag draft wait margin expiry : Nat), tag < 2 ^ 32 → draft < 65536 → wait < 65536 → margin < 65536 →
      expiry < 65536 →
      b.asks 0x10 (beBytes 4 tag ++ [dir, cls] ++ beBytes 2 draft ++ beBytes 2 wait ++ [flags] ++ beBytes 2 margin ++
        beBytes 2 expiry) = true →
      tag = 0 ∨ 1 < dir.toNat ∨ 2 < cls.toNat ∨ draft < 100 ∨ 9000 < draft ∨ 3 < flags.toNat ∨
        (flags.getLsbD 0 = true ∧ 500 < margin) ∨ (flags.getLsbD 1 = true ∧ expiry = 0) →
      exec (.filePassage p) s = .next (s.answered p b rest 3 [])) ∧
    ∀ (x : FileFields) (spare spare' : Nat), x.inRange = true → b.asks 0x10 (x.payload spare spare') = true →
      (if ∃ i : Fin 16, (s.pau.slots[i]).record.any (fun r => r.tag = x.tag) = true then
        exec (.filePassage p) s = .next (s.answered p b rest 7 [])
      else if ∀ i : Fin 16, (s.pau.slots[i]).record.isSome = true then
        exec (.filePassage p) s = .next (s.answered p b rest 6 [])
      else if s.act.hfull < (s.liftOf (needOf s.act x.airDraft x.margin) : Int) then
        exec (.filePassage p) s = .next (s.answered p b rest 8 [])
      else
        ∀ i : Fin 16, (s.pau.slots[i]).record = none → (∀ j : Fin 16, j < i → (s.pau.slots[j]).record.isSome = true) →
          let r : Passage :=
            { tag := x.tag, filer := p, dir := x.dir, cls := x.cls, airDraft := x.airDraft, margin := x.margin,
              wait := x.wait, expiry := x.expiry, state := .filed, deferred := false, unreachable := false, lift := none,
              linger := none }
          let filed : State :=
            { s with
              pau :=
                { s.pau with
                  slots := s.pau.slots.set i { gen := (s.pau.slots[i]).gen, record := some r }
                  queue := s.pau.queue ++ [{ slot := i, gen := (s.pau.slots[i]).gen }] } }
          let handle : List Byte := [BitVec.ofNat 8 i.val, BitVec.ofNat 8 (s.pau.slots[i]).gen]
          (x.wait ≠ 0 ∨ s.pau.opening.state.isOpen = false →
            exec (.filePassage p) s = .next (filed.answered p b rest 0 handle)) ∧
          (x.wait = 0 → ∃ t, JoinTested filed t i r ∧ exec (.filePassage p) s = .next (t.answered p b rest 0 handle)))

/-- R141, R142, R209: AMEND PASSAGE writes the fields it gives into a FILED or LAPSED record that the station may handle, which is
then FILED with the unreachable flag clear and no linger; a LAPSED record keeps no expiry that the amendment does not give. A wait
of 0 then brings the join test at once (R155, R156). It is refused, in this order, with BAD_ARGUMENT for a slot above 15, a new
value out of its range or an action that the field does not have, UNKNOWN_HANDLE, AUTHORITY, NOT_NOW and UNREACHABLE, and then
changes nothing; a field that its action leaves unused is ignored. That the unreachable flag of a LAPSED record is cleared too is
the model's choice between R142 and R146's last sentence (log 39). -/
def Obligations.AmendPassageAmendsOrRefuses : Prop :=
  ∀ (p : Port) (s : State) (b : Buffered) (rest : List Buffered), s.offers p b rest = true → s.configured = true →
    (b.frame.kind = 0x11 → b.frame.payload.length = 16 → amendFields b.frame.payload = none →
      exec (.amendPassage p) s = .next (s.answered p b rest 3 [])) ∧
    (∀ (slot gen cls : Byte) (acts : Fin 5 → Byte) (draft margin wait expiry : Nat), draft < 65536 → margin < 65536 →
      wait < 65536 → expiry < 65536 →
      b.asks 0x11 ([slot, gen, acts 0, acts 1, acts 2, acts 3, acts 4, cls] ++ beBytes 2 draft ++ beBytes 2 margin ++
        beBytes 2 wait ++ beBytes 2 expiry) = true →
      15 < slot.toNat ∨ (∃ k, 2 < (acts k).toNat) ∨ acts 0 = 2 ∨ acts 1 = 2 ∨ acts 3 = 2 ∨ (acts 0 = 1 ∧ 2 < cls.toNat) ∨
        (acts 1 = 1 ∧ (draft < 100 ∨ 9000 < draft)) ∨ (acts 2 = 1 ∧ 500 < margin) ∨ (acts 4 = 1 ∧ expiry = 0) →
      exec (.amendPassage p) s = .next (s.answered p b rest 3 [])) ∧
    ∀ (a : AmendFields) (cls draft margin wait expiry : Nat), a.inRange = true →
      b.asks 0x11 (a.payload cls draft margin wait expiry) = true →
      (s.passage a.handle = none → exec (.amendPassage p) s = .next (s.answered p b rest 4 [])) ∧
      ∀ r : Passage, s.passage a.handle = some r →
        let need := needOf s.act (match a.airDraft with | .set x => x | _ => r.airDraft)
          (match a.margin with | .set x => some x | .keep => r.margin | .makeAbsent => none)
        if p = .traffic ∧ r.filer = .operator then exec (.amendPassage p) s = .next (s.answered p b rest 1 [])
        else if r.state ≠ .filed ∧ r.state ≠ .lapsed then exec (.amendPassage p) s = .next (s.answered p b rest 9 [])
        else if s.act.hfull < (s.liftOf need : Int) then exec (.amendPassage p) s = .next (s.answered p b rest 8 [])
        else
          let amended : Passage :=
            { r with
              cls := (match a.cls with | .set x => x | _ => r.cls)
              airDraft := (match a.airDraft with | .set x => x | _ => r.airDraft)
              margin := (match a.margin with | .set x => some x | .keep => r.margin | .makeAbsent => none)
              wait := (match a.wait with | .set x => x | _ => r.wait)
              expiry :=
                (match a.expiry with
                 | .set x => some x
                 | .keep => if r.state = .lapsed then none else r.expiry
                 | .makeAbsent => none)
              state := .filed, unreachable := false, linger := none }
          let done : State :=
            { s with
              pau := { s.pau with
                       slots := s.pau.slots.set a.handle.slot { gen := a.handle.gen, record := some amended } } }
          (amended.wait ≠ 0 ∨ s.pau.opening.state.isOpen = false →
            exec (.amendPassage p) s = .next (done.answered p b rest 0 [])) ∧
          (amended.wait = 0 →
            ∃ t, JoinTested done t a.handle.slot amended ∧ exec (.amendPassage p) s = .next (t.answered p b rest 0 []))

/-- R144, R145, R129, R209: WITHDRAW PASSAGE retires the record: its slot is empty under the next generation and its handle leaves
the filing queue, whose other entries keep their order, and the opening; no other slot changes, but by what a member's departure
brings. R172, R161, R171, R170: a member's departure gives back the channel of a queue left empty and, while ADMITTING, makes an
admission test; ADMITTING without a member, and a budget of 0 with no member ADMITTED or TRANSITING, close the channel; both channel
heads are decided as R165 gives (at the end of the event: log 9). The withdrawal of a record that is no member changes nothing more.
It is refused, in this order, with BAD_ARGUMENT, UNKNOWN_HANDLE, AUTHORITY, and NOT_NOW for a TRANSITING record, and then changes
nothing. -/
def Obligations.WithdrawPassageRetiresOrRefuses : Prop :=
  ∀ (p : Port) (s : State) (b : Buffered) (rest : List Buffered) (slot gen : Byte), s.offers p b rest = true →
    s.configured = true → b.asks 0x12 [slot, gen] = true →
    (15 < slot.toNat → exec (.withdrawPassage p) s = .next (s.answered p b rest 3 [])) ∧
    ∀ i : Fin 16, slot.toNat = i.val →
      (s.passage { slot := i, gen := gen.toNat } = none → exec (.withdrawPassage p) s = .next (s.answered p b rest 4 [])) ∧
      ∀ r : Passage, s.passage { slot := i, gen := gen.toNat } = some r →
        if p = .traffic ∧ r.filer = .operator then exec (.withdrawPassage p) s = .next (s.answered p b rest 1 [])
        else if r.state = .transiting then exec (.withdrawPassage p) s = .next (s.answered p b rest 9 [])
        else
          Gives (exec (.withdrawPassage p) s) fun t =>
            t = { s with om := t.om, pg := t.pg, pau := t.pau, mfs := t.mfs, sp := (s.answered p b rest 0 []).sp } ∧
            t.pau.slots[i] = { gen := (gen.toNat + 1) % 256, record := none } ∧
            t.pau.queue = s.pau.queue.filter (· ≠ { slot := i, gen := gen.toNat }) ∧
            { slot := i, gen := gen.toNat } ∉ t.pau.opening.members ∧ t.pau.intrusion = s.pau.intrusion ∧
            let gone := s.withRetired { slot := i, gen := gen.toNat }
            if { slot := i, gen := gen.toNat } ∈ s.pau.opening.members then Departed gone t
            else t = { gone with sp := (s.answered p b rest 0 []).sp }

/-! ### The opening (chapter 8) -/

/-- R153: BEGIN OPENING is accepted with the opening NONE and budget left. It marks every FILED record that is not reachable, takes
up to eight eligible records (FILED, wait 0, reachable, head not impaired) by class rank and then filing order, makes them GROUPED
with their required lift, and sets the target to the greatest lift, at most Hfull; the reply carries the number of members and the
target. Otherwise it is refused with NOT_NOW (9) and nothing changes. Outside HOLDING the opening is then GATHERED; in HOLDING it is
ADMITTING at once and makes an admission test, or closes where it has no member (R157, R160, R161, R171). SMC changes only where it
lowers or seats, by the quick stop that an opening brings (R74). Both channel heads are then decided as R165 gives (at the end of
the event: log 9). -/
def Obligations.BeginOpeningFormsTheOpening : Prop :=
  ∀ (s : State) (b : Buffered) (rest : List Buffered), s.offers .operator b rest = true → s.configured = true →
    b.asks 0x18 [] = true →
    (s.pau.opening.state ≠ .none ∨ s.rcs.budget = 0 →
      exec (.beginOpening .operator) s = .next (s.answered .operator b rest 9 [])) ∧
    (s.pau.opening.state = .none → 0 < s.rcs.budget → s.queueLaw →
      let ok (h : Handle 16) (rank : Machine.Class) : Bool :=
        (s.passage h).any fun r => r.cls = rank && r.state = .filed && r.wait = 0 && s.reachable (r.need s.act) &&
          !s.pg.impaired.get (match r.dir with | .up => .chanD | .down => .chanU)
      let chosen := ((s.pau.queue.filter (ok · .emergency)) ++ (s.pau.queue.filter (ok · .commercial)) ++
        (s.pau.queue.filter (ok · .routine))).take 8
      let formed (u : State) : Prop :=
        u.pau.opening.members = chosen ∧ u.pau.opening.active = none ∧ u.pau.opening.queueUp = [] ∧
        u.pau.opening.queueDown = [] ∧ u.pau.queue = s.pau.queue ∧
        (∀ h ∈ chosen, ∃ r, s.passage h = some r ∧
          u.passage h = some { r with state := .grouped, lift := some (s.liftOf (r.need s.act)), deferred := false,
                                      unreachable := false }) ∧
        (∀ h, h ∉ chosen → ∀ r, s.passage h = some r →
          u.passage h =
            some (if r.state = .filed ∧ s.reachable (r.need s.act) = false then { r with unreachable := true } else r))
      Gives (exec (.beginOpening .operator) s) fun t =>
        t = { s with om := t.om, smc := t.smc, pg := t.pg, pau := t.pau, mfs := t.mfs, sp := t.sp } ∧
        (s.smc.motion ≠ .holding → t.pau.opening.state = .gathered ∧ formed t) ∧
        (s.smc.motion = .holding →
          if chosen = [] then t.pau.opening.state = if s.line 33 = true ∧ s.line 34 = true then .none else .closingChannel
          else
            t.pau.opening.state = .admitting ∧
            ∃ u : State, u = { s with pau := u.pau } ∧ u.pau.opening.state = .admitting ∧ formed u ∧ AdmissionTested u t) ∧
        QuickStopsFor s t ∧
        (¬((s.smc.motion = .lowering ∨ s.smc.motion = .seating) ∧ s.smc.stop ≠ .quick) → t.smc = s.smc) ∧ t.aspectsDecided ∧
        ∃ target : Nat, (chosen ≠ [] ∨ s.smc.motion ≠ .holding → t.pau.opening.target = some target) ∧
          (target : Int) ≤ max 0 s.act.hfull ∧
          (∀ h ∈ chosen, ∀ r, s.passage h = some r → s.liftOf (r.need s.act) ≤ target) ∧
          (target = 0 ∨ ∃ h ∈ chosen, ∃ r, s.passage h = some r ∧ s.liftOf (r.need s.act) = target) ∧
          t.sp = (s.answered .operator b rest 0
            [BitVec.ofNat 8 chosen.length, BitVec.ofNat 8 (target / 256), BitVec.ofNat 8 target]).sp)

/-- R171, R173: END OPENING in GATHERED or ADMITTING answers OK and sends the opening to CLOSING_CHANNEL: every GROUPED or ADMITTED
member returns to FILED with its deferred flag set and no required lift, a TRANSITING one goes on, both channel heads are decided
STOP, and the opening is retired at once where no member is TRANSITING and both beams are clear. In CLOSING_CHANNEL it answers OK
and changes nothing; in NONE it is refused with NOT_NOW (9). R167 to R169: the break of the active direction's entry beam makes the
oldest ADMITTED passage of its queue TRANSITING; the restoring of its exit beam retires the oldest TRANSITING one, and the break of
the exit beam is expected while one is TRANSITING. With none such, and with no active direction, a break is an intrusion, and so is
a restoring of the exit beam with none TRANSITING: CHANNEL_INTRUSION becomes ACTIVE, and LATCHED at once where both beams are then
clear, the horn goes to DANGER, and no passage changes. A break quick-stops a lowering or a seating (R74), and a restoring changes
nothing in SMC. A member that passes departs: its queue left empty gives the channel back and, while ADMITTING, brings an admission
test (R161); ADMITTING without a member, or a budget of 0 with none ADMITTED or TRANSITING, closes the channel (R170, R171), and
CLOSING_CHANNEL may finish (R173); CLEARANCE_LOW is evaluated again (R163). After each both channel heads are decided as R165 gives
(at the end of the event: log 9). -/
def Obligations.EndOpeningClosesTheChannel : Prop :=
  (∀ (s : State) (b : Buffered) (rest : List Buffered), s.offers .operator b rest = true → s.configured = true →
    b.asks 0x19 [] = true →
    (s.pau.opening.state = .none → exec (.endOpening .operator) s = .next (s.answered .operator b rest 9 [])) ∧
    (s.pau.opening.state = .closingChannel → exec (.endOpening .operator) s = .next (s.answered .operator b rest 0 [])) ∧
    (s.pau.opening.state = .gathered ∨ s.pau.opening.state = .admitting →
      Gives (exec (.endOpening .operator) s) fun t =>
        t = { s with om := t.om, pg := t.pg, pau := t.pau, sp := (s.answered .operator b rest 0 []).sp } ∧
        t.pau.decidedU = .stop ∧ t.pau.decidedD = .stop ∧ t.pau.queue = s.pau.queue ∧ ChannelClosed s t ∧
        (∀ h ∈ s.pau.opening.members, ∀ r, s.passage h = some r → r.state = .grouped ∨ r.state = .admitted →
          t.passage h = some { r with state := .filed, deferred := true, lift := none } ∧ h ∉ t.pau.opening.members) ∧
        (∀ h ∈ s.pau.opening.members, ∀ r, s.passage h = some r → r.state = .transiting → t.passage h = some r) ∧
        t.pau.opening.state =
          if (∀ h ∈ s.pau.opening.members, ∀ r, s.passage h = some r → r.state ≠ .transiting) ∧ s.line 33 = true ∧
            s.line 34 = true then .none else .closingChannel)) ∧
  ∀ (u : State) (lines : BitVec 48) (lamps : BitVec 15) (l : Fin 48) (level : Bool), l = 33 ∨ l = 34 → u.qualifies lines l level →
    let queue (d : Dir) : List (Handle 16) := match d with | .up => u.pau.opening.queueUp | .down => u.pau.opening.queueDown
    let entry (d : Dir) : Fin 48 := match d with | .up => 34 | .down => 33
    let isState (st : PassState) (h : Handle 16) : Bool := (u.passage h).any fun r => r.state = st
    let intrudes : Prop := match u.pau.opening.active with
      | none => level = false
      | some d =>
        if l = entry d then level = false ∧ (queue d).filter (isState .admitted) = []
        else (queue d).filter (isState .transiting) = []
    Gives (exec (.samplingInstant lines lamps) u) fun t =>
      t = { u with iq := t.iq, om := t.om, smc := t.smc, pg := t.pg, pau := t.pau, mfs := t.mfs } ∧
      (if level = true then SmcStands u t else QuickStopsFor u t) ∧ t.aspectsDecided ∧
      (intrudes →
        t.pau.slots = u.pau.slots ∧ t.pau.queue = u.pau.queue ∧
        (u.pau.opening.state ≠ .closingChannel → t.pau.opening = u.pau.opening)) ∧
      (intrudes →
        t.fault 33 = (if t.line 33 = true ∧ t.line 34 = true then .latched else .active) ∧
        t.pau.intrusion = !(t.line 33 && t.line 34) ∧
        ((u.pg.heads.get .horn).running = some .silent ∨ (u.pg.heads.get .horn).running = some .admitHorn →
          (t.pg.heads.get .horn).running = some .danger)) ∧
      (¬intrudes → t.fault 33 = if t.line 33 = true ∧ t.line 34 = true ∧ u.fault 33 = .active then .latched else u.fault 33) ∧
      ∀ d, u.pau.opening.active = some d →
        (l = entry d → level = false → ∀ h others, (queue d).filter (isState .admitted) = h :: others →
          ∀ r, u.passage h = some r →
            t.pau.slots = u.pau.slots.set h.slot { gen := h.gen, record := some { r with state := .transiting } } ∧
            t.pau.queue = u.pau.queue ∧ t.pau.opening = u.pau.opening) ∧
        (l = entry d → level = true → u.pau.opening.state ≠ .closingChannel →
          t.pau.slots = u.pau.slots ∧ t.pau.opening = u.pau.opening) ∧
        (l ≠ entry d → level = true → ∀ h others, (queue d).filter (isState .transiting) = h :: others →
          t.pau.slots[h.slot] = { gen := (h.gen + 1) % 256, record := none } ∧
          t.pau.queue = u.pau.queue.filter (· ≠ h) ∧ h ∉ t.pau.opening.members ∧
          (h ∈ u.pau.opening.members → Departed (u.withRetired h) t))

/-! ### The span (chapter 4) -/

/-- R70: ATTEND answers OK and, while attendance is required, sets the attendance timer to the attendance interval; nothing else
changes. While attendance is required, a change of the key or of hold-to-run that leaves the key in LOCAL and hold-to-run held lets
the timer stand; any other lets a standing timer count from the full interval and a counting one go on. -/
def Obligations.AttendRefreshesTheTimer : Prop :=
  ∀ (s : State) (b : Buffered) (rest : List Buffered), s.operatorAsks b rest 0x2B [] = true →
    exec (.attend .operator) s =
      .next
        ((if (s.smc.motion = .raising ∨ s.smc.motion = .lowering ∨ s.smc.motion = .seating) ∧ s.smc.stop = .none then
            { s with smc := { s.smc with attendance := .counting (2880 * s.act.attendance.toNat) } }
          else s).answered .operator b rest 0 []) ∧
    ∀ (u : State) (lines : BitVec 48) (lamps : BitVec 15) (l : Fin 48) (level : Bool), l = 36 ∨ l = 38 →
      u.qualifies lines l level →
      Gives (exec (.samplingInstant lines lamps) u) fun t =>
        t = { u with iq := t.iq, om := t.om, smc := t.smc, mfs := t.mfs } ∧
        t.smc = { u.smc with attendance := t.smc.attendance, towers := t.smc.towers } ∧
        t.smc.attendance =
          if (u.smc.motion = .raising ∨ u.smc.motion = .lowering ∨ u.smc.motion = .seating) ∧ u.smc.stop = .none then
            (if t.line 36 = true ∧ t.line 38 = true then .standing
             else if u.smc.attendance = .standing then .counting (2880 * u.act.attendance.toNat) else u.smc.attendance)
          else u.smc.attendance

/-- R72, R81, R64, R68, R71: HALT SPAN answers OK and takes the controlled halt of each motion state, and the attendance timer's
expiry takes it without a reply. A moving span under the stop kind NONE or ARRIVAL begins to stop; HOLDING becomes HALTED;
UNLOCKING turns both WITHDRAW commands off and becomes SEATED with both seat switches made, and else HALTED; LOCKING turns both
DRIVE commands off and becomes SEATED; elsewhere nothing changes. -/
def Obligations.ControlledHaltByState : Prop :=
  (∀ (s : State) (b : Buffered) (rest : List Buffered), s.offers .operator b rest = true → s.configured = true →
    b.asks 0x2A [] = true →
    let moves := s.smc.motion = .raising ∨ s.smc.motion = .lowering ∨ s.smc.motion = .seating
    (moves → s.smc.stop = .none ∨ s.smc.stop = .arrival →
      Gives (exec (.haltSpan .operator) s) fun t =>
        HaltTaken s t ∧ t = { s with smc := t.smc, om := t.om, mfs := t.mfs, sp := (s.answered .operator b rest 0 []).sp }) ∧
    (moves → s.smc.stop = .halt ∨ s.smc.stop = .quick →
      exec (.haltSpan .operator) s = .next (s.answered .operator b rest 0 [])) ∧
    (s.smc.motion = .holding →
      Gives (exec (.haltSpan .operator) s) fun t =>
        t.smc = { s.smc with motion := .halted, stop := .none, target := none } ∧
        t = { s with smc := t.smc, om := t.om, pg := t.pg, pau := t.pau, sp := (s.answered .operator b rest 0 []).sp } ∧
        (s.pau.opening.state ≠ .admitting → t.pau = s.pau) ∧
        (s.pau.opening.state = .admitting →
          CalledBack { s with pau := { s.pau with opening := { s.pau.opening with state := .gathered } } } t fun _ => true)) ∧
    (s.smc.motion = .unlocking →
      Gives (exec (.haltSpan .operator) s) fun t =>
        t.smc.motion = (if s.line 1 = true ∧ s.line 6 = true then .seated else .halted) ∧ t.smc.lockTimer = none ∧
        (∀ f, t.cmd f = if f = 9 ∨ f = 11 then false else s.cmd f) ∧
        t = { s with smc := t.smc, om := t.om, sp := (s.answered .operator b rest 0 []).sp }) ∧
    (s.smc.motion = .locking →
      Gives (exec (.haltSpan .operator) s) fun t =>
        t.smc = { s.smc with motion := .seated, lockTimer := none } ∧
        (∀ f, t.cmd f = if f = 8 ∨ f = 10 then false else s.cmd f) ∧
        t = { s with smc := t.smc, om := t.om, sp := (s.answered .operator b rest 0 []).sp }) ∧
    (s.smc.motion = .initial ∨ s.smc.motion = .seatedLocked ∨ s.smc.motion = .seated ∨ s.smc.motion = .halted ∨
        s.smc.motion = .tripped →
      exec (.haltSpan .operator) s = .next (s.answered .operator b rest 0 []))) ∧
  ∀ (u : State) (r : Ticks), u.smc.motion = .raising ∨ u.smc.motion = .lowering ∨ u.smc.motion = .seating →
    u.smc.stop = .none → u.smc.attendance = .counting r →
    Gives (exec .attendanceTimerExpiry u) fun t => HaltTaken u t ∧ t = { u with smc := t.smc, om := t.om, mfs := t.mfs }

/-- R62, R63, R64, R57: RAISE SPAN in REMOTE, with a height, or without one while an opening is live, whose target it then asks for.
It is refused with NOT_NOW (9) in a motion state that takes no raise and where any condition of R63 fails. When every condition
holds, the target is the height asked for, at most Hfull and then with CLAMPED in the reply: RAISING takes it as its new target;
HOLDING, and a span at rest with both locks withdrawn-proven, enters RAISING; a span at rest otherwise enters UNLOCKING with
WITHDRAW on for each lock that is not withdrawn-proven. Without a height and an opening it is refused with BAD_ARGUMENT (3). In
UNLOCKING a lock that qualifies withdrawn-proven has its WITHDRAW turned off, and with both so the timer stops and RAISING is
entered, each tower asserting RAISE unless its reversal record blocks it (R59, R60). The panel's RAISE that qualifies pressed in
LOCAL raises under the same conditions to the target of a live opening, and else to Hfull; in REMOTE, at its release or where a
condition fails it has no effect. -/
def Obligations.RaiseSpanStartsOrRefuses : Prop :=
  let here (s : State) : Prop := s.smc.motion = .seatedLocked ∨ s.smc.motion = .seated ∨ s.smc.motion = .halted ∨
    s.smc.motion = .holding ∨ (s.smc.motion = .raising ∧ s.smc.stop = .none)
  let free (s : State) (target : Nat) : Prop := s.rcs.road = .sealed ∧ s.hasHold .noRaise = false ∧ s.hasHold .noMotion = false ∧
    s.mfs.wind.state ≠ .alert ∧ s.mfs.wind.state ≠ .clearPending ∧ s.mfs.supply.state ≠ .alert ∧
    s.mfs.supply.state ≠ .clearPending ∧
    (∃ m, s.mu.set = some m ∧ m.channels.c0.state = .valid ∧ m.channels.c1.state = .valid) ∧
    s.line 31 = true ∧ s.line 32 = true ∧ (∀ f ∈ s.om.displaced, 2 < rank f) ∧ s.spanHeight + s.act.ztol < (target : Int)
  let calm (s : State) : Prop := ∀ f : Fin 37, f.val ≤ 11 → s.fault f ≠ .active
  let starts (s t : State) : Prop :=
    if s.smc.motion = .holding ∨ (s.line 11 = true ∧ s.line 13 = true) then
      t.smc.motion = .raising ∧ t.smc.stop = .none ∧ t.cmd 9 = false ∧ t.cmd 11 = false
    else
      t.smc.motion = .unlocking ∧ (t.cmd 9 = !s.line 11) ∧ (t.cmd 11 = !s.line 13) ∧
        t.smc.lockTimer = some (2880000 * s.act.lockTravel.toNat)
  (∀ (s : State) (b : Buffered) (rest : List Buffered) (height : Nat), height < 65536 →
    let asked := s.operatorAsks b rest 0x28 (beBytes 2 height) = true ∨
      (s.operatorAsks b rest 0x28 [] = true ∧ s.pau.opening.state ≠ .none ∧ s.pau.opening.target = some height)
    let target := min height s.act.hfull.toNat
    let refreshed : State :=
      if (s.smc.motion = .raising ∨ s.smc.motion = .lowering ∨ s.smc.motion = .seating) ∧ s.smc.stop = .none then
        { s with smc := { s.smc with attendance := .counting (2880 * s.act.attendance.toNat) } }
      else s
    (asked → ¬(here s ∧ free s target ∧ calm s) →
      exec (.raiseSpan .operator) s = .next (refreshed.answered .operator b rest 9 [])) ∧
    (asked → here s → free s target → calm s →
      Gives (exec (.raiseSpan .operator) s) fun t =>
        t.sp = (s.replied .operator b rest
          (s.replyWith .operator b 0 (decide (s.act.hfull.toNat < height)) [])).sp ∧
        t = { s with om := t.om, smc := t.smc, pg := t.pg, pau := t.pau, sp := t.sp } ∧ t.smc.target = some target ∧
        (b.frame.payload ≠ [] → s.pau.opening.state ≠ .none → t.pau.opening.target = some target) ∧
        if s.smc.motion = .raising then t.smc = { refreshed.smc with target := some target } ∧ t.om = s.om else starts s t) ∧
    (s.operatorAsks b rest 0x28 [] = true → here s → (∀ f ∈ s.om.displaced, 2 < rank f) → s.pau.opening.state = .none →
      exec (.raiseSpan .operator) s = .next (refreshed.answered .operator b rest 3 []))) ∧
  (∀ (u : State) (lines : BitVec 48) (lamps : BitVec 15) (level : Bool), u.qualifies lines 39 level →
    let target := min (if u.pau.opening.state = .none then u.act.hfull.toNat else u.pau.opening.target.getD 0) u.act.hfull.toNat
    Gives (exec (.samplingInstant lines lamps) u) fun t =>
      t = { u with iq := t.iq, om := t.om, smc := t.smc, pg := t.pg, pau := t.pau, mfs := t.mfs } ∧
      t.pau.opening.target = u.pau.opening.target ∧
      if level = true ∧ u.line 36 = true ∧ here u ∧ free u target ∧ calm t then
        t.smc.target = some target ∧
        if u.smc.motion = .raising then t.smc = { u.smc with target := some target, towers := t.smc.towers } else starts u t
      else
        t.smc = { u.smc with towers := t.smc.towers } ∧ (∀ w, (t.tower w).phase = (u.tower w).phase) ∧ t.pau = u.pau ∧
        t.pg = u.pg ∧ ∀ f, f ≠ 39 → t.cmd f = u.cmd f) ∧
  ∀ (s : State) (lines : BitVec 48) (lamps : BitVec 15) (l : Fin 48), l = 11 ∨ l = 13 → s.smc.motion = .unlocking →
    s.qualifies lines l true →
    Gives (exec (.samplingInstant lines lamps) s) fun t =>
      t = { s with iq := t.iq, om := t.om, smc := t.smc, mfs := t.mfs } ∧ t.cmd (if l = 11 then 9 else 11) = false ∧
      if t.line 11 = true ∧ t.line 13 = true then
        t.smc.motion = .raising ∧ t.smc.stop = .none ∧ t.smc.target = s.smc.target ∧ t.smc.lockTimer = none ∧
        t.cmd 9 = false ∧ t.cmd 11 = false ∧
        (∀ w, if (s.tower w).reversal.any (fun v => v.blocked ≠ .lower) = true then (t.tower w).phase = .waitingReversal
          else (t.tower w).phase = .releasingBrake ∧ t.cmd (towerFn w 0) = true ∧
            (t.tower w).brakeTimer = some (2880 * s.act.tbrk.toNat)) ∧
        t.smc.attendance = if t.line 36 = true ∧ t.line 38 = true then .standing
          else .counting (2880 * s.act.attendance.toNat)
      else
        t.smc = { s.smc with towers := t.smc.towers } ∧ (∀ w, (t.tower w).phase = (s.tower w).phase) ∧
        ∀ f, f ≠ 39 → f ≠ (if l = 11 then 9 else 11) → t.cmd f = s.cmd f

/-- R66, R67, R68: LOWER SPAN, in REMOTE, from HOLDING, or HALTED but for a span on its seats with the locks not both withdrawn:
when every condition of R66 holds it enters LOWERING above Ztol and SEATING (or the LOCKING that follows) at or below it; when one
fails it is refused with NOT_NOW (9). From SEATED it enters LOCKING when the conditions of R68 hold, with DRIVE on for each lock
that is not driven-proven, and passes through it at once where both are. In the other states it is refused. In LOCKING a lock that
qualifies driven-proven has its DRIVE turned off, and with both so the span is SEATED_LOCKED with both seat switches made and else
SEATED. In SEATING a seat switch that qualifies made seats its tower, whose stop begins with the limited 0 staged (R51). In
SEATED_LOCKED a seat switch or a driven proving that is lost makes the state SEATED, and no command changes (R69). The panel's LOWER
that qualifies pressed in LOCAL lowers, seats or locks under the same conditions; in REMOTE, at its release or where a condition
fails it has no effect. -/
def Obligations.LowerSpanStartsOrRefuses : Prop :=
  let calm (s : State) : Prop := s.hasHold .noLower = false ∧ s.hasHold .noMotion = false ∧ s.mfs.supply.state ≠ .alert ∧
    s.mfs.supply.state ≠ .clearPending ∧ (∀ f ∈ s.om.displaced, 2 < rank f)
  let clear (s : State) : Prop := ∀ f : Fin 37, f.val ≤ 11 → s.fault f ≠ .active
  let seats (s : State) : Prop := s.line 1 = true ∧ s.line 6 = true
  let withdrawn (s : State) : Prop := s.line 11 = true ∧ s.line 13 = true
  let free (s : State) : Prop := s.rcs.road = .sealed ∧ s.pau.opening.state = .none ∧ s.membersIn .transiting = [] ∧
    s.line 33 = true ∧ s.line 34 = true ∧ withdrawn s ∧
    (∃ m, s.mu.set = some m ∧ m.channels.c0.state = .valid ∧ m.channels.c1.state = .valid)
  let locks (s : State) : Prop := s.smc.motion = .seated ∨ (s.smc.motion = .halted ∧ seats s ∧ ¬withdrawn s)
  let lowers (s : State) : Prop := (s.smc.motion = .holding ∨ s.smc.motion = .halted) ∧ ¬locks s
  let lowered (s t : State) : Prop :=
    t.smc.target = none ∧
    if s.act.ztol < s.spanHeight then t.smc.motion = .lowering ∧ t.smc.stop = .none
    else t.smc.motion ∈ [Motion.seating, .locking, .seatedLocked, .seated]
  let locked (s t : State) : Prop :=
    if s.line 12 = true ∧ s.line 14 = true then t.smc.motion = .seatedLocked ∧ t.cmd 8 = false ∧ t.cmd 10 = false
    else
      t.smc.motion = .locking ∧ (t.cmd 8 = !s.line 12) ∧ (t.cmd 10 = !s.line 14) ∧
        t.smc.lockTimer = some (2880000 * s.act.lockTravel.toNat)
  (∀ (s : State) (b : Buffered) (rest : List Buffered), s.operatorAsks b rest 0x29 [] = true →
    let refreshed : State :=
      if (s.smc.motion = .raising ∨ s.smc.motion = .lowering ∨ s.smc.motion = .seating) ∧ s.smc.stop = .none then
        { s with smc := { s.smc with attendance := .counting (2880 * s.act.attendance.toNat) } }
      else s
    (¬(locks s ∧ seats s ∧ calm s ∧ clear s) → ¬(lowers s ∧ free s ∧ calm s ∧ clear s) →
      exec (.lowerSpan .operator) s = .next (refreshed.answered .operator b rest 9 [])) ∧
    (lowers s → free s → calm s → clear s →
      Gives (exec (.lowerSpan .operator) s) fun t =>
        t = { s with om := t.om, smc := t.smc, pg := t.pg, pau := t.pau, sp := (s.answered .operator b rest 0 []).sp } ∧
        lowered s t) ∧
    (locks s → seats s → calm s → clear s →
      Gives (exec (.lowerSpan .operator) s) fun t =>
        t = { s with smc := t.smc, om := t.om, sp := (s.answered .operator b rest 0 []).sp } ∧ locked s t)) ∧
  (∀ (u : State) (lines : BitVec 48) (lamps : BitVec 15) (level : Bool), u.qualifies lines 40 level →
    Gives (exec (.samplingInstant lines lamps) u) fun t =>
      t = { u with iq := t.iq, om := t.om, smc := t.smc, pg := t.pg, pau := t.pau, mfs := t.mfs } ∧
      if level = true ∧ u.line 36 = true ∧ calm u ∧ clear t ∧ lowers u ∧ free u then lowered u t
      else if level = true ∧ u.line 36 = true ∧ calm u ∧ clear t ∧ locks u ∧ seats u then
        locked u t ∧ t.pau = u.pau ∧ t.pg = u.pg
      else
        t.smc = { u.smc with towers := t.smc.towers } ∧ (∀ w, (t.tower w).phase = (u.tower w).phase) ∧ t.pau = u.pau ∧
        t.pg = u.pg ∧ ∀ f, f ≠ 39 → t.cmd f = u.cmd f) ∧
  ∀ (u : State) (lines : BitVec 48) (lamps : BitVec 15) (l : Fin 48),
    (l = 12 ∨ l = 14 → u.smc.motion = .locking → u.qualifies lines l true →
      Gives (exec (.samplingInstant lines lamps) u) fun t =>
        t = { u with iq := t.iq, om := t.om, smc := t.smc, mfs := t.mfs } ∧ t.cmd (if l = 12 then 8 else 10) = false ∧
        if t.line 12 = true ∧ t.line 14 = true then
          t.smc = { u.smc with motion := if t.line 1 = true ∧ t.line 6 = true then .seatedLocked else .seated
                               lockTimer := none, towers := t.smc.towers } ∧ t.cmd 8 = false ∧ t.cmd 10 = false
        else t.smc = { u.smc with towers := t.smc.towers }) ∧
    (∀ w, l = towerLine w 0 → u.smc.motion = .seating → (u.tower w).seated = false → u.qualifies lines l true →
      Gives (exec (.samplingInstant lines lamps) u) fun t =>
        t = { u with iq := t.iq, om := t.om, smc := t.smc, mfs := t.mfs } ∧ (t.tower w).seated = true ∧
        (t.tower w).phase = (u.tower w).phase.stopped ∧
        ((u.tower w).phase = .running → 0 ≤ u.act.racc →
          (t.om.speed.get w).staged = (u.om.speed.get w).live - (max u.act.racc u.act.rdec).toNat) ∧
        (∀ v, v ≠ w → (t.tower v).phase = (u.tower v).phase ∧ (t.tower v).seated = (u.tower v).seated ∧
          t.om.speed.get v = u.om.speed.get v) ∧
        (if (u.tower (match w with | .a => .b | .b => .a)).seated = true then
           t.smc.seatTimer = none ∧
           (u.smc.stop = .none → (∀ v, (t.tower v).phase = .atRest) →
             t.smc.motion ∈ [Motion.locking, .seatedLocked, .seated] ∧ t.smc.attendance = .stopped)
         else t.smc.motion = .seating ∧ t.smc.seatTimer = u.smc.seatTimer)) ∧
    (∀ level, l = 1 ∨ l = 6 ∨ l = 12 ∨ l = 14 → u.smc.motion = .seatedLocked → u.qualifies lines l level →
      Gives (exec (.samplingInstant lines lamps) u) fun t =>
        t = { u with iq := t.iq, om := t.om, smc := t.smc, mfs := t.mfs } ∧ (∀ f, f ≠ 39 → t.cmd f = u.cmd f) ∧
        t.smc = { u.smc with motion := if level then .seatedLocked else .seated, towers := t.smc.towers })

/-! ### The road (chapter 5) -/

/-- R87, R86, R100, R105: CLOSE ROAD answers OK. From OPEN, RECOVERY, BARRIER_RAISING, GATE_RAISING and EXTINGUISH it enters
PREWARN: every gate command off, the prewarn timer at Tprewarn, the warning heads FLASH, the traffic heads AMBER with the amber
timer at Tamber from OPEN and EXTINGUISH and RED without it from the others, and the budget clock started from OPEN and RECOVERY
with the budget kept. In the other states it changes nothing. The panel's CLOSE that qualifies pressed in LOCAL does the same; in
REMOTE and at its release it has no effect. -/
def Obligations.CloseRoadEntersPrewarn : Prop :=
  let closable (s : State) : Prop := s.rcs.road = .isOpen ∨ s.rcs.road = .recovery ∨ s.rcs.road = .barrierRaising ∨
    s.rcs.road = .gateRaising ∨ s.rcs.road = .extinguish
  let closes (s t : State) : Prop :=
    t.rcs.road = .prewarn ∧ t.rcs.prewarn = some (2880000 * s.act.tprewarn.toNat) ∧ t.rcs.holding = false ∧
    t.rcs.extinguish = none ∧ t.rcs.budget = s.rcs.budget ∧ t.rcs.warnAspect = .flash ∧
    (∀ g, (t.gate g).cmd = .none ∧ (t.gate g).travel = none ∧ t.cmd (gateDownFn g) = false ∧
      t.cmd (gateUpFn g) = false) ∧
    (if s.rcs.road = .isOpen ∨ s.rcs.road = .extinguish then
      t.rcs.trafAspect = .amber ∧ t.rcs.amber = some (2880000 * s.act.tamber.toNat)
     else t.rcs.trafAspect = .red ∧ t.rcs.amber = none) ∧
    t.rcs.budgetTimer = if s.rcs.road = .isOpen ∨ s.rcs.road = .recovery then some 2880000 else s.rcs.budgetTimer
  (∀ (s : State) (b : Buffered) (rest : List Buffered), s.operatorAsks b rest 0x20 [] = true →
    if closable s then
      Gives (exec (.closeRoad .operator) s) fun t =>
        t = { s with rcs := t.rcs, om := t.om, pg := t.pg, sp := (s.answered .operator b rest 0 []).sp } ∧ closes s t
    else exec (.closeRoad .operator) s = .next (s.answered .operator b rest 0 [])) ∧
  ∀ (u : State) (lines : BitVec 48) (lamps : BitVec 15) (level : Bool), u.qualifies lines 41 level →
    Gives (exec (.samplingInstant lines lamps) u) fun t =>
      t = { u with iq := t.iq, rcs := t.rcs, om := t.om, smc := t.smc, pg := t.pg, mfs := t.mfs } ∧
      t.smc = { u.smc with towers := t.smc.towers } ∧ (∀ w, (t.tower w).phase = (u.tower w).phase) ∧
      if level = true ∧ u.line 36 = true ∧ closable u then closes u t
      else t.rcs = u.rcs ∧ t.pg = u.pg ∧ ∀ f, f ≠ 39 → t.cmd f = u.cmd f

/-- R88, R98, R99: REOPEN ROAD answers OK and changes nothing in OPEN, BARRIER_RAISING, GATE_RAISING and EXTINGUISH; in the other
states it is refused with NOT_NOW (9) unless the span is SEATED_LOCKED and no KEEP_CLOSED hold is in force, and otherwise the road
leaves for BARRIER_RAISING with each barrier that is not up-proven driven UP. The panel's REOPEN that qualifies pressed in LOCAL
does the same; in REMOTE, at its release or where a condition fails it has no effect. -/
def Obligations.ReopenRoadNeedsTheSpanLocked : Prop :=
  let already (s : State) : Prop := s.rcs.road = .isOpen ∨ s.rcs.road = .barrierRaising ∨ s.rcs.road = .gateRaising ∨
    s.rcs.road = .extinguish
  let reopens (s t : State) : Prop :=
    (t.rcs.road = .barrierRaising ∨ t.rcs.road = .gateRaising ∨ t.rcs.road = .extinguish) ∧
    (s.rcs.suspended = false → s.rcs.holding = false → (∀ g, s.fault (gateFault g) = .clear) →
      (∀ f : Fin 40, s.isDisplaced f = false) → ((s.gate .b1).pos ≠ .up ∨ (s.gate .b2).pos ≠ .up) →
      t.rcs.road = .barrierRaising ∧
      ∀ g, g = .b1 ∨ g = .b2 → (s.gate g).pos ≠ .up →
        (t.gate g).cmd = .up ∧ t.cmd (gateUpFn g) = true ∧ (t.gate g).travel = some (2880000 * s.act.gateTime.toNat))
  (∀ (s : State) (b : Buffered) (rest : List Buffered), s.operatorAsks b rest 0x21 [] = true →
    (already s → exec (.reopenRoad .operator) s = .next (s.answered .operator b rest 0 [])) ∧
    (¬already s → s.smc.motion ≠ .seatedLocked ∨ s.hasHold .keepClosed = true →
      exec (.reopenRoad .operator) s = .next (s.answered .operator b rest 9 [])) ∧
    (¬already s → s.smc.motion = .seatedLocked → s.hasHold .keepClosed = false →
      Gives (exec (.reopenRoad .operator) s) fun t =>
        t = { s with om := t.om, rcs := t.rcs, pg := t.pg, mfs := t.mfs, sp := (s.answered .operator b rest 0 []).sp } ∧
        reopens s t)) ∧
  ∀ (u : State) (lines : BitVec 48) (lamps : BitVec 15) (level : Bool), u.qualifies lines 42 level →
    Gives (exec (.samplingInstant lines lamps) u) fun t =>
      t = { u with iq := t.iq, rcs := t.rcs, om := t.om, smc := t.smc, pg := t.pg, mfs := t.mfs } ∧
      t.smc = { u.smc with towers := t.smc.towers } ∧ (∀ w, (t.tower w).phase = (u.tower w).phase) ∧
      if level = true ∧ u.line 36 = true ∧ ¬already u ∧ u.smc.motion = .seatedLocked ∧ u.hasHold .keepClosed = false then
        reopens u t
      else t.rcs = u.rcs ∧ t.pg = u.pg ∧ ∀ f, f ≠ 39 → t.cmd f = u.cmd f

/-! ### Holds (chapter 9) and faults (chapter 10) -/

/-- R181 to R183: PLACE HOLD is refused with BAD_ARGUMENT (3) for a kind above 4 and with AUTHORITY (1) for a kind other than
NO_LOWER and MARINE_STOP from TRAFFIC. A new hold goes into the first empty station slot from the next-slot pointer round, with age
0, and the pointer moves behind it; a repeated one only writes the reason. The reply carries the handle and whether the hold
existed. The first MARINE_STOP calls every ADMITTED member back and decides both channel heads STOP (R164); a further one changes
nothing in the channel. A NO_RAISE or NO_MOTION halts in UNLOCKING and RAISING (R73), and a NO_LOWER or NO_MOTION takes the quick
stop in LOWERING and SEATING with any stop kind except QUICK (R74); in other states they change nothing in SMC. A KEEP_CLOSED placed
in BARRIER_RAISING or GATE_RAISING makes RCS holding: every gate function goes off and every travel timer stops, while the commands
stay recorded; elsewhere it changes nothing in RCS (R101). -/
def Obligations.PlaceHoldPlacesOrRefuses : Prop :=
  ∀ (p : Port) (s : State) (b : Buffered) (rest : List Buffered) (code reason : Byte), s.offers p b rest = true →
    s.configured = true → b.asks 0x30 [code, reason] = true →
    (4 < code.toNat → exec (.placeHold p) s = .next (s.answered p b rest 3 [])) ∧
    ∀ k : HoldKind, k.ctorIdx = code.toNat →
      let owner := (match p with | .operator => Owner.operator | .traffic => Owner.traffic)
      let mine (h : Hold) : Bool := h.owner = owner && h.kind = k
      if p = .traffic ∧ k ≠ .noLower ∧ k ≠ .marineStop then exec (.placeHold p) s = .next (s.answered p b rest 1 [])
      else
        (∀ (i : Fin 12) (h : Hold), (s.ht.slots[i]).record = some h → mine h = true →
          (∀ j : Fin 12, j < i → (s.ht.slots[j]).record.any mine = false) →
          exec (.placeHold p) s =
            .next
              (({ s with
                  ht := { s.ht with
                          slots := s.ht.slots.set i { gen := (s.ht.slots[i]).gen,
                                                      record := some { h with reason := reason.toNat } } } } : State).answered
                p b rest 0 [BitVec.ofNat 8 i.val, BitVec.ofNat 8 (s.ht.slots[i]).gen, 1])) ∧
        ((∀ i : Fin 12, (s.ht.slots[i]).record.any mine = false) → 4 ≤ s.ht.pointer → s.ht.pointer ≤ 11 →
          ∀ i : Fin 12, 4 ≤ i.val → (s.ht.slots[i]).record = none →
          (∀ j : Fin 12, 4 ≤ j.val → (j.val + 8 - s.ht.pointer) % 8 < (i.val + 8 - s.ht.pointer) % 8 →
            (s.ht.slots[j]).record.isSome = true) →
          Gives (exec (.placeHold p) s) fun t =>
            t = { s with om := t.om, smc := t.smc, rcs := t.rcs, pg := t.pg, pau := t.pau, ht := t.ht, mfs := t.mfs,
                         sp := (s.answered p b rest 0 [BitVec.ofNat 8 i.val, BitVec.ofNat 8 (s.ht.slots[i]).gen, 0]).sp } ∧
            t.ht = { s.ht with
                     slots := s.ht.slots.set i { gen := (s.ht.slots[i]).gen,
                                                 record := some { owner := owner, kind := k, reason := reason.toNat, age := 0 } }
                     pointer := if i.val = 11 then 4 else i.val + 1 } ∧
            (k = .noRaise ∨ (k = .noMotion ∧ (s.smc.motion = .unlocking ∨ s.smc.motion = .raising)) →
              HaltsIn [.unlocking, .raising] s t) ∧
            (k = .noLower ∨ (k = .noMotion ∧ s.smc.motion ≠ .unlocking ∧ s.smc.motion ≠ .raising) → QuickStopsFor s t) ∧
            (k = .keepClosed ∨ k = .marineStop → t.smc = s.smc) ∧
            (k = .marineStop → s.hasHold .marineStop = false →
              CalledBack s t (fun _ => true) ∧ t.pau.decidedU = .stop ∧ t.pau.decidedD = .stop) ∧
            (k ≠ .marineStop ∨ s.hasHold .marineStop = true → t.pau = s.pau) ∧
            (if k = .keepClosed ∧ (s.rcs.road = .barrierRaising ∨ s.rcs.road = .gateRaising) then
              t.rcs = { s.rcs with holding := true, gates := t.rcs.gates } ∧
              ∀ g, t.gate g = { s.gate g with travel := none } ∧ t.cmd (gateDownFn g) = false ∧ t.cmd (gateUpFn g) = false
             else t.rcs = s.rcs))

/-- R184, R177: RELEASE HOLD is refused with BAD_ARGUMENT (3) for a slot above 11, UNKNOWN_HANDLE (4) for a stale handle and
AUTHORITY (1) for a hold of another owner, and then changes nothing; otherwise the slot becomes empty under its next generation, and
the other slots and the pointer stand. The release of the last KEEP_CLOSED ends the holding of RCS (R101): unless it is suspended,
the step resumes with each gate that is not up-proven driven UP under a fresh travel timer, and the road goes past every step whose
gates have come up meanwhile. At the release of the last MARINE_STOP both channel heads are decided again as R165 gives, and nothing
is admitted; no other release changes anything in the channel but what a restarted step brings (R164). That the raising phase is
EXIT in BARRIER_RAISING and ENTRY in EXTINGUISH is the model's choice (log 41). Both heads are decided at the end of the event (log
9). -/
def Obligations.ReleaseHoldReleasesOrRefuses : Prop :=
  ∀ (p : Port) (s : State) (b : Buffered) (rest : List Buffered) (slot gen : Byte), s.offers p b rest = true →
    s.configured = true → b.asks 0x31 [slot, gen] = true →
    (11 < slot.toNat → exec (.releaseHold p) s = .next (s.answered p b rest 3 [])) ∧
    ∀ i : Fin 12, slot.toNat = i.val →
      (s.holdAt { slot := i, gen := gen.toNat } = none → exec (.releaseHold p) s = .next (s.answered p b rest 4 [])) ∧
      ∀ h : Hold, s.holdAt { slot := i, gen := gen.toNat } = some h →
        if h.owner = (match p with | .operator => Owner.operator | .traffic => Owner.traffic) then
          Gives (exec (.releaseHold p) s) fun t =>
            t = { s with om := t.om, smc := t.smc, rcs := t.rcs, pg := t.pg, pau := t.pau, ht := t.ht, mfs := t.mfs,
                         sp := (s.answered p b rest 0 []).sp } ∧
            t.ht = { s.ht with slots := s.ht.slots.set i { gen := (gen.toNat + 1) % 256, record := none } } ∧
            (h.kind ≠ .keepClosed → t.smc = s.smc) ∧
            let lifts : Prop := h.kind = .keepClosed ∧ s.rcs.holding = true ∧
              ∀ j : Fin 12, j ≠ i → (s.ht.slots[j]).record.all (fun x => x.kind ≠ .keepClosed) = true
            (¬lifts → t.rcs = s.rcs) ∧
            (lifts → t.rcs.holding = false ∧ (s.rcs.suspended = true → t.rcs = { s.rcs with holding := false })) ∧
            (lifts → s.rcs.suspended = false → s.rcs.road = .barrierRaising ∨ s.rcs.road = .gateRaising →
              (∀ f : Fin 40, s.isDisplaced f = false) →
              (t.rcs.road, t.rcs.phase) =
                roadPast (fun g => (s.gate g).pos) (fun g => (s.gate g).obstructed) false s.rcs.road s.rcs.phase ∧
              (∀ g, (t.gate g).pos = (s.gate g).pos) ∧ t.stepDriven) ∧
            (h.kind = .marineStop ∧ (∀ j : Fin 12, j ≠ i → (s.ht.slots[j]).record.all (fun x => x.kind ≠ .marineStop) = true) →
              t.pau = { s.pau with decidedU := t.pau.decidedU, decidedD := t.pau.decidedD } ∧ t.aspectsDecided) ∧
            (h.kind ≠ .keepClosed → h.kind ≠ .marineStop ∨
                (∃ j : Fin 12, j ≠ i ∧ (s.ht.slots[j]).record.any (fun x => x.kind = .marineStop) = true) →
              t.pau = s.pau)
        else exec (.releaseHold p) s = .next (s.answered p b rest 1 [])

/-- R198, R199, R15, R80: ACKNOWLEDGE FAULTS answers OK with the number of LATCHED faults, which become CLEAR; the ACTIVE ones
stand. The first trip fault becomes none where it was LATCHED, the protection latch is released where ESTOP was, and SMC leaves
TRIPPED unless a trip fault is ACTIVE. R102, R104: a GATE fault that is still ACTIVE keeps RCS suspended, and the last one that
becomes CLEAR takes its cause away, at which RCS, unless another cause or the holding stands, restarts the interrupted step: its
gates are driven on and the road goes past every step that has ended (what a restart does is stated with no gate function displaced,
no obstruction and every zone clear; that a waiting closure goes on at it is log 11, and the raising phase after EXTINGUISH log 41).
The gate faults and the proving faults (6 to 9) may be reported again in the same event, where the road's step restarts or the
released commands agree. -/
def Obligations.AcknowledgementClearsLatchedFaults : Prop :=
  ∀ (s : State) (b : Buffered) (rest : List Buffered), s.offers .operator b rest = true → s.configured = true →
    b.asks 0x38 [] = true →
    Gives (exec (.acknowledgeFaults .operator) s) fun t =>
      t = { s with om := t.om, smc := t.smc, rcs := t.rcs, pg := t.pg, pau := t.pau, mfs := t.mfs, sp := t.sp } ∧
      t.sp = (s.answered .operator b rest 0
        [BitVec.ofNat 8 ((List.finRange 37).filter fun f => s.fault f = .latched).length]).sp ∧
      (∀ f : Fin 37, ¬(6 ≤ f.val ∧ f.val ≤ 9) → ¬(12 ≤ f.val ∧ f.val ≤ 17) →
        t.fault f = if s.fault f = .latched then .clear else s.fault f) ∧
      (∀ f, s.fault f = .active → t.fault f ≠ .clear) ∧
      t.mfs.firstTrip = (match s.mfs.firstTrip with
        | none => none
        | some f => if s.fault f = .latched then none else some f) ∧
      (t.cmd 39 = true ↔ ∃ f, t.fault f ≠ .clear) ∧
      (let still : Bool := Gate.all.any fun g => s.fault (gateFault g) = .active
       s.rcs.suspended = true ∨ still = false → CauseLeaves s t { s.rcs with causeGate := still }) ∧
      t.om.latch = (if s.fault 0 = .latched then false else s.om.latch) ∧
      (s.smc.motion = .tripped →
        t.smc.motion =
          if ∃ f : Fin 37, f.val ≤ 11 ∧ t.fault f = .active then .tripped
          else if s.onSeats = true then .seated else .halted)

/-! ### Settings (chapter 11) -/

/-- R213, R214, R219: LOAD SETTING of a number writes it into the pending set when it lies in the item's range, and is refused
with BAD_ARGUMENT (3) when it does not, as is a number that no item has; LOAD SETTING with an item alone answers OK with the
pending and the active value. So for the numbers, the assignments (255 for none), the polarities, the pattern steps (whose first two
characters are ignored and shown as 0: the model's choice, log 6), the descriptors and the aspect map. Nothing else changes. -/
def Obligations.LoadSettingWritesThePendingSet : Prop :=
  ∀ (s : State) (b : Buffered) (rest : List Buffered), s.offers .operator b rest = true →
    let loads (c : Settings) : Host.Outcome State Fault Refusal :=
      .next (({ s with cs := { s.cs with pendingSet := c } } : State).answered .operator b rest 0 [])
    let shows (n : Nat) (value : Settings → List Byte) : Prop :=
      b.asks 0x40 (beBytes 2 n) = true →
        exec (.loadSettingItemAlone .operator) s =
          .next (s.answered .operator b rest 0 (value s.cs.pendingSet ++ value s.cs.active))
    (∀ (k : Fin 52) (v : Int), -2 ^ 31 ≤ v → v < 2 ^ 31 →
      b.asks 0x40 (beBytes 2 (k.val + 1) ++ signedBytes 4 v) = true →
      exec (.loadSetting .operator) s =
        if (numRange k).has v then loads { s.cs.pendingSet with num := s.cs.pendingSet.num.set k v }
        else .next (s.answered .operator b rest 3 [])) ∧
    (∀ (f : Fin 40) (l : Fin 48), b.asks 0x40 (beBytes 2 (64 + f.val) ++ beBytes 4 l.val) = true →
      exec (.loadSetting .operator) s =
        loads { s.cs.pendingSet with assign := s.cs.pendingSet.assign.set f (some l) }) ∧
    (∀ (f : Fin 40) (v : Int), -2 ^ 31 ≤ v → v < 2 ^ 31 → v < 0 ∨ 47 < v →
      b.asks 0x40 (beBytes 2 (64 + f.val) ++ signedBytes 4 v) = true →
      exec (.loadSetting .operator) s =
        if v = 255 then loads { s.cs.pendingSet with assign := s.cs.pendingSet.assign.set f none }
        else .next (s.answered .operator b rest 3 [])) ∧
    (∀ (l : Fin 48) (v : Int), -2 ^ 31 ≤ v → v < 2 ^ 31 →
      b.asks 0x40 (beBytes 2 (128 + l.val) ++ signedBytes 4 v) = true →
      exec (.loadSetting .operator) s =
        if v = 0 ∨ v = 1 then
          loads { s.cs.pendingSet with inverted := s.cs.pendingSet.inverted.set l (decide (v = 1)) }
        else .next (s.answered .operator b rest 3 [])) ∧
    (∀ (k : Fin 64) (x y lamps duration : Byte),
      b.asks 0x40 (beBytes 2 (256 + k.val) ++ [x, y, lamps, duration]) = true →
      exec (.loadSetting .operator) s =
        if lamps.toNat ≤ 7 ∧ 1 ≤ duration.toNat then
          loads { s.cs.pendingSet with
                  steps := s.cs.pendingSet.steps.set k { lamps := BitVec.ofNat 3 lamps.toNat, duration := duration.toNat } }
        else .next (s.answered .operator b rest 3 [])) ∧
    (∀ (k : Fin 16) (base length modify passes : Byte),
      b.asks 0x40 (beBytes 2 (320 + k.val) ++ [base, length, modify, passes]) = true →
      exec (.loadSetting .operator) s =
        if base.toNat ≤ 63 ∧ 1 ≤ length.toNat ∧ length.toNat ≤ 64 ∧ modify.toNat ≤ 63 ∧ passes.toNat ≤ 15 then
          loads { s.cs.pendingSet with
                  descrs := s.cs.pendingSet.descrs.set k
                    { base := base.toNat, length := length.toNat, modify := modify.toNat, passes := passes.toNat } }
        else .next (s.answered .operator b rest 3 [])) ∧
    (∀ (k : Fin 19) (v : Int), -2 ^ 31 ≤ v → v < 2 ^ 31 →
      b.asks 0x40 (beBytes 2 (336 + k.val) ++ signedBytes 4 v) = true →
      exec (.loadSetting .operator) s =
        if h : 0 ≤ v ∧ v.toNat < 16 then
          loads { s.cs.pendingSet with aspects := s.cs.pendingSet.aspects.set k ⟨v.toNat, h.2⟩ }
        else .next (s.answered .operator b rest 3 [])) ∧
    (∀ (n : Nat) (v : List Byte), n < 65536 →
      (n = 0 ∨ (52 < n ∧ n < 64) ∨ (103 < n ∧ n < 128) ∨ (175 < n ∧ n < 256) ∨ 354 < n) → v.length = 4 →
      (b.asks 0x40 (beBytes 2 n ++ v) = true →
        exec (.loadSetting .operator) s = .next (s.answered .operator b rest 3 [])) ∧
      (b.asks 0x40 (beBytes 2 n) = true →
        exec (.loadSettingItemAlone .operator) s = .next (s.answered .operator b rest 3 []))) ∧
    (∀ k : Fin 52, shows (k.val + 1) fun c => signedBytes 4 c.num[k]) ∧
    (∀ f : Fin 40, shows (64 + f.val) fun c => beBytes 4 (match c.assign[f] with | none => 255 | some l => l.val)) ∧
    (∀ l : Fin 48, shows (128 + l.val) fun c => [0, 0, 0, if c.inverted[l] then 1 else 0]) ∧
    (∀ k : Fin 64, shows (256 + k.val) fun c =>
      [0, 0, BitVec.ofNat 8 (c.steps[k]).lamps.toNat, BitVec.ofNat 8 (c.steps[k]).duration]) ∧
    (∀ k : Fin 16, shows (320 + k.val) fun c =>
      [BitVec.ofNat 8 (c.descrs[k]).base, BitVec.ofNat 8 (c.descrs[k]).length, BitVec.ofNat 8 (c.descrs[k]).modify,
       BitVec.ofNat 8 (c.descrs[k]).passes]) ∧
    ∀ k : Fin 19, shows (336 + k.val) fun c => [0, 0, 0, BitVec.ofNat 8 (c.aspects[k]).val]

/-- R215, R209: COMMIT SETTINGS in CONFIGURED is refused with NOT_NOW (9) unless the road is OPEN, the span SEATED_LOCKED and the
opening NONE; and where a cross-check fails the reply is COMMIT_FAILED (11) with the lowest item that a failed check names.
Neither changes anything. -/
def Obligations.CommitRefusedOrFailedChangesNothing : Prop :=
  ∀ (s : State) (b : Buffered) (rest : List Buffered), s.offers .operator b rest = true → b.asks 0x41 [] = true →
    let ready := s.configured = false ∨
      (s.rcs.road = .isOpen ∧ s.smc.motion = .seatedLocked ∧ s.pau.opening.state = .none)
    (¬ready → exec (.commitSettings .operator) s = .next (s.answered .operator b rest 9 [])) ∧
    (ready → ∀ item : Nat, (item, false) ∈ commitChecks s.cs.pendingSet →
      (∀ x ∈ commitChecks s.cs.pendingSet, x.2 = false → item ≤ x.1) →
      exec (.commitSettings .operator) s =
        .next (s.answered .operator b rest 11 [BitVec.ofNat 8 (item / 256), BitVec.ofNat 8 item]))

/-- R215, R216, R83, R108, R125, R136, R178, R203: a successful commit copies the pending set into the active set. In UNCONFIGURED
it is the entry to CONFIGURED, from which every block starts; in CONFIGURED (R84, R107, R127) the measurement unit, the span, the
inputs, the holds and the passage records stand, the budget takes the new Bmax and each road head and the horn start their running
aspect again; a change of the water channel enable is noted for the next start of a scan (R26). Both resolve the assignment: each
line's winner is the best-ranked function that is assigned to it, the lowest number within a rank, the displaced list holds the
others, and the polarities are the new ones (R9). -/
def Obligations.SuccessfulCommitTakesEffect : Prop :=
  ∀ (s : State) (b : Buffered) (rest : List Buffered), s.offers .operator b rest = true → b.asks 0x41 [] = true →
    (∀ x ∈ commitChecks s.cs.pendingSet, x.2 = true) →
    (s.configured = false →
      Gives (exec (.commitSettings .operator) s) fun t =>
        t.pending = s.pending ∧ t.cs = { s.cs with state := .configured, active := s.cs.pendingSet } ∧ t.om.resolvedBy t.act ∧
        t.iq.samples = [] ∧ t.iq.qualified = none ∧ t.iq.samplingTimer = some 14400 ∧ t.iq.windowTimer = some 2880000 ∧
        (s.om.loopClosed = true → t.smc.motion = .initial ∧ t.om.latch = false ∧ t.fault 0 = .clear) ∧
        (s.om.loopClosed = false → t.om.latch = true ∧ t.fault 0 = .active) ∧
        (∀ w, (t.tower w).reversal = some { blocked := .both, remaining := 2880 * t.act.tdead.toNat }) ∧
        t.mu.set = none ∧ t.mu.scan = some t.act ∧ t.rcs.road = .recovery ∧ t.rcs.budget = t.act.bmax.toNat ∧
        t.rcs.budgetTimer = none ∧ t.pau.opening.state = .none ∧ t.pau.slots = s.pau.slots ∧
        t.pau.clock = some 2880000 ∧ t.ht.slots = s.ht.slots ∧ t.ht.clock = some 2880000 ∧
        (t.pg.heads.warnN.running = some .flash ∧ t.pg.heads.warnS.running = some .flash ∧
          t.pg.heads.trafN.running = some .red ∧ t.pg.heads.trafS.running = some .red ∧
          t.pg.heads.chanU.running = some .stop ∧ t.pg.heads.chanD.running = some .stop ∧
          t.pg.heads.horn.running = some .silent) ∧
        (t.fault 36 = .active ↔ t.om.displaced ≠ []) ∧ t.mfs.wind.state = .normal ∧ t.mfs.supply.state = .normal ∧
        t.sp = (({ s with cs := t.cs } : State).replied .operator b rest
          { s.replyWith .operator b 0 false [] with commits := true }).sp) ∧
    (s.configured = true → s.rcs.road = .isOpen → s.smc.motion = .seatedLocked → s.pau.opening = Opening.absent →
      Gives (exec (.commitSettings .operator) s) fun t =>
        t = { s with cs := t.cs, om := t.om, mu := t.mu, rcs := t.rcs, pg := t.pg, pau := t.pau, mfs := t.mfs, sp := t.sp } ∧
        t.cs = { s.cs with active := s.cs.pendingSet } ∧ t.om.resolvedBy t.act ∧
        t.mu = { s.mu with waterChanged := s.mu.waterChanged || (s.act.waterEnabled != s.cs.pendingSet.waterEnabled) } ∧
        t.rcs = { s.rcs with budget := t.act.bmax.toNat } ∧ t.pau.slots = s.pau.slots ∧ t.pau.queue = s.pau.queue ∧
        (∀ h ∈ [Head.warnN, .warnS, .trafN, .trafS, .horn], ∀ a, (s.pg.heads.get h).running = some a →
          (t.pg.heads.get h).running = some a ∧ (t.pg.heads.get h).pending = none ∧
          (t.pg.heads.get h).index = (t.act.descrFor h a).base ∧ (t.pg.heads.get h).pass = 0) ∧
        (t.om.displaced ≠ [] → t.fault 36 = .active) ∧
        t.sp = (({ s with cs := t.cs } : State).replied .operator b rest
          { s.replyWith .operator b 0 false [] with commits := true }).sp)

/-- R218, R150, R188, R216: RESTART is accepted, OK, while every RAISE, LOWER and BRAKE_RELEASE command is off and both live duties
are 0, and else refused with NOT_NOW (9); its reply formed, it changes nothing yet. When the restart acts, the active and the
pending settings are kept, every passage and hold is retired under its slot's next generation, the ports are cleared at their bit
rate and the part enters CONFIGURED afresh, with the assignment resolved again (R9). The restart acts when that reply is completed
or abandoned (that it empties the receiver of a frame which an abandoning 0xC5 starts is the model's choice of order: log 14). -/
def Obligations.RestartAcceptedThenActs : Prop :=
  (∀ (s : State) (b : Buffered) (rest : List Buffered), s.offers .operator b rest = true → s.configured = true →
    b.asks 0x42 [] = true →
    exec (.restart .operator) s =
      .next (if (∀ f : Fin 40, f = 0 ∨ f = 1 ∨ f = 2 ∨ f = 4 ∨ f = 5 ∨ f = 6 → s.cmd f = false) ∧
          (s.om.speed.get .a).live = 0 ∧ (s.om.speed.get .b).live = 0 then
        s.replied .operator b rest { s.replyWith .operator b 0 false [] with restarts := true }
      else s.answered .operator b rest 9 [])) ∧
  (∀ (s : State) (r : Reply), r.restarts = true → r.commits = false →
    (∀ k w, (s.sp.get .operator).tx = .sending r k w →
      exec (.replyCompleted .operator) s = exec .restartActs s ∧ exec (.replyAbandoned .operator) s = exec .restartActs s ∧
      (s.cs.held = false → ∀ c x, (frameChars r.kind r.tag r.payload)[k]? = some x → c.data ≠ x →
        exec (.characterReceived .operator c) s = exec .restartActs s)) ∧
    ∀ w, (s.sp.get .operator).tx = .waiting r w →
      exec (.replyAbandoned .operator) s = exec .restartActs s ∧
      (s.cs.held = false → ∀ c : RxChar, c.data = 0xC5 →
        exec (.characterReceived .operator c) s = exec .restartActs s)) ∧
  ∀ (s : State) (r : Reply), r.restarts = true →
    ((∃ w, (s.sp.get .operator).tx = .waiting r w) ∨ ∃ k w, (s.sp.get .operator).tx = .sending r k w) →
    Gives (exec .restartActs s) fun t =>
      t.pending = s.pending ∧ t.cs = { s.cs with state := .configured } ∧ t.om.resolvedBy s.act ∧
      (∀ i : Fin 16, t.pau.slots[i] =
        if (s.pau.slots[i]).record.isSome then { gen := ((s.pau.slots[i]).gen + 1) % 256, record := none } else s.pau.slots[i]) ∧
      t.pau.queue = [] ∧ t.pau.opening.state = .none ∧
      (∀ i : Fin 12, t.ht.slots[i] =
        if (s.ht.slots[i]).record.isSome then { gen := ((s.ht.slots[i]).gen + 1) % 256, record := none } else s.ht.slots[i]) ∧
      t.ht.pointer = 4 ∧ t.rcs.road = .recovery ∧ t.rcs.budget = s.act.bmax.toNat ∧ t.mu.set = none ∧
      t.iq.qualified = none ∧ (s.om.loopClosed = true → t.smc.motion = .initial) ∧ (∀ f, t.fault f ≠ .latched) ∧
      ∀ p, (t.sp.get p).rx = .hunting ∧ (t.sp.get p).buffer = [] ∧ (t.sp.get p).tx = .idle ∧ (t.sp.get p).overrun = false ∧
        (t.sp.get p).bitRate = (s.sp.get p).rateDue.getD (s.sp.get p).bitRate

/-! ### Lines, wind, supply, the E-stop loop (chapters 1 and 10) -/

/-- R2, R7, R14: a sampling instant appends one sample of every filtered line (line 0 is the loop terminal's level, the model's own
state: log 3; line 35 is not sampled), keeps the last three, and once there are three the qualified level of each line is the level
that two of them hold; the lamp-sense lines are held as sampled. Before the third sample no line qualifies and no other block
changes. R89, R179, R180: once qualified, in whatever order the changed lines are delivered, a gate one of whose proving lines has
changed has the position that the two lines show; lines 43, 44 and 37, changed to on, place the records of the panel and the
maintenance key and, changed to off, retire them; and no other hold, no age and no pointer changes. A NO_RAISE from the panel halts
in UNLOCKING and RAISING (R73), a NO_LOWER from the panel takes the quick stop of LOWERING and SEATING, and a NO_MOTION from the key
either (R74). -/
def Obligations.SamplingTakesTheMajority : Prop :=
  ∀ (s : State) (lines : BitVec 48) (lamps : BitVec 15), s.iq.samplingTimer.isSome = true →
    (s.iq.samples.length < 2 → s.iq.qualified = none →
      Gives (exec (.samplingInstant lines lamps) s) fun t =>
        t = { s with iq := t.iq } ∧ t.iq.samples.length = s.iq.samples.length + 1 ∧ t.iq.qualified = none ∧
        t.iq.sensed = some lamps ∧ t.iq.samplingTimer = some 14400) ∧
    (∀ a b : BitVec 48, s.iq.samples = [a, b] ∨ (∃ o, s.iq.samples = [o, a, b]) →
      Gives (exec (.samplingInstant lines lamps) s) fun t =>
        ∃ c q : BitVec 48, t.iq.samples = [a, b, c] ∧ t.iq.qualified = some q ∧
          (∀ l : Fin 48, l ≠ 0 → l ≠ 35 → c.getLsb l = lines.getLsb l) ∧ c.getLsb 0 = s.om.loopClosed ∧
          (∀ l : Fin 48, q.getLsb l =
            ((a.getLsb l && b.getLsb l) || (b.getLsb l && c.getLsb l) || (a.getLsb l && c.getLsb l))) ∧
          t.iq.sensed = some lamps ∧ t.iq.samplingTimer = some 14400 ∧ t.cs = s.cs ∧ t.mu = s.mu ∧ t.sp = s.sp) ∧
    (∀ (a b q : BitVec 48), s.iq.samples = [a, b] ∨ (∃ o, s.iq.samples = [o, a, b]) → s.iq.qualified = some q →
      let slot (i : Fin 12) : Fin 48 := if i = 0 then 43 else if i = 1 then 44 else 37
      let hold (i : Fin 12) : Hold :=
        { owner := if i.val ≤ 1 then .panel else .maintenance
          kind := if i = 0 then .noRaise else if i = 1 then .noLower else if i = 2 then .noMotion else .keepClosed
          reason := 0, age := 0 }
      Gives (exec (.samplingInstant lines lamps) s) fun t =>
        (∀ g, (t.gate g).pos =
          (if q.getLsb (gateUpLine g) = t.line (gateUpLine g) ∧ q.getLsb (gateDownLine g) = t.line (gateDownLine g) then
             (s.gate g).pos
           else if t.line (gateUpLine g) = true then (if t.line (gateDownLine g) = true then .unknown else .up)
           else if t.line (gateDownLine g) = true then .down else .moving)) ∧
        t.ht.pointer = s.ht.pointer ∧ t.ht.clock = s.ht.clock ∧
        ∀ i : Fin 12, t.ht.slots[i] =
          if 4 ≤ i.val ∨ q.getLsb (slot i) = t.line (slot i) then s.ht.slots[i]
          else if t.line (slot i) = true then { gen := (s.ht.slots[i]).gen, record := some (hold i) }
          else if (s.ht.slots[i]).record.isSome = true then { gen := ((s.ht.slots[i]).gen + 1) % 256, record := none }
          else s.ht.slots[i]) ∧
    (s.qualifies lines 43 true →
      Gives (exec (.samplingInstant lines lamps) s) fun t =>
        HaltsIn [.unlocking, .raising] s t ∧ t = { s with iq := t.iq, om := t.om, smc := t.smc, ht := t.ht, mfs := t.mfs }) ∧
    (s.qualifies lines 44 true →
      Gives (exec (.samplingInstant lines lamps) s) fun t =>
        QuickStopsFor s t ∧ t = { s with iq := t.iq, om := t.om, smc := t.smc, ht := t.ht, mfs := t.mfs }) ∧
    (s.qualifies lines 37 true →
      Gives (exec (.samplingInstant lines lamps) s) fun t =>
        if s.smc.motion = .unlocking ∨ s.smc.motion = .raising then HaltsIn [.unlocking, .raising] s t else QuickStopsFor s t)

/-- R4, R109, R179, R180: at the third sampling instant after the entry the road's gates take their first positions, a road in
RECOVERY with all six down-proven becomes SEALED with its budget clock started and one without stays in RECOVERY, and the panel and
maintenance holds are placed from lines 43, 44 and 37. A road that a request has taken out of RECOVERY keeps its state while the
loop stays open. R102: the loop's first level takes the loop cause of RCS's suspension away, or leaves it; the other causes stand.
R15, R78: ESTOP and OVERTRAVEL are reported by the first levels, and an entry to ACTIVE trips; else SMC leaves INITIAL where the
latest set shows both heights (R58), and stays INITIAL without them: that it reads the latest published set at this moment is the
model's reading (log 24). -/
def Obligations.QualificationCompleteTakesFirstLevels : Prop :=
  ∀ (s : State) (lines : BitVec 48) (lamps : BitVec 15) (a b : BitVec 48), s.iq.samplingTimer.isSome = true →
    s.iq.samples = [a, b] → s.iq.qualified = none →
    (∀ i : Fin 12, i.val < 4 → (s.ht.slots[i]).record = none) →
    Gives (exec (.samplingInstant lines lamps) s) fun t =>
      t.pending = s.pending ∧ t.cs = s.cs ∧ t.mu = s.mu ∧ t.sp = s.sp ∧
      (∀ g, (t.gate g).pos =
        (if t.line (gateUpLine g) = true then (if t.line (gateDownLine g) = true then .unknown else .up)
         else if t.line (gateDownLine g) = true then .down else .moving)) ∧
      t.rcs.causeLoop = !t.line 0 ∧
      (s.rcs.road ≠ .recovery → t.line 0 = false → t.rcs.road = s.rcs.road) ∧
      (s.rcs.road = .recovery →
        t.rcs.causeGate = s.rcs.causeGate ∧ t.rcs.causeSupply = s.rcs.causeSupply ∧
        if ∀ g ∈ Gate.all, (t.gate g).pos = .down then t.rcs.road = .sealed ∧ t.rcs.budgetTimer = some 2880000
        else t.rcs.road = .recovery) ∧
      (s.configured = true → s.rcs.road = .recovery → s.smc.motion = .initial →
        let enters (f : Fin 37) : Prop := t.fault f = .active ∧ s.fault f ≠ .active
        t.fault 0 = (s.fault 0).report (!s.om.loopClosed || !t.line 0) ∧
        t.fault 2 = (s.fault 2).report (s.smc.heightOver || !t.line 2 || !t.line 7) ∧
        t.smc.motion =
          if enters 0 ∨ enters 2 then .tripped
          else match s.mu.set.bind (·.heights) with
            | none => .initial
            | some h =>
              if h.hA ≤ s.act.ztol ∧ h.hB ≤ s.act.ztol ∧ t.line 1 = true ∧ t.line 6 = true then
                (if t.line 12 = true ∧ t.line 14 = true then .seatedLocked else .seated)
              else .halted) ∧
      t.ht.slots[(0 : Fin 12)] =
        { gen := (s.ht.slots[(0 : Fin 12)]).gen,
          record := if t.line 43 = true then some { owner := .panel, kind := .noRaise, reason := 0, age := 0 } else none } ∧
      t.ht.slots[(1 : Fin 12)] =
        { gen := (s.ht.slots[(1 : Fin 12)]).gen,
          record := if t.line 44 = true then some { owner := .panel, kind := .noLower, reason := 0, age := 0 } else none } ∧
      t.ht.slots[(2 : Fin 12)] =
        { gen := (s.ht.slots[(2 : Fin 12)]).gen,
          record := if t.line 37 = true then some { owner := .maintenance, kind := .noMotion, reason := 0, age := 0 } else none } ∧
      t.ht.slots[(3 : Fin 12)] =
        { gen := (s.ht.slots[(3 : Fin 12)]).gen,
          record := if t.line 37 = true then some { owner := .maintenance, kind := .keepClosed, reason := 0, age := 0 } else none }

/-- R6, R189, R192, R193, R195, R73: a pulse is counted, up to 65535, while the windows run; a window's end hands the count over, of
which the latest three give the wind speed, each missing one taken as the newest; a value above the level takes NORMAL to
ALERT_PENDING with the delay in force, and CLEAR_PENDING back to ALERT; a value no higher takes ALERT_PENDING to NORMAL with both
stations' fall flags, and one that is back takes ALERT to CLEAR_PENDING; a delay that goes on has one value less to go. The value at
which the delay ends, above the level, takes ALERT_PENDING to ALERT with both rise flags and halts in UNLOCKING and RAISING; and
takes CLEAR_PENDING to NORMAL with both fall flags where it is back, and else to ALERT. That WIND_DELAY_END as a command is that
whole window end, its count and its speed included, is the model's choice (log 5). -/
def Obligations.WindCountsSpeedAndAlert : Prop :=
  ∀ (s : State), s.iq.windowTimer.isSome = true →
    exec .anemometerPulse s = .next { s with iq := { s.iq with anemometer := min (s.iq.anemometer + 1) 65535 } } ∧
    ∀ v : Nat,
      v = min ((match s.mfs.windows with
        | [] => 3 * s.iq.anemometer
        | [x] => x + 2 * s.iq.anemometer
        | [x, y] => x + y + s.iq.anemometer
        | _ :: l => l.sum + s.iq.anemometer) * s.act.kw.toNat / 64) 999 →
      s.mfs.windows.length ≤ 3 →
      (Gives (exec .windWindowEnd s) fun t =>
        t = { s with iq := t.iq, om := t.om, smc := t.smc, mfs := t.mfs } ∧
        t.iq = { s.iq with anemometer := 0, windowTimer := some 2880000 } ∧ t.mfs.windSpeed = some v ∧
        t.mfs.windows = (if s.mfs.windows.length < 3 then s.mfs.windows else s.mfs.windows.tail) ++ [s.iq.anemometer] ∧
        (s.mfs.wind.state = .normal → s.mfs.wind.delay = none →
          if s.act.windLevel < (v : Int) then
            t.mfs.wind.state = .alertPending ∧ t.mfs.wind.delay = some s.act.windDelay.toNat
          else t.mfs.wind.state = .normal) ∧
        (s.mfs.wind.state = .alertPending → (v : Int) ≤ s.act.windLevel →
          t.mfs.wind.state = .normal ∧ ∀ p, (t.mfs.flags.get p).windFall = true) ∧
        (∀ k, s.mfs.wind.delay = some k → 2 ≤ k →
          (s.mfs.wind.state = .alertPending → s.act.windLevel < (v : Int) →
            t.mfs.wind.state = .alertPending ∧ t.mfs.wind.delay = some (k - 1)) ∧
          (s.mfs.wind.state = .clearPending → (v : Int) ≤ s.act.windLevel →
            t.mfs.wind.state = .clearPending ∧ t.mfs.wind.delay = some (k - 1))) ∧
        (s.mfs.wind.state = .alert → s.mfs.wind.delay = none →
          if (v : Int) ≤ s.act.windLevel ∧ (v : Int) ≤ s.act.windLevel - s.act.windHyst then
            t.mfs.wind.state = .clearPending ∧ t.mfs.wind.delay = some s.act.windDelay.toNat
          else t.mfs.wind.state = .alert ∧ t.mfs.wind.delay = none) ∧
        (s.mfs.wind.state = .clearPending → s.act.windLevel < (v : Int) →
          t.mfs.wind.state = .alert ∧ t.mfs.wind.delay = none ∧ t.mfs.flags = s.mfs.flags) ∧
        (s.mfs.wind.state ≠ .alertPending → s.mfs.wind.delay = none ∨ s.mfs.wind.state ≠ .normal →
          t.smc = s.smc ∧ t.om = s.om)) ∧
      (s.mfs.wind.delay = some 1 →
        (s.mfs.wind.state = .alertPending → s.act.windLevel < (v : Int) →
          Gives (exec .windDelayEnd s) fun t =>
            t = { s with iq := t.iq, om := t.om, smc := t.smc, mfs := t.mfs } ∧ t.mfs.wind.state = .alert ∧
            t.mfs.wind.delay = none ∧ t.mfs.windSpeed = some v ∧ (∀ p, (t.mfs.flags.get p).windRise = true) ∧
            HaltsIn [.unlocking, .raising] s t) ∧
        (s.mfs.wind.state = .clearPending → (v : Int) ≤ s.act.windLevel →
          Gives (exec .windDelayEnd s) fun t =>
            t = { s with iq := t.iq, mfs := t.mfs } ∧ t.mfs.wind.delay = none ∧ t.mfs.windSpeed = some v ∧
            if (v : Int) ≤ s.act.windLevel - s.act.windHyst then
              t.mfs.wind.state = .normal ∧ ∀ p, (t.mfs.flags.get p).windFall = true
            else t.mfs.wind.state = .alert ∧ t.mfs.flags = s.mfs.flags))

/-- R192, R194, R195, R102: the SUPPLY delay's end takes ALERT_PENDING to ALERT, with both stations' rise flags, the road's
suspension and the halt of a motion, an unlocking or a locking (R73); and CLEAR_PENDING to NORMAL where the latest value is back,
with both fall flags and the cause removed, and else back to ALERT without a flag. R104: at the removal of the last cause RCS,
unless it is holding, restarts the interrupted step (what a restart does is stated with no gate function displaced, no obstruction
and every zone clear; that a waiting closure goes on at it is log 11, and the raising phase after EXTINGUISH log 41). -/
def Obligations.SupplyDelayEndsByTheLatestValue : Prop :=
  ∀ s : State, s.mfs.supply.delay.isSome = true →
    (s.mfs.supply.state = .alertPending →
      Gives (exec .supplyDelayExpiry s) fun t =>
        t = { s with om := t.om, smc := t.smc, rcs := t.rcs, pg := t.pg, pau := t.pau, mfs := t.mfs } ∧
        t.mfs.supply.state = .alert ∧ t.mfs.supply.delay = none ∧ t.rcs.causeSupply = true ∧
        (∀ p, (t.mfs.flags.get p).supplyRise = true) ∧
        HaltsIn [.unlocking, .raising, .lowering, .seating, .locking] s t) ∧
    (s.mfs.supply.state = .clearPending →
      Gives (exec .supplyDelayExpiry s) fun t =>
        t = { s with om := t.om, smc := t.smc, rcs := t.rcs, pg := t.pg, pau := t.pau, mfs := t.mfs } ∧
        t.mfs.supply.delay = none ∧
        if s.mfs.supply.latestBack = true then
          t.mfs.supply.state = .normal ∧ t.rcs.causeSupply = false ∧ (∀ p, (t.mfs.flags.get p).supplyFall = true) ∧
          CauseLeaves s t { s.rcs with causeSupply := false }
        else t = { s with mfs := { s.mfs with supply := { s.mfs.supply with state := .alert, delay := none } } })

/-- R14, R15, R16, R75, R76: in CONFIGURED the opening of the E-stop loop sets the protection latch, makes ESTOP ACTIVE, forces
every drive-rank function off with both duties at 0, so that a line that one of them drives stands at its inactive level (R11), and
trips the span; its closing, with line 0 closed or not yet qualified, makes an ACTIVE ESTOP LATCHED and leaves the latch set. In
UNCONFIGURED the latch follows the loop. Line 0 qualifying open reports ESTOP present too, and qualifying closed reports it gone
where the terminal is closed; the latch stands at both, and an entry to ACTIVE trips. -/
def Obligations.EstopLoopLatchesAndTrips : Prop :=
  ∀ s : State,
    (s.configured = true → s.om.latch = false → s.fault 0 ≠ .active →
      Gives (exec .estopLoopOpens s) fun t =>
        t = { s with om := t.om, smc := t.smc, pg := t.pg, pau := t.pau, mfs := t.mfs } ∧
        t.om.loopClosed = false ∧ t.om.latch = true ∧ t.fault 0 = .active ∧ t.smc.motion = .tripped ∧ t.cmd 39 = true ∧
        (∀ f : Fin 40, f.val ≤ 7 → t.om.effective f = false) ∧
        (∀ (l : Fin 48) (f : Fin 40), t.om.winner[l] = some f → f.val ≤ 7 → t.om.energised l = t.om.inverted[l]) ∧
        ∀ w, (t.om.speed.get w).staged = 0 ∧ (t.om.speed.get w).live = 0) ∧
    (s.configured = true → s.iq.qualified = none ∨ s.line 0 = true →
      Gives (exec .estopLoopCloses s) fun t =>
        t.om.loopClosed = true ∧ t.om.latch = s.om.latch ∧
        t.fault 0 = (if s.fault 0 = .active then .latched else s.fault 0) ∧ t = { s with om := t.om, mfs := t.mfs }) ∧
    (s.configured = false →
      exec .estopLoopOpens s = .next { s with om := { s.om with loopClosed := false, latch := true } } ∧
      exec .estopLoopCloses s = .next { s with om := { s.om with loopClosed := true, latch := false } }) ∧
    ∀ (lines : BitVec 48) (lamps : BitVec 15) (level : Bool), s.configured = true → s.qualifies lines 0 level →
      Gives (exec (.samplingInstant lines lamps) s) fun t =>
        let present : Bool := !s.om.loopClosed || !level
        t.om.latch = s.om.latch ∧ t.om.loopClosed = s.om.loopClosed ∧ t.fault 0 = (s.fault 0).report present ∧
        (present = true → s.fault 0 ≠ .active →
          t.mfs.firstTrip = (if s.mfs.firstTrip = none then some 0 else s.mfs.firstTrip) ∧ t.smc.motion = .tripped ∧
          (s.smc.motion ≠ .tripped →
            t.spanIsOff ∧ (∀ w, (t.tower w).phase = .atRest) ∧ t.smc.target = none ∧ t.smc.out = 0)) ∧
        (present = false ∨ s.fault 0 = .active → (∀ f : Fin 40, s.isDisplaced f = false) → SmcStands s t)

/-! ### Measurement and drive (chapters 2 to 4) -/

/-- R12, R14, R18, R26, R61: a drive period boundary copies each staged duty into the live duty, or 0 while the latch is set, starts
a scan under the active settings, with channel 2's record emptied where a commit since the last start has changed its enable, and
takes a tower in RAMPING_DOWN whose live duty is then 0 to SETTING_BRAKE with its brake off and its brake timer at Tbrk; a carrier
period's start takes the live duty then in force and changes nothing else. R11: in every state a line is energised when its polarity
is normal and its winner is on, or inverted and its winner off or missing; a drive-rank winner is off while the latch is set, a
SPEED winner is on for the first duty/1000 ms of its carrier period (R12), and any other is as commanded. -/
def Obligations.BoundaryTransfersDutiesAndStartsScan : Prop :=
  (∀ (s : State) (l : Fin 48),
    let pulse (v : Speed) : Bool := match v.carrierTimer with
      | none => false
      | some r => decide (1000 ≤ v.carrier ∨ (2880 - r) * 1000 < v.carrier * 2880)
    let on (f : Fin 40) : Bool :=
      if f.val ≤ 7 ∧ s.om.latch = true then false
      else if f = 3 then pulse s.om.speed.a else if f = 7 then pulse s.om.speed.b else s.cmd f
    s.om.energised l = (s.om.winner[l].any on != s.om.inverted[l])) ∧
  ∀ s : State,
    (s.smc.periodTimer.isSome = true →
      Gives (exec .drivePeriodBoundary s) fun t =>
        t.smc.periodTimer = some (2880 * s.act.tp.toNat) ∧ t.mu.scan = some s.act ∧ t.mu.set = s.mu.set ∧
        t.mu.seq = s.mu.seq ∧ t.mu.waterChanged = false ∧
        t.mu.channels = (if s.mu.waterChanged then { s.mu.channels with c2 := Channel.empty } else s.mu.channels) ∧
        t = { s with smc := t.smc, om := t.om, mu := t.mu, mfs := t.mfs } ∧ t.smc.motion = s.smc.motion ∧
        ∀ w, (t.om.speed.get w).live = (if s.om.latch then 0 else (s.om.speed.get w).staged) ∧
          if (s.tower w).phase = .rampingDown ∧ (t.om.speed.get w).live = 0 then
            (t.tower w).phase = .settingBrake ∧ (t.tower w).brakeTimer = some (2880 * s.act.tbrk.toNat) ∧
              t.cmd (towerFn w 2) = false ∧ (t.om.speed.get w).staged = 0
          else (t.tower w).phase = (s.tower w).phase ∧ t.cmd (towerFn w 2) = s.cmd (towerFn w 2)) ∧
    ∀ w, (s.om.speed.get w).carrierTimer.isSome = true →
      exec (.carrierPeriodStart w) s =
        .next
          { s with
            om :=
              { s.om with
                speed :=
                  s.om.speed.set w { s.om.speed.get w with carrier := (s.om.speed.get w).live, carrierTimer := some 2880 } } }

/-- R22 to R25, R27 to R29, R40, R42: a scan's completion publishes one set under the next sequence number. The reference is in
range when |q − Qn| × 50 ≤ Qn; a channel out of range, or any channel without a valid reference, is FAULTED; one in range goes from
INVALID or FAULTED to PRIMING and from PRIMING or VALID to VALID; the heights are there exactly when both positions are VALID, with
the span height the lower one and the clearance from it. REF, POS_A, POS_B and WATER are reported by their channels (R32). MFS takes
the supply value of a VALID channel 4 and the SUPPLY monitor its change, with the fall flags at an entry to NORMAL (R190, R192,
R193, R195). While the span stays HOLDING and the opening ADMITTING, PAU calls back each ADMITTED member whose need the clearance no
longer meets, makes an admission test, and reports CLEARANCE_LOW while a TRANSITING member's need exceeds a clearance that the set
carries (R160 to R163). Where the motion state stands, both channel heads are then decided as R165 gives (at the end of the event:
log 9). All this whatever order the reports and the consumers take. -/
def Obligations.ScanCompletionPublishesOneSet : Prop :=
  ∀ (s : State) (codes : RawCodes) (c : Settings), s.mu.scan = some c → 0 < c.qn →
    let q := codes.ch3.toNat
    let good : Bool := decide (((q : Int) - c.qn).natAbs * 50 ≤ c.qn.natAbs)
    let next (old : ChannelState) (inRange : Bool) : ChannelState :=
      if inRange then (match old with | .invalid | .faulted => .priming | .priming | .valid => .valid) else .faulted
    let code (r : BitVec 12) : Nat := min ((r.toNat * c.qn.toNat + q / 2) / q) 4095
    let near (a b : Int) : Int := if 0 ≤ a then (2 * a + b) / (2 * b) else -((-2 * a + b) / (2 * b))
    let within (lo hi : Int) (r : BitVec 12) : Bool :=
      good && decide (lo - 200 ≤ (code r : Int)) && decide ((code r : Int) ≤ hi + 200)
    Gives (exec (.scanCompletion codes) s) fun t =>
      t.pending = s.pending ∧ t.cs = s.cs ∧ t.iq = s.iq ∧ t.rcs = s.rcs ∧ t.ht = s.ht ∧ t.sp = s.sp ∧
      ∃ m, t.mu.set = some m ∧ m.seq = s.mu.seq ∧ t.mu.seq = (s.mu.seq + 1) % 65536 ∧ t.mu.scan = none ∧
        t.mu.channels.c3.state = next s.mu.channels.c3.state good ∧
        t.mu.channels.c0.state = next s.mu.channels.c0.state (within c.cseatA c.ctopA codes.ch0) ∧
        t.mu.channels.c1.state = next s.mu.channels.c1.state (within c.cseatB c.ctopB codes.ch1) ∧
        t.mu.channels.c4.state = next s.mu.channels.c4.state good ∧
        (if c.waterEnabled then
          t.mu.channels.c2.state = next s.mu.channels.c2.state (within c.cw0 c.cw1 codes.ch2)
         else t.mu.channels.c2 = s.mu.channels.c2) ∧
        (t.mu.channels.c0.state = .valid → t.mu.channels.c0.held = some (code codes.ch0)) ∧
        m.channels.c0.state = t.mu.channels.c0.state ∧ m.channels.c1.state = t.mu.channels.c1.state ∧
        (m.heights.isSome = true ↔ t.mu.channels.c0.state = .valid ∧ t.mu.channels.c1.state = .valid) ∧
        (∀ h, m.heights = some h →
          h.hA = near (((code codes.ch0 : Int) - c.cseatA) * c.hfull) (c.ctopA - c.cseatA) ∧
          h.hB = near (((code codes.ch1 : Int) - c.cseatB) * c.hfull) (c.ctopB - c.cseatB) ∧
          h.hs = min h.hA h.hB ∧ h.skew = h.hA - h.hB ∧ h.clearanceMm = c.e0 + h.hs - m.water ∧
          h.clearanceCm = max 0 (h.clearanceMm / 10)) ∧
        (m.measured = true ↔ c.waterEnabled = true ∧ t.mu.channels.c2.state = .valid) ∧
        (m.measured = true →
          m.water = max (c.wlow - 500) (min (c.whigh + 500)
            (c.wlow + near (((code codes.ch2 : Int) - c.cw0) * (c.whigh - c.wlow)) (c.cw1 - c.cw0)))) ∧
        (m.measured = false → m.water = c.wdesign) ∧
        t.fault 5 = (s.fault 5).report (decide (t.mu.channels.c3.state = .faulted)) ∧
        t.fault 3 = (s.fault 3).report (decide (t.mu.channels.c0.state = .faulted)) ∧
        t.fault 4 = (s.fault 4).report (decide (t.mu.channels.c1.state = .faulted)) ∧
        t.fault 35 = (s.fault 35).report (c.waterEnabled && decide (t.mu.channels.c2.state = .faulted)) ∧
        (t.mu.channels.c4.state ≠ .valid →
          t.mfs.supplyValue = s.mfs.supplyValue ∧ t.mfs.supply = s.mfs.supply ∧ t.mfs.flags = s.mfs.flags) ∧
        (t.mu.channels.c4.state = .valid →
          ∃ v : Nat, t.mfs.supplyValue = some v ∧ v = code codes.ch4 * s.act.ksup.toNat / 1024 ∧
            let crossed := (v : Int) < s.act.supplyLevel
            let back := s.act.supplyLevel + s.act.supplyHyst ≤ (v : Int)
            let fresh := some (2880 * s.act.supplyDelay.toNat)
            t.mfs.supply.latestBack = decide (¬crossed ∧ back) ∧
            (t.mfs.supply.state, t.mfs.supply.delay) =
              (match s.mfs.supply.state with
               | .normal => if crossed then (.alertPending, fresh) else (.normal, s.mfs.supply.delay)
               | .alertPending => if crossed then (.alertPending, s.mfs.supply.delay) else (.normal, none)
               | .alert => if ¬crossed ∧ back then (.clearPending, fresh) else (.alert, s.mfs.supply.delay)
               | .clearPending => if crossed then (.alert, none) else (.clearPending, s.mfs.supply.delay)) ∧
            ∀ p, t.mfs.flags.get p =
              if s.mfs.supply.state = .alertPending ∧ ¬crossed then { s.mfs.flags.get p with supplyFall := true }
              else s.mfs.flags.get p) ∧
        (t.smc.motion = s.smc.motion → t.aspectsDecided) ∧
        (s.pau.opening.state = .admitting → s.smc.motion = .holding → t.smc.motion = .holding →
          let clear : Option Int := m.heights.map (·.clearanceCm)
          (∃ u : State, u = { s with mu := t.mu, pau := u.pau } ∧
            CalledBack { s with mu := t.mu } u (fun r => !clear.any fun x => (r.need s.act : Int) ≤ x) ∧
            AdmissionTested u t) ∧
          t.fault 34 = (match clear with
            | none => s.fault 34
            | some x => (s.fault 34).report (s.pau.opening.members.any fun h =>
                (s.passage h).any fun r => r.state = .transiting && decide (x < (r.need s.act : Int)))))

/-- R45: a passage is reachable exactly when its required lift is at most Hfull; and at one water elevation the clearance in
centimetres meets a need exactly when the clearance in millimetres does, that is, exactly when the span height is at least ten times
the need less E0 − w, so that a span at or above the required lift gives the passage its need. -/
def Obligations.ClearanceMeetsNeedExactlyAtTheLift : Prop :=
  (∀ (s : State) (need : Nat), s.reachable need = true ↔ (s.liftOf need : Int) ≤ s.act.hfull) ∧
  (∀ (c : Settings) (a b : Nat) (w : Int) (need : Nat), 1 ≤ need →
    ((need : Int) ≤ (heightsOf c a b w).clearanceCm ↔ (need : Int) * 10 ≤ (heightsOf c a b w).clearanceMm) ∧
    ((need : Int) ≤ (heightsOf c a b w).clearanceCm ↔ (need : Int) * 10 - (c.e0 - w) ≤ (heightsOf c a b w).hs)) ∧
  ∀ (s : State) (a b need : Nat), 1 ≤ need → (s.liftOf need : Int) ≤ (heightsOf s.act a b s.water).hs →
    (need : Int) ≤ (heightsOf s.act a b s.water).clearanceCm

/-- R46 to R51: at each completion under speed control the common output moves toward the demand by at most Racc up and Rdec down,
and reaches it within that step; it is 0 while a tower waits to ramp. The demand is that of the distance, 0 in a stop or without
heights, and Vcreep in SEATING; it lies from 0 to Vmax and is 0 within Ztol. Each running tower's staged duty is its candidate, the
output less the trim, within the greater of Racc and Rdec of the live duty. R65: a raise within Ztol of its target begins its
ARRIVAL stop. R67: a lowering at or below Zcreep enters SEATING, where a tower whose seat is made is seated at once. R58: INITIAL is
left. R53, R78: SKEW and OVERTRAVEL are reported, and their entry to ACTIVE, or POS_A's, POS_B's or REF's where R76 lists the state,
trips. That the demand is 0 in every stop is the model's reading (log 7), and so is no trim without a skew (log 8). -/
def Obligations.OutputSlewsAndReferencesAreLimited : Prop :=
  (∀ c : Settings, 0 ≤ c.racc → 0 ≤ c.rdec →
    (∀ (out : Nat) (d : Int), 0 ≤ d →
      ((slew c out d : Int) - out ≤ c.racc ∧ (out : Int) - slew c out d ≤ c.rdec) ∧
      ((out : Int) - c.rdec ≤ d → d ≤ out + c.racc → (slew c out d : Int) = d) ∧
      ((slew c out d : Int) ≤ max (out : Int) d ∧ min (out : Int) d ≤ slew c out d)) ∧
    (∀ d : Int, 0 ≤ c.vcreep → c.vcreep ≤ c.vmax → c.zcreep < c.zslow → c.ztol ≤ c.zcreep →
      0 ≤ demand c d ∧ demand c d ≤ c.vmax ∧ (d ≤ c.ztol → demand c d = 0) ∧
      (c.ztol < d → d ≤ c.zcreep → demand c d = c.vcreep) ∧ (c.zslow ≤ d → demand c d = c.vmax)) ∧
    ∀ (live : Nat) (cand : Int), 0 ≤ cand →
      ((limitRef c live cand : Int) - live ≤ max c.racc c.rdec ∧ (live : Int) - limitRef c live cand ≤ max c.racc c.rdec) ∧
      ((live : Int) - max c.racc c.rdec ≤ cand → cand ≤ live + max c.racc c.rdec → (limitRef c live cand : Int) = cand)) ∧
  ∀ (s : State) (codes : RawCodes), s.mu.scan.isSome = true →
    Gives (exec (.scanCompletion codes) s) fun t =>
      ∃ m, t.mu.set = some m ∧
      let c := s.act
      let enters (f : Fin 37) : Prop := t.fault f = .active ∧ s.fault f ≠ .active
      let moving := s.smc.motion = .raising ∨ s.smc.motion = .lowering ∨ s.smc.motion = .seating
      let trips := enters 1 ∨ enters 2 ∨
        ((moving ∨ s.smc.motion = .unlocking ∨ s.smc.motion = .holding) ∧ (enters 3 ∨ enters 4 ∨ enters 5))
      let arrives := s.smc.motion = .raising ∧ s.smc.stop = .none ∧
        ∃ h, m.heights = some h ∧ ((s.smc.target.getD 0 : Nat) : Int) - h.hs ≤ c.ztol
      let seats := s.smc.motion = .lowering ∧ s.smc.stop = .none ∧ ∃ h, m.heights = some h ∧ max h.hA h.hB ≤ c.zcreep
      (∀ h, m.heights = some h →
        t.smc.skewWarning = decide (c.salarm ≤ (h.skew.natAbs : Int)) ∧
        t.fault 1 = (s.fault 1).report (decide (c.strip ≤ (h.skew.natAbs : Int))) ∧
        t.smc.heightOver = decide (c.hfull + 100 < h.hA ∨ c.hfull + 100 < h.hB) ∧
        t.fault 2 = (s.fault 2).report
          (t.smc.heightOver || (s.iq.qualified.isSome && (!s.line 2 || !s.line 7)))) ∧
      (m.heights = none → t.fault 1 = s.fault 1 ∧ t.fault 2 = s.fault 2 ∧ t.smc.skewWarning = s.smc.skewWarning ∧
        t.smc.heightOver = s.smc.heightOver) ∧
      (trips → s.smc.motion ≠ .tripped → t.smc.motion = .tripped ∧ t.spanIsOff ∧ t.smc.out = 0 ∧ t.smc.target = none) ∧
      (¬trips →
        (arrives →
          t.smc.attendance = .stopped ∧ t.smc.target = s.smc.target ∧ (∀ w, (t.tower w).phase = (s.tower w).phase.stopped) ∧
          if (s.tower .a).phase.stopped = .atRest ∧ (s.tower .b).phase.stopped = .atRest then
            t.smc.motion = .holding ∧ t.smc.stop = .none
          else t.smc.motion = .raising ∧ t.smc.stop = .arrival) ∧
        (seats →
          t.smc.target = none ∧
          (∀ w, (t.tower w).seated = s.line (towerLine w 0) ∧
            (t.tower w).phase = if s.line (towerLine w 0) = true then (s.tower w).phase.stopped else (s.tower w).phase) ∧
          if s.line 1 = true ∧ s.line 6 = true then
            t.smc.seatTimer = none ∧
            if (s.tower .a).phase.stopped = .atRest ∧ (s.tower .b).phase.stopped = .atRest then
              t.smc.motion ∈ [Motion.locking, .seatedLocked, .seated]
            else t.smc.motion = .seating ∧ t.smc.stop = .none
          else t.smc.motion = .seating ∧ t.smc.stop = .none ∧ t.smc.seatTimer = some (2880000 * c.seatTime.toNat)) ∧
        (¬arrives → ¬seats →
          t.smc.stop = s.smc.stop ∧ t.smc.target = s.smc.target ∧ (∀ w, (t.tower w).phase = (s.tower w).phase) ∧
          (s.smc.motion ≠ .initial → t.smc.motion = s.smc.motion)) ∧
        (s.smc.motion = .initial →
          t.smc.motion = (match m.heights with
            | none => .initial
            | some h =>
              if s.iq.qualified.isSome = false then .initial
              else if h.hA ≤ c.ztol ∧ h.hB ≤ c.ztol ∧ s.line 1 = true ∧ s.line 6 = true then
                (if s.line 12 = true ∧ s.line 14 = true then .seatedLocked else .seated)
              else .halted)) ∧
        (t.smc.motion = .raising ∨ t.smc.motion = .lowering ∨ t.smc.motion = .seating →
          let d : Int :=
            if t.smc.stop ≠ .none then 0
            else match m.heights with
              | none => 0
              | some h =>
                if t.smc.motion = .seating then c.vcreep
                else demand c (if t.smc.motion = .raising then ((s.smc.target.getD 0 : Nat) : Int) - h.hs else max h.hA h.hB)
          let waits (w : Tower) : Prop := (t.tower w).phase = .waitingReversal ∨ (t.tower w).phase = .releasingBrake
          t.smc.out = (if waits .a ∨ waits .b then 0 else slew c s.smc.out d) ∧
          ∀ w, (t.om.speed.get w).live = (s.om.speed.get w).live ∧
            (t.om.speed.get w).staged =
              if (t.tower w).phase = .running ∨ (t.tower w).phase = .rampingDown then
                limitRef c (s.om.speed.get w).live
                  (if t.smc.motion = .seating then (if (t.tower w).seated = true then 0 else (t.smc.out : Int))
                   else match m.heights with
                     | none => (t.smc.out : Int)
                     | some h =>
                       let leads := if t.smc.motion = .raising then (if w = .a then 0 < h.skew else h.skew < 0)
                         else (if w = .a then h.skew < 0 else 0 < h.skew)
                       max 0 ((t.smc.out : Int) -
                         if leads then min ((h.skew.natAbs : Int) * c.ktrim / 16) c.tmax else 0))
              else 0))

/-- R59 to R61, R65: the brake timer's expiry takes RELEASING_BRAKE to RUNNING with the brake released; and SETTING_BRAKE to AT_REST
with both direction lines off and the direction that was on leaving the other blocked for Tdead, which ends the stop where the other
tower is at rest too; a HOLDING so entered makes a GATHERED opening ADMITTING, with an admission test, or closes one without members
(R157), and decides both channel heads as R165 gives (at the end of the event: log 9); under the stop kind NONE, SEATING with both
towers seated enters LOCKING, with DRIVE on for each lock that is not driven- proven, and passes through it at once where both are
(R67, R68); that the common output is 0 from there on is the model's reading (log 35). The reversal interval's expiry empties the
record, and a tower that waits for it then has its direction line on and waits in RELEASING_BRAKE for Tbrk. -/
def Obligations.TowerTimersFollowThePhases : Prop :=
  ∀ (s : State) (w : Tower),
    (∀ r, (s.tower w).phase = .releasingBrake → (s.tower w).brakeTimer = some r →
      Gives (exec (.brakeTimerExpiry w) s) fun t =>
        (t.tower w).phase = .running ∧ (t.tower w).brakeTimer = none ∧
        t = { s with om := t.om, smc := t.smc, mfs := t.mfs } ∧
        (∀ f, f ≠ towerFn w 2 → f ≠ 39 → t.cmd f = s.cmd f) ∧ t.cmd (towerFn w 2) = true ∧ t.smc.motion = s.smc.motion) ∧
    (∀ r, (s.tower w).phase = .settingBrake → (s.tower w).brakeTimer = some r →
      (s.cmd (towerFn w 0) != s.cmd (towerFn w 1)) = true →
      Gives (exec (.brakeTimerExpiry w) s) fun t =>
        t = { s with om := t.om, smc := t.smc, pg := t.pg, pau := t.pau, mfs := t.mfs } ∧
        (t.tower w).phase = .atRest ∧ t.cmd (towerFn w 0) = false ∧ t.cmd (towerFn w 1) = false ∧
        (t.tower w).reversal =
          some { blocked := if s.cmd (towerFn w 0) then .lower else .raise, remaining := 2880 * s.act.tdead.toNat } ∧
        ((s.tower (match w with | .a => .b | .b => .a)).phase = .atRest →
          (s.smc.motion = .raising ∨ s.smc.motion = .lowering ∨ s.smc.motion = .seating) →
          (s.smc.stop = .halt ∨ s.smc.stop = .quick → t.smc.motion = .halted ∧ t.smc.stop = .none ∧ t.smc.target = none) ∧
          (s.smc.stop = .arrival → t.smc.motion = .holding ∧ t.smc.stop = .none ∧ t.smc.target = s.smc.target ∧
            (s.pau.opening.state ≠ .gathered → t.pau = s.pau) ∧
            (s.pau.opening.state = .gathered → t.aspectsDecided ∧
              (s.pau.opening.members = [] → t.pau.opening.state = .closingChannel ∨ t.pau.opening.state = .none) ∧
              (s.pau.opening.members ≠ [] →
                AdmissionTested { s with pau := { s.pau with opening := { s.pau.opening with state := .admitting } } } t))) ∧
          (s.smc.stop = .none → s.smc.motion = .seating →
            if (s.tower .a).seated = true ∧ (s.tower .b).seated = true then
              t.smc.stop = .none ∧ t.smc.attendance = .stopped ∧ t.smc.seatTimer = none ∧ t.smc.out = 0 ∧
              if s.line 12 = true ∧ s.line 14 = true then
                t.smc.motion = (if s.line 1 = true ∧ s.line 6 = true then .seatedLocked else .seated) ∧ t.cmd 8 = false ∧
                t.cmd 10 = false ∧ t.smc.lockTimer = none
              else
                t.smc.motion = .locking ∧ (t.cmd 8 = !s.line 12) ∧ (t.cmd 10 = !s.line 14) ∧
                t.smc.lockTimer = some (2880000 * s.act.lockTravel.toNat)
            else t.smc.motion = .seating ∧ t.smc.stop = .none)) ∧
        ((s.tower (match w with | .a => .b | .b => .a)).phase ≠ .atRest →
          t.smc.motion = s.smc.motion ∧ t.smc.stop = s.smc.stop)) ∧
    (∀ v, (s.tower w).reversal = some v →
      Gives (exec (.reversalIntervalExpiry w) s) fun t =>
        t = { s with om := t.om, smc := t.smc, mfs := t.mfs } ∧
        (t.tower w).reversal = none ∧ t.smc.motion = s.smc.motion ∧
        if (s.tower w).phase = .waitingReversal then
          (t.tower w).phase = .releasingBrake ∧ (t.tower w).brakeTimer = some (2880 * s.act.tbrk.toNat) ∧
            t.cmd (towerFn w (if s.smc.motion = .raising then 0 else 1)) = true
        else
          t = { s with smc := { s.smc with towers := s.smc.towers.set w { s.tower w with reversal := none } } })

/-- R79, R75, R57: the lock travel timer's expiry trips the span with LOCK_PROVE and the seat timer's with SEAT_TIMEOUT, which is
reported present and, the trip taken, absent: the fault is LATCHED, the first trip fault is set, and in TRIPPED every RAISE, LOWER,
BRAKE_RELEASE and lock command is off, both towers are AT_REST and both duties are 0. A lock's withdrawn proving that is lost trips
with LOCK_PROVE in the same way while the state is RAISING, HOLDING, LOWERING or SEATING or a RAISE, LOWER or BRAKE_RELEASE command
is on, and else changes no motion state. -/
def Obligations.LockAndSeatTimeoutsTrip : Prop :=
  (∀ (s : State) (lines : BitVec 48) (lamps : BitVec 15) (l : Fin 48), l = 11 ∨ l = 13 → s.qualifies lines l false →
    ¬(s.smc.motion ∈ [Motion.raising, .holding, .lowering, .seating] ∨ ∃ f ∈ [0, 1, 2, 4, 5, 6], s.cmd f = true) →
    Gives (exec (.samplingInstant lines lamps) s) fun t =>
      t = { s with iq := t.iq, om := t.om, smc := t.smc, mfs := t.mfs } ∧ t.smc = { s.smc with towers := t.smc.towers } ∧
      t.fault 10 = s.fault 10) ∧
  ∀ (s : State) (c : Instr) (f : Fin 37), s.smc.motion ≠ .tripped → s.fault f ≠ .active →
    ((c = .lockTravelTimeout ∧ f = 10 ∧ s.smc.lockTimer.isSome = true) ∨
      (c = .seatTimeout ∧ f = 11 ∧ s.smc.seatTimer.isSome = true) ∨
      (f = 10 ∧ (∃ lines lamps l, c = .samplingInstant lines lamps ∧ (l = 11 ∨ l = 13) ∧ s.qualifies lines l false) ∧
        (s.smc.motion ∈ [Motion.raising, .holding, .lowering, .seating] ∨ ∃ f ∈ [0, 1, 2, 4, 5, 6], s.cmd f = true))) →
    Gives (exec c s) fun t =>
      t.fault f = .latched ∧ t.smc.motion = .tripped ∧ t.smc.stop = .none ∧ t.smc.target = none ∧ t.spanIsOff ∧
      (∀ w, (t.tower w).phase = .atRest) ∧ t.smc.lockTimer = none ∧ t.smc.seatTimer = none ∧
      (t.mfs.firstTrip = if s.mfs.firstTrip = none then some f else s.mfs.firstTrip) ∧ t.cmd 39 = true ∧
      t = { s with iq := t.iq, om := t.om, smc := t.smc, pg := t.pg, pau := t.pau, mfs := t.mfs } ∧
      ((∀ lines lamps, c ≠ .samplingInstant lines lamps) → t.iq = s.iq)

/-- R77: a proving line that changes (lines 3 to 5 and 8 to 10), or a command that does (a brake released at the end of
RELEASING_BRAKE), starts the disagreement timer of a comparison that begins to disagree, cancels it where it agrees again, and
reports the condition absent where every comparison of its fault agrees; nothing else changes in SMC. R78: an ultimate limit line (2
and 7) that changes has OVERTRAVEL reported, present while the height part or either line holds, and its entry to ACTIVE trips. R77,
R75, R76: the expiry of a disagreement timer reports the condition of its tower's contactors or brake present; where that fault was
not ACTIVE and the span not TRIPPED, the span trips and the fault is the first trip fault if there was none. After it the fault is
ACTIVE while a comparison of it still disagrees, each proving line being held against its command as the latch modifies it, and
LATCHED where with the trip's commands off they agree, from qualification complete on. -/
def Obligations.DisagreementExpiryTrips : Prop :=
  (∀ (s : State) (lines : BitVec 48) (lamps : BitVec 15) (l : Fin 48) (level : Bool),
    l ∈ ([3, 4, 5, 8, 9, 10] : List (Fin 48)) → s.qualifies lines l level →
    Gives (exec (.samplingInstant lines lamps) s) fun t =>
      t = { s with iq := t.iq, om := t.om, smc := t.smc, mfs := t.mfs } ∧ SmcStands s t ∧ ComparedFrom s t ∧
        ∀ f, f ≠ 39 → t.cmd f = s.cmd f) ∧
  (∀ (s : State) (w : Tower), (s.tower w).phase = .releasingBrake → (s.tower w).brakeTimer.isSome = true →
    s.iq.qualified.isSome = true → Gives (exec (.brakeTimerExpiry w) s) fun t => ComparedFrom s t) ∧
  (∀ (s : State) (lines : BitVec 48) (lamps : BitVec 15) (l : Fin 48) (level : Bool), l = 2 ∨ l = 7 →
    s.qualifies lines l level →
    Gives (exec (.samplingInstant lines lamps) s) fun t =>
      t.fault 2 = (s.fault 2).report (s.smc.heightOver || !t.line 2 || !t.line 7) ∧
      if t.fault 2 = .active ∧ s.fault 2 ≠ .active then
        t.smc.motion = .tripped ∧ t.mfs.firstTrip = (if s.mfs.firstTrip = none then some 2 else s.mfs.firstTrip) ∧
        (s.smc.motion ≠ .tripped → t.spanIsOff ∧ (∀ w, (t.tower w).phase = .atRest) ∧ t.smc.target = none)
      else SmcStands s t ∧ t = { s with iq := t.iq, om := t.om, smc := t.smc, mfs := t.mfs }) ∧
  ∀ (s : State) (w : Tower) (k : Proving) (r : Ticks),
    (match k with
      | .raiseAux => (s.tower w).raiseCmp | .lowerAux => (s.tower w).lowerCmp | .brake => (s.tower w).brakeCmp) =
      .disagrees r →
    let f : Fin 37 := (match k, w with
      | .brake, .a => 8 | .brake, .b => 9 | .raiseAux, .a | .lowerAux, .a => 6 | .raiseAux, .b | .lowerAux, .b => 7)
    Gives (exec (.disagreementTimerExpiry w k) s) fun t =>
      let agrees (line : Fin 5) (fn : Fin 4) : Prop := s.line (towerLine w line) = (t.cmd (towerFn w fn) && !s.om.latch)
      t = { s with om := t.om, smc := t.smc, pg := t.pg, pau := t.pau, mfs := t.mfs } ∧
      t.fault f =
        (if s.iq.qualified.isSome = true ∧ (if k = .brake then agrees 4 2 else agrees 2 0 ∧ agrees 3 1) then .latched
         else .active) ∧
      (s.fault f ≠ .active → s.smc.motion ≠ .tripped →
        t.smc.motion = .tripped ∧ t.spanIsOff ∧ (∀ v, (t.tower v).phase = .atRest) ∧ t.smc.target = none ∧
        t.mfs.firstTrip = if s.mfs.firstTrip = none then some f else s.mfs.firstTrip) ∧
      (s.fault f = .active ∨ s.smc.motion = .tripped →
        t.smc = { s.smc with towers := t.smc.towers } ∧ (∀ v, (t.tower v).phase = (s.tower v).phase) ∧ t.pau = s.pau ∧
        ∀ g, g ≠ 39 → t.cmd g = s.cmd g)

/-! ### The road's timers (chapter 5) -/

/-- R93, R94, R86, R99, R105: the prewarn timer's expiry waits for the heads while one of the four is impaired, and else lowers the
entry gates, with the traffic heads RED; the amber timer's sets the traffic heads RED in PREWARN; the clearing timer's takes the
road out of CLEARING where W1 and W3 are down-proven and unobstructed and the motors may run, and else leaves its mark; the
extinguish timer's opens the road with the budget at Bmax and its clock stopped, and the warning heads DARK. In CLEARING a deck
loop's change stops the clearing timer while a loop is occupied, and starts it from Tclear with both clear, while RCS is suspended
too (R94, R103); that it does so to a timer that has expired and waits for W1 and W3 too is the model's reading (log 21). A loop
that becomes occupied halts in UNLOCKING and RAISING (R73), and one that clears changes nothing in SMC. R102 to R104: the interlock
loop, line 0, qualifying open suspends RCS: every gate function goes off and every travel timer stops, while the road, the commands
and the step timers stand. Qualifying closed it takes that cause away; where it was the last and RCS is not holding, each gate of
the step that is not at its position is driven again with a fresh travel timer, and the road goes past every step that has ended
meanwhile, a closure that waits for the heads included where none is impaired (the model's reading: log 11). The raising phase
outside GATE_RAISING is the model's choice (log 41). -/
def Obligations.RoadStepTimersAdvanceTheRoad : Prop :=
  (∀ s : State, s.rcs.suspended = false →
    (s.rcs.road = .prewarn → s.rcs.prewarn.isSome = true →
      let impaired := s.pg.impaired.warnN || s.pg.impaired.warnS || s.pg.impaired.trafN || s.pg.impaired.trafS
      (impaired = true →
        exec .prewarnTimerExpiry s = .next { s with rcs := { s.rcs with prewarn := none, waitingHeads := true } }) ∧
      (impaired = false →
        Gives (exec .prewarnTimerExpiry s) fun t =>
          t = { s with om := t.om, smc := t.smc, rcs := t.rcs, pg := t.pg, pau := t.pau, mfs := t.mfs } ∧
          (t.rcs.road = .entryLowering ∨ t.rcs.road = .clearing) ∧ t.rcs.prewarn = none ∧ t.rcs.trafAspect = .red ∧
          ∀ g, g = .w1 ∨ g = .w3 → s.rcs.holding = false → s.isDisplaced (gateDownFn .w1) = false →
            s.isDisplaced (gateDownFn .w3) = false → (s.gate g).obstructed = false → s.zoneClear .w1 = true →
            s.zoneClear .w3 = true → (s.gate .w1).obstructed = false → (s.gate .w3).obstructed = false →
            (s.gate g).pos ≠ .down →
            (t.gate g).cmd = .down ∧ t.cmd (gateDownFn g) = true ∧
              (t.gate g).travel = some (2880000 * s.act.gateTime.toNat))) ∧
    (s.rcs.road = .prewarn → s.rcs.amber.isSome = true →
      Gives (exec .amberTimerExpiry s) fun t =>
        t.rcs = { s.rcs with amber := none, trafAspect := .red } ∧ t = { s with rcs := t.rcs, pg := t.pg, om := t.om }) ∧
    (∀ r, s.rcs.road = .clearing → s.rcs.clearing = .running r →
      Gives (exec .clearingTimerExpiry s) fun t =>
        if (s.gate .w1).pos = .down ∧ (s.gate .w3).pos = .down ∧ (s.gate .w1).obstructed = false ∧
            (s.gate .w3).obstructed = false ∧ s.rcs.holding = false then
          t = { s with om := t.om, smc := t.smc, rcs := t.rcs, pg := t.pg, pau := t.pau, mfs := t.mfs } ∧
          (t.rcs.road = .exitLowering ∨ t.rcs.road = .barrierLowering ∨ t.rcs.road = .sealed)
        else t = { s with rcs := { s.rcs with clearing := .expired } }) ∧
    (s.rcs.road = .extinguish → s.rcs.extinguish.isSome = true →
      Gives (exec .extinguishTimerExpiry s) fun t =>
        t.rcs = { s.rcs with road := .isOpen, extinguish := none, budget := s.act.bmax.toNat, budgetTimer := none,
                             warnAspect := .dark } ∧
        t = { s with rcs := t.rcs, pg := t.pg, om := t.om })) ∧
  (∀ (u : State) (lines : BitVec 48) (lamps : BitVec 15) (l : Fin 48) (level : Bool), l = 31 ∨ l = 32 →
    u.qualifies lines l level →
    Gives (exec (.samplingInstant lines lamps) u) fun t =>
      t = { u with iq := t.iq, om := t.om, smc := t.smc, rcs := t.rcs, mfs := t.mfs } ∧
      t.rcs = (if u.rcs.road = .clearing then
        { u.rcs with
          clearing := if t.line 31 = true ∧ t.line 32 = true then .running (2880000 * u.act.tclear.toNat) else .stopped }
       else u.rcs) ∧
      if level = true then SmcStands u t else HaltsIn [.unlocking, .raising] u t) ∧
  ∀ (u : State) (lines : BitVec 48) (lamps : BitVec 15) (level : Bool), u.qualifies lines 0 level →
    Gives (exec (.samplingInstant lines lamps) u) fun t =>
      t.rcs.causeLoop = (!level) ∧
      (level = false →
        t.rcs = { u.rcs with causeLoop := true, gates := t.rcs.gates } ∧
        ∀ g, t.gate g = (if u.rcs.suspended = true then u.gate g else { u.gate g with travel := none }) ∧
          (u.rcs.suspended = false → t.cmd (gateDownFn g) = false ∧ t.cmd (gateUpFn g) = false)) ∧
      (level = true → CauseLeaves u t { u.rcs with causeLoop := false })

/-- R91, R102, R103, R95, R96: the travel timer's expiry turns the gate's command off and leaves its GATE fault LATCHED with the
road suspended and every gate motor off. The settle timer's expiry of an obstructed gate at the top clears the flag and drives it
DOWN again with a fresh travel timer, or records DOWN, with no motor and no timer, while RCS is suspended or holding; of one not yet
there it leaves its mark, and the marked gate comes down when it becomes up-proven with its zone clear. R90, R94, R97, R99: with the
motors free to run, a gate that reaches its commanded position stops, and the road goes past every step all of whose gates are then
at their positions with no obstruction; a gate of the step found off its position with no command is driven there again. R98: in
SEALED a gate's GATE condition follows its down-proving. R95, R96: a zone that becomes occupied under a gate going DOWN sends it UP
obstructed, one still proven up stays there, and an obstructed gate's zone that clears starts the settle timer. While RCS is
suspended or holding, a gate of the step that loses its proving has the drive recorded as its command, with no motor and no timer,
and its zone watched (R90, R94, R103). A GATE fault that becomes ACTIVE halts in RAISING, HOLDING, LOWERING and SEATING (R73). That
a settle timer of a gate not yet up-proven is only marked while RCS is suspended too is the model's choice (log 40), and so are a
drive recorded then through a displaced function, which is reported only when the restart makes it (log 37), and the raising phase
outside GATE_RAISING (log 41). -/
def Obligations.GateTimersFaultOrLowerAgain : Prop :=
  ∀ (s : State) (g : Gate),
    ((s.gate g).travel.isSome = true → s.rcs.suspended = false →
      Gives (exec (.gateTravelTimeout g) s) fun t =>
        t = { s with om := t.om, smc := t.smc, rcs := t.rcs, pg := t.pg, pau := t.pau, mfs := t.mfs } ∧
        (t.gate g).cmd = .none ∧ (t.gate g).travel = none ∧ t.fault (gateFault g) = .latched ∧ t.rcs.causeGate = true ∧
        (if s.fault (gateFault g) = .active then SmcStands s t else HaltsIn [.raising, .holding, .lowering, .seating] s t) ∧
        t.rcs.road = s.rcs.road ∧ ∀ g', t.cmd (gateDownFn g') = false ∧ t.cmd (gateUpFn g') = false) ∧
    (∀ r, Gate.isWarning g = true → (s.gate g).settle = .running r →
      ((s.gate g).pos ≠ .up →
        exec (.settleTimerExpiry g) s =
          .next { s with rcs := { s.rcs with gates := s.rcs.gates.set g { s.gate g with settle := .expired } } }) ∧
      ((s.gate g).pos = .up → s.zoneClear g = true → s.isDisplaced (gateDownFn g) = false →
        s.rcs.suspended = false → s.rcs.holding = false →
        Gives (exec (.settleTimerExpiry g) s) fun t =>
          t.gate g = { s.gate g with obstructed := false, settle := .stopped, cmd := .down,
                                     travel := some (2880000 * s.act.gateTime.toNat) } ∧
          t.cmd (gateDownFn g) = true ∧ t.cmd (gateUpFn g) = false ∧ t = { s with rcs := t.rcs, om := t.om }) ∧
      ((s.gate g).pos = .up → s.zoneClear g = true → s.rcs.suspended = true ∨ s.rcs.holding = true →
        Gives (exec (.settleTimerExpiry g) s) fun t =>
          t.gate g = { s.gate g with obstructed := false, settle := .stopped, cmd := .down, travel := none } ∧
          t.cmd (gateDownFn g) = false ∧ t.cmd (gateUpFn g) = false ∧ t = { s with rcs := t.rcs, om := t.om })) ∧
    (∀ (lines : BitVec 48) (lamps : BitVec 15) (l : Fin 48) (level : Bool), l = gateUpLine g ∨ l = gateDownLine g →
      s.qualifies lines l level →
      (s.rcs.road = .sealed →
        Gives (exec (.samplingInstant lines lamps) s) fun t =>
          t.rcs.road = .sealed ∧ t.fault (gateFault g) = (s.fault (gateFault g)).report (decide ((t.gate g).pos ≠ .down)) ∧
          if t.fault (gateFault g) = .active ∧ s.fault (gateFault g) ≠ .active then
            t.rcs.causeGate = true ∧ HaltsIn [.raising, .holding, .lowering, .seating] s t
          else SmcStands s t) ∧
      (s.rcs.road ≠ .sealed → s.rcs.suspended = false → s.rcs.holding = false → (∀ f : Fin 40, s.isDisplaced f = false) →
        (s.gate g).obstructed = false → s.zoneClear g = true →
        Gives (exec (.samplingInstant lines lamps) s) fun t =>
          let reached : Prop := ((s.gate g).cmd = .down ∧ (t.gate g).pos = .down) ∨ ((s.gate g).cmd = .up ∧ (t.gate g).pos = .up)
          (reached → (∀ c, (g, c) ∈ stepGates s.rcs.road s.rcs.phase → cmdPos c = some (t.gate g).pos) →
            (t.rcs.road, t.rcs.phase) = (s.rcs.road, s.rcs.phase) →
            (t.gate g).cmd = .none ∧ (t.gate g).travel = none ∧ t.cmd (gateDownFn g) = false ∧ t.cmd (gateUpFn g) = false) ∧
          (∀ c p, (g, c) ∈ stepGates s.rcs.road s.rcs.phase → cmdPos c = some p → (s.gate g).cmd = .none ∨ reached →
            (t.gate g).pos ≠ p →
            t.gate g = { s.gate g with cmd := c, pos := (t.gate g).pos,
                                       travel := some (2880000 * s.act.gateTime.toNat) } ∧
            t.cmd (gateDownFn g) = decide (c = .down) ∧ t.cmd (gateUpFn g) = decide (c = .up)) ∧
          (t.rcs.road, t.rcs.phase) =
            roadPast (fun x => (t.gate x).pos) (fun x => (s.gate x).obstructed) (s.rcs.clearing = .expired) s.rcs.road
              s.rcs.phase) ∧
      (s.rcs.road ≠ .sealed → (∀ f : Fin 40, s.isDisplaced f = false) → (g, .down) ∈ stepGates s.rcs.road s.rcs.phase →
        (s.gate g).obstructed = true → (s.gate g).settle = .expired → s.zoneClear g = true →
        Gives (exec (.samplingInstant lines lamps) s) fun t =>
          (t.gate g).pos = .up →
            let live : Bool := !s.rcs.suspended && !s.rcs.holding
            t.gate g = { s.gate g with cmd := .down, pos := .up, obstructed := false, settle := .stopped,
                                       travel := if live then some (2880000 * s.act.gateTime.toNat) else none } ∧
            t.cmd (gateDownFn g) = live ∧ t.cmd (gateUpFn g) = false ∧ t.rcs.road = s.rcs.road) ∧
      (s.rcs.road ≠ .sealed → s.rcs.suspended = true ∨ s.rcs.holding = true →
        Gives (exec (.samplingInstant lines lamps) s) fun t =>
          let waits (c : GateCmd) : GateRec := { s.gate g with cmd := c, pos := (t.gate g).pos, travel := none }
          t.rcs.road = s.rcs.road ∧ t.rcs.phase = s.rcs.phase ∧
          (∀ c p, (g, c) ∈ stepGates s.rcs.road s.rcs.phase → cmdPos c = some p → (s.gate g).cmd = .none →
            (s.gate g).obstructed = false → (s.gate g).pos = p → (t.gate g).pos ≠ p →
            (c = .up ∨ s.zoneClear g = true → t.gate g = waits c) ∧
            (c = .down → s.zoneClear g = false → (t.gate g).pos ≠ .up →
              t.gate g = { waits .up with obstructed := true, settle := .stopped }) ∧
            t.cmd (gateDownFn g) = false ∧ t.cmd (gateUpFn g) = false) ∧
          ((s.gate g).cmd ≠ .none → (s.gate g).obstructed = false →
            t.gate g = { s.gate g with pos := (t.gate g).pos }))) ∧
    ∀ (lines : BitVec 48) (lamps : BitVec 15) (l : Fin 48) (level : Bool),
      (g, l) ∈ [(Gate.w1, (27 : Fin 48)), (.w2, 28), (.w3, 29), (.w4, 30)] → s.qualifies lines l level →
      (level = true →
        Gives (exec (.samplingInstant lines lamps) s) fun t =>
          t.gate g = if (s.gate g).obstructed = true then
            { s.gate g with settle := .running (2880000 * s.act.settleTime.toNat) } else s.gate g) ∧
      (level = false → (s.gate g).obstructed = true ∨ (s.gate g).cmd ≠ .down →
        Gives (exec (.samplingInstant lines lamps) s) fun t =>
          t.gate g = if (s.gate g).obstructed = true then { s.gate g with settle := .stopped } else s.gate g) ∧
      (level = false → (s.gate g).obstructed = false → (s.gate g).cmd = .down → (s.gate g).pos = .up →
        Gives (exec (.samplingInstant lines lamps) s) fun t =>
          t.gate g = { s.gate g with cmd := .none, obstructed := true, settle := .stopped, travel := none } ∧
          t.cmd (gateDownFn g) = false ∧ t.cmd (gateUpFn g) = false ∧ t.rcs.road = s.rcs.road) ∧
      (level = false → (s.gate g).obstructed = false → (s.gate g).cmd = .down → (s.gate g).pos ≠ .up →
        s.rcs.suspended = false → s.rcs.holding = false → s.isDisplaced (gateUpFn g) = false →
        Gives (exec (.samplingInstant lines lamps) s) fun t =>
          t.gate g = { s.gate g with cmd := .up, obstructed := true, settle := .stopped,
                                     travel := some (2880000 * s.act.gateTime.toNat) } ∧
          t.cmd (gateDownFn g) = false ∧ t.cmd (gateUpFn g) = true ∧ t.rcs.road = s.rcs.road) ∧
      (level = false → (s.gate g).obstructed = false → (s.gate g).cmd = .down → (s.gate g).pos ≠ .up →
        s.rcs.suspended = true ∨ s.rcs.holding = true →
        Gives (exec (.samplingInstant lines lamps) s) fun t =>
          t.gate g = { s.gate g with cmd := .up, obstructed := true, settle := .stopped, travel := none } ∧
          t.cmd (gateDownFn g) = false ∧ t.cmd (gateUpFn g) = false ∧ t.rcs.road = s.rcs.road)

/-- R105, R106, R170: each tick of the budget clock takes one second off the budget, which stays at 0, and changes no road or motion
state; the tick that brings it to 0 is BUDGET_EXHAUSTED, at which each GROUPED or ADMITTED member of an opening in GATHERED or
ADMITTING returns to FILED with its deferred flag set and leaves the member list and its queue, and a queue left empty gives the
channel back (R161). Where no member is TRANSITING the opening enters CLOSING_CHANNEL, and is retired at once with both beams clear
(R171, R173); else it stays in its state. Both channel heads are decided as R165 gives (at the end of the event: log 9). An opening
in NONE or CLOSING_CHANNEL does not change. That BUDGET_EXHAUSTED as a command is that whole tick is the model's choice (log 5). -/
def Obligations.BudgetTicksDownAndIsSpent : Prop :=
  ∀ s : State, s.rcs.budgetTimer.isSome = true →
    (s.rcs.budget ≠ 1 →
      exec .budgetTick s = .next { s with rcs := { s.rcs with budget := s.rcs.budget - 1, budgetTimer := some 2880000 } }) ∧
    (s.rcs.budget = 1 → ∀ c, c = .budgetTick ∨ c = .budgetExhausted →
      Gives (exec c s) fun t =>
        t.rcs = { s.rcs with budget := 0, budgetTimer := some 2880000 } ∧
        t = { s with om := t.om, rcs := t.rcs, pg := t.pg, pau := t.pau } ∧
        t.pau.queue = s.pau.queue ∧
        (s.pau.opening.state = .gathered ∨ s.pau.opening.state = .admitting →
          ∀ h ∈ s.pau.opening.members, ∀ r, s.passage h = some r →
            (r.state = .grouped ∨ r.state = .admitted →
              t.passage h = some { r with state := .filed, deferred := true, lift := none }) ∧
            (r.state = .transiting → t.passage h = some r)) ∧
        (s.pau.opening.state = .gathered ∨ s.pau.opening.state = .admitting →
          t.pau = { t.pau with clock := s.pau.clock, clearanceLow := s.pau.clearanceLow, intrusion := s.pau.intrusion,
                               lastClearance := s.pau.lastClearance } ∧
          t.aspectsDecided ∧
          if s.hasMember .transiting = true then
            ReturnedToFiled s t ∧ t.pau.opening = s.openingLeft s.pau.opening.state
          else ChannelClosed s t) ∧
        (s.pau.opening.state = .none ∨ s.pau.opening.state = .closingChannel → t.pau = s.pau ∧ t.pg = s.pg ∧ t.om = s.om))

/-! ### The heads (chapter 6) -/

/-- R115, R116, R114: where no proving check falls at a step's end, the expiry starts the pending aspect from its base, or moves the
index on by modify, less length beyond the span, and counts a pass, up to 15, at the return to base; the lamps are commanded from
the new step, whose timer starts. The horn that completes its last pass goes back to SILENT. That HORN_GIVES_UP as a command is that
whole expiry of the horn's step is the model's choice (log 5). R117: a request for the running aspect drops the pending one, a
restrictive change starts at once from its base and drops the pending one, and any other change becomes the pending aspect; as the
amber timer's expiry shows, which asks both traffic heads for RED. R118: the horn defers ADMIT in SILENT and else ignores it, and
starts DANGER at once but in DANGER. -/
def Obligations.StepExpiryMovesThePattern : Prop :=
  let record (s : State) (a : Aspect) (i pass : Nat) : RunRec :=
    { running := some a, pending := none, index := i, pass := pass,
      stepTimer := some (28800 * (s.act.stepAt i).duration),
      proving := if 10 ≤ (s.act.stepAt i).duration then some 288000 else none }
  let shows (s t : State) (h : Head) (a : Aspect) (i pass : Nat) : Prop :=
    t = { s with pg := t.pg, om := t.om } ∧ t.pg.lamps = s.pg.lamps ∧ t.pg.impaired = s.pg.impaired ∧
    t.pg.heads = s.pg.heads.set h (record s a i pass) ∧
    ∀ x ∈ (headLamps h).zipIdx, t.cmd (lampFn x.1) = (s.act.stepAt i).lamps.getLsbD x.2
  let waits (s : State) (h : Head) (p : Option Aspect) : State :=
    { s with pg := { s.pg with heads := s.pg.heads.set h { s.pg.heads.get h with pending := p } } }
  let atOnce : List (Aspect × Aspect) :=
    [(.dark, .flash), (.green, .amber), (.green, .red), (.proceed, .standby), (.proceed, .stop), (.standby, .stop)]
  (∀ (s : State) (h : Head) (r : RunRec), s.pg.heads.get h = r → r.stepTimer.isSome = true → r.proving ≠ r.stepTimer →
    (∀ a p, r.running = some a → r.pending = some p →
      Gives (exec (.stepTimerExpiry h) s) fun t => shows s t h p (s.act.descrFor h p).base 0) ∧
    (∀ a, r.running = some a → r.pending = none →
      let d := s.act.descrFor h a
      let i := if d.base + d.length ≤ r.index + d.modify then r.index + d.modify - d.length else r.index + d.modify
      if h = .horn ∧ i = d.base ∧ 1 ≤ d.passes ∧ d.passes ≤ min (r.pass + 1) 15 then
        ∀ c, c = .stepTimerExpiry .horn ∨ c = .hornGivesUp →
          Gives (exec c s) fun t => shows s t h .silent (s.act.descrFor .horn .silent).base 0
      else
        Gives (exec (.stepTimerExpiry h) s) fun t => shows s t h a i (if i = d.base then min (r.pass + 1) 15 else r.pass))) ∧
  (∀ (s : State) (h : Head) (cur a : Aspect), (s.pg.heads.get h).running = some cur →
    (cur = a → s.requestAspect h a = waits s h none) ∧
    ((cur, a) ∈ atOnce → shows s (s.requestAspect h a) h a (s.act.descrFor h a).base 0) ∧
    (cur ≠ a → (cur, a) ∉ atOnce → s.requestAspect h a = waits s h (some a))) ∧
  (∀ (s : State) (cur : Aspect), s.pg.heads.horn.running = some cur →
    s.requestAdmit = (if cur = .silent then waits s .horn (some .admitHorn) else s) ∧
    (cur = .silent ∨ cur = .admitHorn →
      shows s s.requestDanger .horn .danger (s.act.descrFor .horn .danger).base 0) ∧
    (cur = .danger → s.requestDanger = s)) ∧
  ∀ s : State, s.rcs.road = .prewarn → s.rcs.amber.isSome = true → s.rcs.suspended = false → s.rcs.trafAspect ≠ .red →
    Gives (exec .amberTimerExpiry s) fun t =>
      ∀ h, if h = .trafN ∨ h = .trafS then
          ∀ cur, (s.pg.heads.get h).running = some cur →
            t.pg.heads.get h =
              if cur = .red then { s.pg.heads.get h with pending := none }
              else if cur = .green then record s .red (s.act.descrFor h .red).base 0
              else { s.pg.heads.get h with pending := some .red }
        else t.pg.heads.get h = s.pg.heads.get h

/-- R115: because modify is less than length, the index never leaves the span, and it returns to base after
length ÷ gcd(length, modify) steps and not before. -/
def Obligations.PatternReturnsToBase : Prop :=
  ∀ d : Descriptor, 1 ≤ d.length → d.modify < d.length →
    (∀ k : Nat, d.base ≤ (d.advance^[k]) d.base ∧ (d.advance^[k]) d.base < d.base + d.length) ∧
    (d.advance^[d.length / Nat.gcd d.length d.modify]) d.base = d.base ∧
    ∀ k : Nat, 0 < k → k < d.length / Nat.gcd d.length d.modify → (d.advance^[k]) d.base ≠ d.base

/-- R119 to R121: at a proving point outside a SUPPLY alert each lamp of the head whose function is not displaced has its check: lit
in the step, the lit-miss count goes to 0 with current and up by one, to 3, without; dark, the dark-miss count likewise; and its
fault is then ACTIVE exactly when a count is at 3. In ALERT the point passes without a check. R123: the impaired flags follow the
faults, and each change is delivered: a road head's to RCS, whose closure that waits for the heads goes on once none is impaired
(R93); a channel head's to PAU, which calls back every ADMITTED member of the direction of a head that becomes impaired, with an
admission test where that leaves the channel free, and decides the aspects again at either change (R164, R165; at the end of the
event: log 9). That a suspended
RCS leaves the closure waiting, which goes on at the restart, is the model's reading (log 11). That a road head's change leaves PAU
as it is is stated under the law that a span in HOLDING stands over a SEALED road, which every step keeps (R63, R66, R98, by
`SealedRoadHoldsWhileTheSpanIsFree`). -/
def Obligations.ProvingPointChecksTheLamps : Prop :=
  ∀ (s : State) (h : Head) (a : Aspect), (s.pg.heads.get h).running = some a → (s.pg.heads.get h).proving.isSome = true →
    (s.supplyAlert = true →
      exec (.provingPoint h) s =
        .next { s with pg := { s.pg with heads := s.pg.heads.set h { s.pg.heads.get h with proving := none } } }) ∧
    (s.supplyAlert = false →
      Gives (exec (.provingPoint h) s) fun t =>
        t.pending = s.pending ∧ t.cs = s.cs ∧ t.iq = s.iq ∧ t.mu = s.mu ∧ t.ht = s.ht ∧ t.sp = s.sp ∧
        ∀ x ∈ (headLamps h).zipIdx, s.isDisplaced (lampFn x.1) = false →
          let lit := (s.act.stepAt (s.pg.heads.get h).index).lamps.getLsbD x.2
          let old := s.pg.lamps[x.1]
          t.pg.lamps[x.1] =
            { litMiss := if lit then (if s.senses x.1 then 0 else min (old.litMiss + 1) 3) else old.litMiss,
              darkMiss := if lit then old.darkMiss else (if s.senses x.1 then min (old.darkMiss + 1) 3 else 0) } ∧
          (t.fault (lampFault x.1) = .active ↔ (t.pg.lamps[x.1]).litMiss = 3 ∨ (t.pg.lamps[x.1]).darkMiss = 3)) ∧
    (s.supplyAlert = false → s.impairedLaw = true →
      Gives (exec (.provingPoint h) s) fun t =>
        t.impairedLaw = true ∧ (∀ k, k ≠ h → t.pg.impaired.get k = s.pg.impaired.get k) ∧
        (h = .warnN ∨ h = .warnS ∨ h = .trafN ∨ h = .trafS →
          (s.spanLaw = true → t.pau = s.pau) ∧
          let goes : Prop := s.rcs.road = .prewarn ∧ s.rcs.waitingHeads = true ∧ s.rcs.suspended = false
          (¬goes ∨ t.pg.impaired.get h = true → t.rcs = s.rcs) ∧
          (goes → s.pg.impaired.get h = true →
            t.pg.impaired.warnN = false → t.pg.impaired.warnS = false → t.pg.impaired.trafN = false →
            t.pg.impaired.trafS = false →
            t.rcs.waitingHeads = false ∧ (t.rcs.road = .entryLowering ∨ t.rcs.road = .clearing))) ∧
        (∀ d, h = faces d →
          t.rcs = s.rcs ∧
          (s.pg.impaired.get h = true → t.pg.impaired.get h = false →
            t.pau = { s.pau with decidedU := t.pau.decidedU, decidedD := t.pau.decidedD } ∧ t.aspectsDecided) ∧
          (s.pg.impaired.get h = false → t.pg.impaired.get h = true →
            t.aspectsDecided ∧
            ∃ u : State, u = { t with pau := u.pau } ∧ CalledBack s u (fun r => r.dir = d) ∧
              if s.pau.opening.state = .admitting ∧ s.pau.opening.active ≠ none ∧ u.pau.opening.active = none then
                AdmissionTested u t
              else t.pau.opening = u.pau.opening ∧ t.pau.slots = u.pau.slots ∧ t.pau.queue = u.pau.queue) ∧
          (s.pg.impaired.get h = false → t.pg.impaired.get h = false → t.pau = s.pau)))

/-! ### The clocks (chapters 7 and 9) -/

/-- R136 to R139: at a tick of the passage clock, a FILED record whose window does not open counts its wait and its expiry down; one
whose expiry runs out lapses, without an expiry and with the lapse linger; a LAPSED one counts its wait and its linger down. Where
no record joins (no opening is live, or no window opens and no FILED or LAPSED record is a member), each record's whole tick is
stated: a wait of 1 becomes 0, a lapse with a lapse linger of 0 retires, the last count of a linger retires. Where a window opens
with an opening live and no other record's count runs out, its join test follows the counts of the others and goes before its own
expiry's. R178: at a tick of the hold clock the age of every live hold goes up by one, to 65535, and nothing else changes. -/
def Obligations.ClockTicksCountTheRecords : Prop :=
  ∀ s : State,
    (s.pau.clock.isSome = true →
      Gives (exec .passageClockTick s) fun t =>
        t.pau.clock = some 2880000 ∧ t.pending = s.pending ∧ t.cs = s.cs ∧ t.iq = s.iq ∧ t.mu = s.mu ∧ t.smc = s.smc ∧
        t.ht = s.ht ∧ t.sp = s.sp ∧
        ∀ (i : Fin 16) (r : Passage), (s.pau.slots[i]).record = some r → r.wait ≠ 1 →
          (r.state = .filed → (∀ e, r.expiry = some e → 2 ≤ e) →
            t.pau.slots[i] =
              { gen := (s.pau.slots[i]).gen,
                record := some { r with wait := r.wait - 1, expiry := r.expiry.map (· - 1) } }) ∧
          (r.state = .filed → r.expiry = some 1 → 0 < s.act.lapseLinger →
            t.pau.slots[i] =
              { gen := (s.pau.slots[i]).gen,
                record :=
                  some { r with wait := r.wait - 1, state := .lapsed, expiry := none,
                                linger := some s.act.lapseLinger.toNat } }) ∧
          (∀ n, r.state = .lapsed → r.linger = some n → 2 ≤ n →
            t.pau.slots[i] =
              { gen := (s.pau.slots[i]).gen, record := some { r with wait := r.wait - 1, linger := some (n - 1) } })) ∧
    (s.pau.clock.isSome = true →
      s.pau.opening.state = .none ∨
        (∀ (i : Fin 16) (r : Passage), (s.pau.slots[i]).record = some r → r.state = .filed ∨ r.state = .lapsed →
          (r.state = .filed → r.wait ≠ 1) ∧ { slot := i, gen := (s.pau.slots[i]).gen } ∉ s.pau.opening.members) →
      Gives (exec .passageClockTick s) fun t =>
        ∀ (i : Fin 16) (r : Passage), (s.pau.slots[i]).record = some r →
          let retired : Slot Passage := { gen := ((s.pau.slots[i]).gen + 1) % 256, record := none }
          let kept (p : Passage) : Slot Passage := { gen := (s.pau.slots[i]).gen, record := some { p with wait := r.wait - 1 } }
          t.pau.slots[i] =
            match r.state, r.expiry, r.linger with
            | .filed, some e, _ =>
              if 2 ≤ e then kept { r with expiry := some (e - 1) }
              else if 0 < s.act.lapseLinger then
                kept { r with state := .lapsed, expiry := none, linger := some s.act.lapseLinger.toNat }
              else retired
            | .lapsed, _, some n => if 2 ≤ n then kept { r with linger := some (n - 1) } else retired
            | _, _, _ => kept r) ∧
    (∀ (i : Fin 16) (r : Passage), s.pau.clock.isSome = true → (s.pau.slots[i]).record = some r → r.state = .filed →
      r.wait = 1 → (∀ e, r.expiry = some e → 2 ≤ e) →
      let counted (p : Passage) : Passage :=
        { p with
          wait := p.wait - 1
          expiry := if p.state = .filed then p.expiry.map (· - 1) else p.expiry
          linger := if p.state = .lapsed then p.linger.map (· - 1) else p.linger }
      (∀ (j : Fin 16) (p : Passage), j ≠ i → (s.pau.slots[j]).record = some p →
        p.wait ≠ 1 ∧ (p.state = .filed → ∀ e, p.expiry = some e → 2 ≤ e) ∧
          (p.state = .lapsed → ∀ n, p.linger = some n → 2 ≤ n)) →
      Gives (exec .passageClockTick s) fun t =>
        ∃ u v : State,
          u = { s with pau := { s.pau with clock := some 2880000, slots := u.pau.slots } } ∧
          (∀ j : Fin 16, u.pau.slots[j] =
            { gen := (s.pau.slots[j]).gen,
              record := if j = i then some { r with wait := 0 } else (s.pau.slots[j]).record.map counted }) ∧
          JoinTested u v i { r with wait := 0 } ∧
          t = { v with pau := { v.pau with slots := t.pau.slots } } ∧
          ∀ j : Fin 16, t.pau.slots[j] =
            { gen := (s.pau.slots[j]).gen,
              record := (v.pau.slots[j]).record.map fun p =>
                if j = i ∧ p.state = .filed then { p with expiry := p.expiry.map (· - 1) } else p }) ∧
    (s.ht.clock.isSome = true →
      Gives (exec .holdClockTick s) fun t =>
        t = { s with ht := t.ht } ∧ t.ht.pointer = s.ht.pointer ∧ t.ht.clock = some 2880000 ∧
        ∀ i : Fin 12, (t.ht.slots[i]).gen = (s.ht.slots[i]).gen ∧
          (t.ht.slots[i]).record = (s.ht.slots[i]).record.map fun h => { h with age := min (h.age + 1) 65535 })

/-- R137, R155, R156: when a FILED record's window opens it joins an opening in GATHERED that has room, budget and a target for its
lift, and is GROUPED with the lift at the tail of the members; with no opening live it stays FILED with wait 0; and in general the
join test is made, which an opening in ADMITTING follows with an admission test (R160, R161). R138, R139: the last count of an
expiry lapses the record, or retires it with a lapse linger of 0, and the last count of a linger retires it. That WINDOW_OPENS,
LAPSE and LINGER_END as commands are the count of that one record is the model's choice (log 5). -/
def Obligations.WindowOpensAndRecordsJoinOrLapse : Prop :=
  ∀ (s : State) (i : Fin 16) (r : Passage), (s.pau.slots[i]).record = some r →
    let handle : Handle 16 := { slot := i, gen := (s.pau.slots[i]).gen }
    let lift := s.liftOf (r.need s.act)
    (r.wait = 1 → r.state = .filed → s.pau.opening.state = .none →
      exec (.windowOpens i) s =
        .next { s with pau := { s.pau with slots := s.pau.slots.set i { gen := handle.gen, record := some { r with wait := 0 } } } }) ∧
    (r.wait = 1 → r.state = .filed → s.pau.opening.state = .gathered → (lift : Int) ≤ s.act.hfull →
      (∃ target, s.pau.opening.target = some target ∧ lift ≤ target) → s.pau.opening.members.length < 8 →
      s.pg.impaired.get (match r.dir with | .up => .chanD | .down => .chanU) = false → 0 < s.rcs.budget →
      s.act.jr ≤ s.rcs.budget →
      Gives (exec (.windowOpens i) s) fun t =>
        t.passage handle = some { r with wait := 0, state := .grouped, lift := some lift, deferred := false, unreachable := false } ∧
        t.pau.opening.members = s.pau.opening.members ++ [handle] ∧ t.pau.opening.state = .gathered ∧
        t.pau.queue = s.pau.queue ∧ t = { s with pau := t.pau, pg := t.pg, om := t.om }) ∧
    (r.state = .filed → r.expiry = some 1 → 0 < s.act.lapseLinger →
      exec (.lapse i) s =
        .next
          { s with
            pau :=
              { s.pau with
                slots :=
                  s.pau.slots.set i
                    { gen := handle.gen,
                      record := some { r with state := .lapsed, expiry := none, linger := some s.act.lapseLinger.toNat } } } }) ∧
    (r.wait = 1 → r.state = .filed →
      Gives (exec (.windowOpens i) s) fun t =>
        JoinTested
          { s with
            pau := { s.pau with slots := s.pau.slots.set i { gen := handle.gen, record := some { r with wait := 0 } } } }
          t i { r with wait := 0 }) ∧
    (r.state = .filed → r.expiry = some 1 → s.act.lapseLinger ≤ 0 → handle ∉ s.pau.opening.members →
      Gives (exec (.lapse i) s) fun t =>
        t = { s with pau := t.pau } ∧ t.pau.slots = s.pau.slots.set i { gen := (handle.gen + 1) % 256, record := none } ∧
        t.pau.queue = s.pau.queue.filter (· ≠ handle)) ∧
    (r.state = .lapsed → r.linger = some 1 → handle ∉ s.pau.opening.members →
      Gives (exec (.lingerEnd i) s) fun t =>
        t = { s with pau := t.pau } ∧ t.pau.slots = s.pau.slots.set i { gen := (handle.gen + 1) % 256, record := none } ∧
        t.pau.queue = s.pau.queue.filter (· ≠ handle))

/-! ### What holds at every moment -/

/-- After a reset every law of `Safety.lean` holds. -/
def Obligations.ResetMeetsTheLaws : Prop :=
  State.reset.towersLaw = true ∧ State.reset.gatesLaw = true ∧ State.reset.alarmLaw = true ∧ State.reset.impairedLaw = true ∧
    State.reset.queueLaw ∧ State.reset.spanLaw = true ∧
    State.reset.proceedLaw = true ∧ State.reset.boundsLaw = true

/-- R57, R59, R60: every step keeps the law of the towers: RAISE and LOWER of one tower are never on together, the lines are those
of the tower's phase, and outside RAISING, LOWERING and SEATING both towers are at rest with every line off. -/
def Obligations.EveryStepKeepsTheTowersLaw : Prop :=
  ∀ s t : State, s.towersLaw = true → step s = .next t → t.towersLaw = true

/-- R89: every step keeps DOWN and UP of one gate from being on together, and both off while RCS is suspended or holding. -/
def Obligations.EveryStepKeepsTheGatesLaw : Prop :=
  ∀ s t : State, s.gatesLaw = true → step s = .next t → t.gatesLaw = true

/-- R199, R200: every step keeps the summary alarm on exactly while some fault is not CLEAR, and the first trip fault a trip fault
that is not CLEAR. R123: every step keeps each head's impaired flag what the values of its LAMP faults make it. -/
def Obligations.EveryStepKeepsTheAlarmLaw : Prop :=
  ∀ s t : State, step s = .next t → (s.alarmLaw = true → t.alarmLaw = true) ∧ (s.impairedLaw = true → t.impairedLaw = true)

/-- R131: every step keeps the handle of every live passage in the filing queue exactly once, and no other handle there. -/
def Obligations.EveryStepKeepsTheQueueLaw : Prop :=
  ∀ s t : State, s.queueLaw → step s = .next t → t.queueLaw

/-- R165: every step keeps a channel head that shows PROCEED, or waits to, decided PROCEED, and the two heads from being decided
PROCEED together. -/
def Obligations.EveryStepKeepsTheProceedLaw : Prop :=
  ∀ s t : State, s.proceedLaw = true → step s = .next t → t.proceedLaw = true

/-- R2, R6, R120, R189, R207: every step keeps the bounds of the histories, counters, windows, miss counts and receive buffers. -/
def Obligations.EveryStepKeepsTheBounds : Prop :=
  ∀ s t : State, s.boundsLaw = true → step s = .next t → t.boundsLaw = true

/-- R98, R218: in CONFIGURED no command takes the road out of SEALED unless the span is SEATED_LOCKED, but a reset and the end of
the reply to a RESTART. A sampling instant holds many events, of which one may lock the span before the REOPEN button's; it does not
either where it does not qualify that button (line 42) pressed. R63, R66, R98: every step keeps a span that is UNLOCKING, RAISING,
HOLDING, LOWERING or SEATING over a road that is SEALED. -/
def Obligations.SealedRoadHoldsWhileTheSpanIsFree : Prop :=
  (∀ (c : Instr) (s t : State), s.configured = true → s.rcs.road = .sealed → s.smc.motion ≠ .seatedLocked →
    mayReset c s = false → (∀ lines lamps, c = .samplingInstant lines lamps → t.line 42 = true → s.line 42 = true) →
    exec c s = .next t → t.rcs.road = .sealed) ∧
  ∀ s t : State, s.spanLaw = true → step s = .next t → t.spanLaw = true
end

