-- ==== Sys2Proof/Laws/State.lean ====
section
/-! SUPPORT. What each update of the state leaves and what it writes: one lemma for each field and each update function. -/

namespace Sys2Proof.Machine

variable (s : State)


/-! ### onCs -/

@[simp] theorem State.onCs_pending (f : Cs → Cs) : (s.onCs f).pending = s.pending := rfl
@[simp] theorem State.onCs_free (f : Cs → Cs) : (s.onCs f).free = s.free := rfl
@[simp] theorem State.onCs_cs (f : Cs → Cs) : (s.onCs f).cs = f s.cs := rfl
@[simp] theorem State.onCs_iq (f : Cs → Cs) : (s.onCs f).iq = s.iq := rfl
@[simp] theorem State.onCs_om (f : Cs → Cs) : (s.onCs f).om = s.om := rfl
@[simp] theorem State.onCs_mu (f : Cs → Cs) : (s.onCs f).mu = s.mu := rfl
@[simp] theorem State.onCs_smc (f : Cs → Cs) : (s.onCs f).smc = s.smc := rfl
@[simp] theorem State.onCs_rcs (f : Cs → Cs) : (s.onCs f).rcs = s.rcs := rfl
@[simp] theorem State.onCs_pg (f : Cs → Cs) : (s.onCs f).pg = s.pg := rfl
@[simp] theorem State.onCs_pau (f : Cs → Cs) : (s.onCs f).pau = s.pau := rfl
@[simp] theorem State.onCs_ht (f : Cs → Cs) : (s.onCs f).ht = s.ht := rfl
@[simp] theorem State.onCs_mfs (f : Cs → Cs) : (s.onCs f).mfs = s.mfs := rfl
@[simp] theorem State.onCs_sp (f : Cs → Cs) : (s.onCs f).sp = s.sp := rfl

/-! ### onIq -/

@[simp] theorem State.onIq_pending (f : Iq → Iq) : (s.onIq f).pending = s.pending := rfl
@[simp] theorem State.onIq_free (f : Iq → Iq) : (s.onIq f).free = s.free := rfl
@[simp] theorem State.onIq_cs (f : Iq → Iq) : (s.onIq f).cs = s.cs := rfl
@[simp] theorem State.onIq_iq (f : Iq → Iq) : (s.onIq f).iq = f s.iq := rfl
@[simp] theorem State.onIq_om (f : Iq → Iq) : (s.onIq f).om = s.om := rfl
@[simp] theorem State.onIq_mu (f : Iq → Iq) : (s.onIq f).mu = s.mu := rfl
@[simp] theorem State.onIq_smc (f : Iq → Iq) : (s.onIq f).smc = s.smc := rfl
@[simp] theorem State.onIq_rcs (f : Iq → Iq) : (s.onIq f).rcs = s.rcs := rfl
@[simp] theorem State.onIq_pg (f : Iq → Iq) : (s.onIq f).pg = s.pg := rfl
@[simp] theorem State.onIq_pau (f : Iq → Iq) : (s.onIq f).pau = s.pau := rfl
@[simp] theorem State.onIq_ht (f : Iq → Iq) : (s.onIq f).ht = s.ht := rfl
@[simp] theorem State.onIq_mfs (f : Iq → Iq) : (s.onIq f).mfs = s.mfs := rfl
@[simp] theorem State.onIq_sp (f : Iq → Iq) : (s.onIq f).sp = s.sp := rfl

/-! ### onOm -/

@[simp] theorem State.onOm_pending (f : Om → Om) : (s.onOm f).pending = s.pending := rfl
@[simp] theorem State.onOm_free (f : Om → Om) : (s.onOm f).free = s.free := rfl
@[simp] theorem State.onOm_cs (f : Om → Om) : (s.onOm f).cs = s.cs := rfl
@[simp] theorem State.onOm_iq (f : Om → Om) : (s.onOm f).iq = s.iq := rfl
@[simp] theorem State.onOm_om (f : Om → Om) : (s.onOm f).om = f s.om := rfl
@[simp] theorem State.onOm_mu (f : Om → Om) : (s.onOm f).mu = s.mu := rfl
@[simp] theorem State.onOm_smc (f : Om → Om) : (s.onOm f).smc = s.smc := rfl
@[simp] theorem State.onOm_rcs (f : Om → Om) : (s.onOm f).rcs = s.rcs := rfl
@[simp] theorem State.onOm_pg (f : Om → Om) : (s.onOm f).pg = s.pg := rfl
@[simp] theorem State.onOm_pau (f : Om → Om) : (s.onOm f).pau = s.pau := rfl
@[simp] theorem State.onOm_ht (f : Om → Om) : (s.onOm f).ht = s.ht := rfl
@[simp] theorem State.onOm_mfs (f : Om → Om) : (s.onOm f).mfs = s.mfs := rfl
@[simp] theorem State.onOm_sp (f : Om → Om) : (s.onOm f).sp = s.sp := rfl

/-! ### onMu -/

@[simp] theorem State.onMu_pending (f : Mu → Mu) : (s.onMu f).pending = s.pending := rfl
@[simp] theorem State.onMu_free (f : Mu → Mu) : (s.onMu f).free = s.free := rfl
@[simp] theorem State.onMu_cs (f : Mu → Mu) : (s.onMu f).cs = s.cs := rfl
@[simp] theorem State.onMu_iq (f : Mu → Mu) : (s.onMu f).iq = s.iq := rfl
@[simp] theorem State.onMu_om (f : Mu → Mu) : (s.onMu f).om = s.om := rfl
@[simp] theorem State.onMu_mu (f : Mu → Mu) : (s.onMu f).mu = f s.mu := rfl
@[simp] theorem State.onMu_smc (f : Mu → Mu) : (s.onMu f).smc = s.smc := rfl
@[simp] theorem State.onMu_rcs (f : Mu → Mu) : (s.onMu f).rcs = s.rcs := rfl
@[simp] theorem State.onMu_pg (f : Mu → Mu) : (s.onMu f).pg = s.pg := rfl
@[simp] theorem State.onMu_pau (f : Mu → Mu) : (s.onMu f).pau = s.pau := rfl
@[simp] theorem State.onMu_ht (f : Mu → Mu) : (s.onMu f).ht = s.ht := rfl
@[simp] theorem State.onMu_mfs (f : Mu → Mu) : (s.onMu f).mfs = s.mfs := rfl
@[simp] theorem State.onMu_sp (f : Mu → Mu) : (s.onMu f).sp = s.sp := rfl

/-! ### onSmc -/

@[simp] theorem State.onSmc_pending (f : Smc → Smc) : (s.onSmc f).pending = s.pending := rfl
@[simp] theorem State.onSmc_free (f : Smc → Smc) : (s.onSmc f).free = s.free := rfl
@[simp] theorem State.onSmc_cs (f : Smc → Smc) : (s.onSmc f).cs = s.cs := rfl
@[simp] theorem State.onSmc_iq (f : Smc → Smc) : (s.onSmc f).iq = s.iq := rfl
@[simp] theorem State.onSmc_om (f : Smc → Smc) : (s.onSmc f).om = s.om := rfl
@[simp] theorem State.onSmc_mu (f : Smc → Smc) : (s.onSmc f).mu = s.mu := rfl
@[simp] theorem State.onSmc_smc (f : Smc → Smc) : (s.onSmc f).smc = f s.smc := rfl
@[simp] theorem State.onSmc_rcs (f : Smc → Smc) : (s.onSmc f).rcs = s.rcs := rfl
@[simp] theorem State.onSmc_pg (f : Smc → Smc) : (s.onSmc f).pg = s.pg := rfl
@[simp] theorem State.onSmc_pau (f : Smc → Smc) : (s.onSmc f).pau = s.pau := rfl
@[simp] theorem State.onSmc_ht (f : Smc → Smc) : (s.onSmc f).ht = s.ht := rfl
@[simp] theorem State.onSmc_mfs (f : Smc → Smc) : (s.onSmc f).mfs = s.mfs := rfl
@[simp] theorem State.onSmc_sp (f : Smc → Smc) : (s.onSmc f).sp = s.sp := rfl

/-! ### onRcs -/

@[simp] theorem State.onRcs_pending (f : Rcs → Rcs) : (s.onRcs f).pending = s.pending := rfl
@[simp] theorem State.onRcs_free (f : Rcs → Rcs) : (s.onRcs f).free = s.free := rfl
@[simp] theorem State.onRcs_cs (f : Rcs → Rcs) : (s.onRcs f).cs = s.cs := rfl
@[simp] theorem State.onRcs_iq (f : Rcs → Rcs) : (s.onRcs f).iq = s.iq := rfl
@[simp] theorem State.onRcs_om (f : Rcs → Rcs) : (s.onRcs f).om = s.om := rfl
@[simp] theorem State.onRcs_mu (f : Rcs → Rcs) : (s.onRcs f).mu = s.mu := rfl
@[simp] theorem State.onRcs_smc (f : Rcs → Rcs) : (s.onRcs f).smc = s.smc := rfl
@[simp] theorem State.onRcs_rcs (f : Rcs → Rcs) : (s.onRcs f).rcs = f s.rcs := rfl
@[simp] theorem State.onRcs_pg (f : Rcs → Rcs) : (s.onRcs f).pg = s.pg := rfl
@[simp] theorem State.onRcs_pau (f : Rcs → Rcs) : (s.onRcs f).pau = s.pau := rfl
@[simp] theorem State.onRcs_ht (f : Rcs → Rcs) : (s.onRcs f).ht = s.ht := rfl
@[simp] theorem State.onRcs_mfs (f : Rcs → Rcs) : (s.onRcs f).mfs = s.mfs := rfl
@[simp] theorem State.onRcs_sp (f : Rcs → Rcs) : (s.onRcs f).sp = s.sp := rfl

/-! ### onPg -/

@[simp] theorem State.onPg_pending (f : Pg → Pg) : (s.onPg f).pending = s.pending := rfl
@[simp] theorem State.onPg_free (f : Pg → Pg) : (s.onPg f).free = s.free := rfl
@[simp] theorem State.onPg_cs (f : Pg → Pg) : (s.onPg f).cs = s.cs := rfl
@[simp] theorem State.onPg_iq (f : Pg → Pg) : (s.onPg f).iq = s.iq := rfl
@[simp] theorem State.onPg_om (f : Pg → Pg) : (s.onPg f).om = s.om := rfl
@[simp] theorem State.onPg_mu (f : Pg → Pg) : (s.onPg f).mu = s.mu := rfl
@[simp] theorem State.onPg_smc (f : Pg → Pg) : (s.onPg f).smc = s.smc := rfl
@[simp] theorem State.onPg_rcs (f : Pg → Pg) : (s.onPg f).rcs = s.rcs := rfl
@[simp] theorem State.onPg_pg (f : Pg → Pg) : (s.onPg f).pg = f s.pg := rfl
@[simp] theorem State.onPg_pau (f : Pg → Pg) : (s.onPg f).pau = s.pau := rfl
@[simp] theorem State.onPg_ht (f : Pg → Pg) : (s.onPg f).ht = s.ht := rfl
@[simp] theorem State.onPg_mfs (f : Pg → Pg) : (s.onPg f).mfs = s.mfs := rfl
@[simp] theorem State.onPg_sp (f : Pg → Pg) : (s.onPg f).sp = s.sp := rfl

/-! ### onPau -/

@[simp] theorem State.onPau_pending (f : Pau → Pau) : (s.onPau f).pending = s.pending := rfl
@[simp] theorem State.onPau_free (f : Pau → Pau) : (s.onPau f).free = s.free := rfl
@[simp] theorem State.onPau_cs (f : Pau → Pau) : (s.onPau f).cs = s.cs := rfl
@[simp] theorem State.onPau_iq (f : Pau → Pau) : (s.onPau f).iq = s.iq := rfl
@[simp] theorem State.onPau_om (f : Pau → Pau) : (s.onPau f).om = s.om := rfl
@[simp] theorem State.onPau_mu (f : Pau → Pau) : (s.onPau f).mu = s.mu := rfl
@[simp] theorem State.onPau_smc (f : Pau → Pau) : (s.onPau f).smc = s.smc := rfl
@[simp] theorem State.onPau_rcs (f : Pau → Pau) : (s.onPau f).rcs = s.rcs := rfl
@[simp] theorem State.onPau_pg (f : Pau → Pau) : (s.onPau f).pg = s.pg := rfl
@[simp] theorem State.onPau_pau (f : Pau → Pau) : (s.onPau f).pau = f s.pau := rfl
@[simp] theorem State.onPau_ht (f : Pau → Pau) : (s.onPau f).ht = s.ht := rfl
@[simp] theorem State.onPau_mfs (f : Pau → Pau) : (s.onPau f).mfs = s.mfs := rfl
@[simp] theorem State.onPau_sp (f : Pau → Pau) : (s.onPau f).sp = s.sp := rfl

/-! ### onHt -/

@[simp] theorem State.onHt_pending (f : Ht → Ht) : (s.onHt f).pending = s.pending := rfl
@[simp] theorem State.onHt_free (f : Ht → Ht) : (s.onHt f).free = s.free := rfl
@[simp] theorem State.onHt_cs (f : Ht → Ht) : (s.onHt f).cs = s.cs := rfl
@[simp] theorem State.onHt_iq (f : Ht → Ht) : (s.onHt f).iq = s.iq := rfl
@[simp] theorem State.onHt_om (f : Ht → Ht) : (s.onHt f).om = s.om := rfl
@[simp] theorem State.onHt_mu (f : Ht → Ht) : (s.onHt f).mu = s.mu := rfl
@[simp] theorem State.onHt_smc (f : Ht → Ht) : (s.onHt f).smc = s.smc := rfl
@[simp] theorem State.onHt_rcs (f : Ht → Ht) : (s.onHt f).rcs = s.rcs := rfl
@[simp] theorem State.onHt_pg (f : Ht → Ht) : (s.onHt f).pg = s.pg := rfl
@[simp] theorem State.onHt_pau (f : Ht → Ht) : (s.onHt f).pau = s.pau := rfl
@[simp] theorem State.onHt_ht (f : Ht → Ht) : (s.onHt f).ht = f s.ht := rfl
@[simp] theorem State.onHt_mfs (f : Ht → Ht) : (s.onHt f).mfs = s.mfs := rfl
@[simp] theorem State.onHt_sp (f : Ht → Ht) : (s.onHt f).sp = s.sp := rfl

/-! ### onMfs -/

@[simp] theorem State.onMfs_pending (f : Mfs → Mfs) : (s.onMfs f).pending = s.pending := rfl
@[simp] theorem State.onMfs_free (f : Mfs → Mfs) : (s.onMfs f).free = s.free := rfl
@[simp] theorem State.onMfs_cs (f : Mfs → Mfs) : (s.onMfs f).cs = s.cs := rfl
@[simp] theorem State.onMfs_iq (f : Mfs → Mfs) : (s.onMfs f).iq = s.iq := rfl
@[simp] theorem State.onMfs_om (f : Mfs → Mfs) : (s.onMfs f).om = s.om := rfl
@[simp] theorem State.onMfs_mu (f : Mfs → Mfs) : (s.onMfs f).mu = s.mu := rfl
@[simp] theorem State.onMfs_smc (f : Mfs → Mfs) : (s.onMfs f).smc = s.smc := rfl
@[simp] theorem State.onMfs_rcs (f : Mfs → Mfs) : (s.onMfs f).rcs = s.rcs := rfl
@[simp] theorem State.onMfs_pg (f : Mfs → Mfs) : (s.onMfs f).pg = s.pg := rfl
@[simp] theorem State.onMfs_pau (f : Mfs → Mfs) : (s.onMfs f).pau = s.pau := rfl
@[simp] theorem State.onMfs_ht (f : Mfs → Mfs) : (s.onMfs f).ht = s.ht := rfl
@[simp] theorem State.onMfs_mfs (f : Mfs → Mfs) : (s.onMfs f).mfs = f s.mfs := rfl
@[simp] theorem State.onMfs_sp (f : Mfs → Mfs) : (s.onMfs f).sp = s.sp := rfl

/-! ### onPort -/

@[simp] theorem State.onPort_pending (p : Port) (f : PortRec → PortRec) : (s.onPort p f).pending = s.pending := rfl
@[simp] theorem State.onPort_free (p : Port) (f : PortRec → PortRec) : (s.onPort p f).free = s.free := rfl
@[simp] theorem State.onPort_cs (p : Port) (f : PortRec → PortRec) : (s.onPort p f).cs = s.cs := rfl
@[simp] theorem State.onPort_iq (p : Port) (f : PortRec → PortRec) : (s.onPort p f).iq = s.iq := rfl
@[simp] theorem State.onPort_om (p : Port) (f : PortRec → PortRec) : (s.onPort p f).om = s.om := rfl
@[simp] theorem State.onPort_mu (p : Port) (f : PortRec → PortRec) : (s.onPort p f).mu = s.mu := rfl
@[simp] theorem State.onPort_smc (p : Port) (f : PortRec → PortRec) : (s.onPort p f).smc = s.smc := rfl
@[simp] theorem State.onPort_rcs (p : Port) (f : PortRec → PortRec) : (s.onPort p f).rcs = s.rcs := rfl
@[simp] theorem State.onPort_pg (p : Port) (f : PortRec → PortRec) : (s.onPort p f).pg = s.pg := rfl
@[simp] theorem State.onPort_pau (p : Port) (f : PortRec → PortRec) : (s.onPort p f).pau = s.pau := rfl
@[simp] theorem State.onPort_ht (p : Port) (f : PortRec → PortRec) : (s.onPort p f).ht = s.ht := rfl
@[simp] theorem State.onPort_mfs (p : Port) (f : PortRec → PortRec) : (s.onPort p f).mfs = s.mfs := rfl
@[simp] theorem State.onPort_sp (p : Port) (f : PortRec → PortRec) : (s.onPort p f).sp = s.sp.set p (f (s.sp.get p)) := rfl

/-! ### setCmd -/

@[simp] theorem State.setCmd_pending (f : Fin 40) (b : Bool) : (s.setCmd f b).pending = s.pending := rfl
@[simp] theorem State.setCmd_free (f : Fin 40) (b : Bool) : (s.setCmd f b).free = s.free := rfl
@[simp] theorem State.setCmd_cs (f : Fin 40) (b : Bool) : (s.setCmd f b).cs = s.cs := rfl
@[simp] theorem State.setCmd_iq (f : Fin 40) (b : Bool) : (s.setCmd f b).iq = s.iq := rfl
@[simp] theorem State.setCmd_om (f : Fin 40) (b : Bool) : (s.setCmd f b).om = s.om.setCmd f b := rfl
@[simp] theorem State.setCmd_mu (f : Fin 40) (b : Bool) : (s.setCmd f b).mu = s.mu := rfl
@[simp] theorem State.setCmd_smc (f : Fin 40) (b : Bool) : (s.setCmd f b).smc = s.smc := rfl
@[simp] theorem State.setCmd_rcs (f : Fin 40) (b : Bool) : (s.setCmd f b).rcs = s.rcs := rfl
@[simp] theorem State.setCmd_pg (f : Fin 40) (b : Bool) : (s.setCmd f b).pg = s.pg := rfl
@[simp] theorem State.setCmd_pau (f : Fin 40) (b : Bool) : (s.setCmd f b).pau = s.pau := rfl
@[simp] theorem State.setCmd_ht (f : Fin 40) (b : Bool) : (s.setCmd f b).ht = s.ht := rfl
@[simp] theorem State.setCmd_mfs (f : Fin 40) (b : Bool) : (s.setCmd f b).mfs = s.mfs := rfl
@[simp] theorem State.setCmd_sp (f : Fin 40) (b : Bool) : (s.setCmd f b).sp = s.sp := rfl

/-! ### stage -/

@[simp] theorem State.stage_pending (t : Tower) (d : Nat) : (s.stage t d).pending = s.pending := rfl
@[simp] theorem State.stage_free (t : Tower) (d : Nat) : (s.stage t d).free = s.free := rfl
@[simp] theorem State.stage_cs (t : Tower) (d : Nat) : (s.stage t d).cs = s.cs := rfl
@[simp] theorem State.stage_iq (t : Tower) (d : Nat) : (s.stage t d).iq = s.iq := rfl
@[simp] theorem State.stage_om (t : Tower) (d : Nat) : (s.stage t d).om = { s.om with speed := s.om.speed.set t { s.om.speed.get t with staged := d } } := rfl
@[simp] theorem State.stage_mu (t : Tower) (d : Nat) : (s.stage t d).mu = s.mu := rfl
@[simp] theorem State.stage_smc (t : Tower) (d : Nat) : (s.stage t d).smc = s.smc := rfl
@[simp] theorem State.stage_rcs (t : Tower) (d : Nat) : (s.stage t d).rcs = s.rcs := rfl
@[simp] theorem State.stage_pg (t : Tower) (d : Nat) : (s.stage t d).pg = s.pg := rfl
@[simp] theorem State.stage_pau (t : Tower) (d : Nat) : (s.stage t d).pau = s.pau := rfl
@[simp] theorem State.stage_ht (t : Tower) (d : Nat) : (s.stage t d).ht = s.ht := rfl
@[simp] theorem State.stage_mfs (t : Tower) (d : Nat) : (s.stage t d).mfs = s.mfs := rfl
@[simp] theorem State.stage_sp (t : Tower) (d : Nat) : (s.stage t d).sp = s.sp := rfl

/-! ### setTower -/

@[simp] theorem State.setTower_pending (t : Tower) (r : TowerRec) : (s.setTower t r).pending = s.pending := rfl
@[simp] theorem State.setTower_free (t : Tower) (r : TowerRec) : (s.setTower t r).free = s.free := rfl
@[simp] theorem State.setTower_cs (t : Tower) (r : TowerRec) : (s.setTower t r).cs = s.cs := rfl
@[simp] theorem State.setTower_iq (t : Tower) (r : TowerRec) : (s.setTower t r).iq = s.iq := rfl
@[simp] theorem State.setTower_om (t : Tower) (r : TowerRec) : (s.setTower t r).om = s.om := rfl
@[simp] theorem State.setTower_mu (t : Tower) (r : TowerRec) : (s.setTower t r).mu = s.mu := rfl
@[simp] theorem State.setTower_smc (t : Tower) (r : TowerRec) : (s.setTower t r).smc = { s.smc with towers := s.smc.towers.set t r } := rfl
@[simp] theorem State.setTower_rcs (t : Tower) (r : TowerRec) : (s.setTower t r).rcs = s.rcs := rfl
@[simp] theorem State.setTower_pg (t : Tower) (r : TowerRec) : (s.setTower t r).pg = s.pg := rfl
@[simp] theorem State.setTower_pau (t : Tower) (r : TowerRec) : (s.setTower t r).pau = s.pau := rfl
@[simp] theorem State.setTower_ht (t : Tower) (r : TowerRec) : (s.setTower t r).ht = s.ht := rfl
@[simp] theorem State.setTower_mfs (t : Tower) (r : TowerRec) : (s.setTower t r).mfs = s.mfs := rfl
@[simp] theorem State.setTower_sp (t : Tower) (r : TowerRec) : (s.setTower t r).sp = s.sp := rfl

/-! ### setGate -/

@[simp] theorem State.setGate_pending (g : Gate) (r : GateRec) : (s.setGate g r).pending = s.pending := rfl
@[simp] theorem State.setGate_free (g : Gate) (r : GateRec) : (s.setGate g r).free = s.free := rfl
@[simp] theorem State.setGate_cs (g : Gate) (r : GateRec) : (s.setGate g r).cs = s.cs := rfl
@[simp] theorem State.setGate_iq (g : Gate) (r : GateRec) : (s.setGate g r).iq = s.iq := rfl
@[simp] theorem State.setGate_om (g : Gate) (r : GateRec) : (s.setGate g r).om = s.om := rfl
@[simp] theorem State.setGate_mu (g : Gate) (r : GateRec) : (s.setGate g r).mu = s.mu := rfl
@[simp] theorem State.setGate_smc (g : Gate) (r : GateRec) : (s.setGate g r).smc = s.smc := rfl
@[simp] theorem State.setGate_rcs (g : Gate) (r : GateRec) : (s.setGate g r).rcs = { s.rcs with gates := s.rcs.gates.set g r } := rfl
@[simp] theorem State.setGate_pg (g : Gate) (r : GateRec) : (s.setGate g r).pg = s.pg := rfl
@[simp] theorem State.setGate_pau (g : Gate) (r : GateRec) : (s.setGate g r).pau = s.pau := rfl
@[simp] theorem State.setGate_ht (g : Gate) (r : GateRec) : (s.setGate g r).ht = s.ht := rfl
@[simp] theorem State.setGate_mfs (g : Gate) (r : GateRec) : (s.setGate g r).mfs = s.mfs := rfl
@[simp] theorem State.setGate_sp (g : Gate) (r : GateRec) : (s.setGate g r).sp = s.sp := rfl

/-! ### setRoad -/

@[simp] theorem State.setRoad_pending (r : Road) : (s.setRoad r).pending = s.pending := rfl
@[simp] theorem State.setRoad_free (r : Road) : (s.setRoad r).free = s.free := rfl
@[simp] theorem State.setRoad_cs (r : Road) : (s.setRoad r).cs = s.cs := rfl
@[simp] theorem State.setRoad_iq (r : Road) : (s.setRoad r).iq = s.iq := rfl
@[simp] theorem State.setRoad_om (r : Road) : (s.setRoad r).om = s.om := rfl
@[simp] theorem State.setRoad_mu (r : Road) : (s.setRoad r).mu = s.mu := rfl
@[simp] theorem State.setRoad_smc (r : Road) : (s.setRoad r).smc = s.smc := rfl
@[simp] theorem State.setRoad_rcs (r : Road) : (s.setRoad r).rcs = { s.rcs with road := r } := rfl
@[simp] theorem State.setRoad_pg (r : Road) : (s.setRoad r).pg = s.pg := rfl
@[simp] theorem State.setRoad_pau (r : Road) : (s.setRoad r).pau = s.pau := rfl
@[simp] theorem State.setRoad_ht (r : Road) : (s.setRoad r).ht = s.ht := rfl
@[simp] theorem State.setRoad_mfs (r : Road) : (s.setRoad r).mfs = s.mfs := rfl
@[simp] theorem State.setRoad_sp (r : Road) : (s.setRoad r).sp = s.sp := rfl

/-! ### setRun -/

@[simp] theorem State.setRun_pending (h : Head) (r : RunRec) : (s.setRun h r).pending = s.pending := rfl
@[simp] theorem State.setRun_free (h : Head) (r : RunRec) : (s.setRun h r).free = s.free := rfl
@[simp] theorem State.setRun_cs (h : Head) (r : RunRec) : (s.setRun h r).cs = s.cs := rfl
@[simp] theorem State.setRun_iq (h : Head) (r : RunRec) : (s.setRun h r).iq = s.iq := rfl
@[simp] theorem State.setRun_om (h : Head) (r : RunRec) : (s.setRun h r).om = s.om := rfl
@[simp] theorem State.setRun_mu (h : Head) (r : RunRec) : (s.setRun h r).mu = s.mu := rfl
@[simp] theorem State.setRun_smc (h : Head) (r : RunRec) : (s.setRun h r).smc = s.smc := rfl
@[simp] theorem State.setRun_rcs (h : Head) (r : RunRec) : (s.setRun h r).rcs = s.rcs := rfl
@[simp] theorem State.setRun_pg (h : Head) (r : RunRec) : (s.setRun h r).pg = { s.pg with heads := s.pg.heads.set h r } := rfl
@[simp] theorem State.setRun_pau (h : Head) (r : RunRec) : (s.setRun h r).pau = s.pau := rfl
@[simp] theorem State.setRun_ht (h : Head) (r : RunRec) : (s.setRun h r).ht = s.ht := rfl
@[simp] theorem State.setRun_mfs (h : Head) (r : RunRec) : (s.setRun h r).mfs = s.mfs := rfl
@[simp] theorem State.setRun_sp (h : Head) (r : RunRec) : (s.setRun h r).sp = s.sp := rfl

/-! ### setPassage -/

@[simp] theorem State.setPassage_pending (i : Fin 16) (p : Passage) : (s.setPassage i p).pending = s.pending := rfl
@[simp] theorem State.setPassage_free (i : Fin 16) (p : Passage) : (s.setPassage i p).free = s.free := rfl
@[simp] theorem State.setPassage_cs (i : Fin 16) (p : Passage) : (s.setPassage i p).cs = s.cs := rfl
@[simp] theorem State.setPassage_iq (i : Fin 16) (p : Passage) : (s.setPassage i p).iq = s.iq := rfl
@[simp] theorem State.setPassage_om (i : Fin 16) (p : Passage) : (s.setPassage i p).om = s.om := rfl
@[simp] theorem State.setPassage_mu (i : Fin 16) (p : Passage) : (s.setPassage i p).mu = s.mu := rfl
@[simp] theorem State.setPassage_smc (i : Fin 16) (p : Passage) : (s.setPassage i p).smc = s.smc := rfl
@[simp] theorem State.setPassage_rcs (i : Fin 16) (p : Passage) : (s.setPassage i p).rcs = s.rcs := rfl
@[simp] theorem State.setPassage_pg (i : Fin 16) (p : Passage) : (s.setPassage i p).pg = s.pg := rfl
@[simp] theorem State.setPassage_pau (i : Fin 16) (p : Passage) : (s.setPassage i p).pau = s.pau.setRecord i (some p) := rfl
@[simp] theorem State.setPassage_ht (i : Fin 16) (p : Passage) : (s.setPassage i p).ht = s.ht := rfl
@[simp] theorem State.setPassage_mfs (i : Fin 16) (p : Passage) : (s.setPassage i p).mfs = s.mfs := rfl
@[simp] theorem State.setPassage_sp (i : Fin 16) (p : Passage) : (s.setPassage i p).sp = s.sp := rfl

/-! ### onOpening -/

@[simp] theorem State.onOpening_pending (f : Opening → Opening) : (s.onOpening f).pending = s.pending := rfl
@[simp] theorem State.onOpening_free (f : Opening → Opening) : (s.onOpening f).free = s.free := rfl
@[simp] theorem State.onOpening_cs (f : Opening → Opening) : (s.onOpening f).cs = s.cs := rfl
@[simp] theorem State.onOpening_iq (f : Opening → Opening) : (s.onOpening f).iq = s.iq := rfl
@[simp] theorem State.onOpening_om (f : Opening → Opening) : (s.onOpening f).om = s.om := rfl
@[simp] theorem State.onOpening_mu (f : Opening → Opening) : (s.onOpening f).mu = s.mu := rfl
@[simp] theorem State.onOpening_smc (f : Opening → Opening) : (s.onOpening f).smc = s.smc := rfl
@[simp] theorem State.onOpening_rcs (f : Opening → Opening) : (s.onOpening f).rcs = s.rcs := rfl
@[simp] theorem State.onOpening_pg (f : Opening → Opening) : (s.onOpening f).pg = s.pg := rfl
@[simp] theorem State.onOpening_pau (f : Opening → Opening) : (s.onOpening f).pau = { s.pau with opening := f s.pau.opening } := rfl
@[simp] theorem State.onOpening_ht (f : Opening → Opening) : (s.onOpening f).ht = s.ht := rfl
@[simp] theorem State.onOpening_mfs (f : Opening → Opening) : (s.onOpening f).mfs = s.mfs := rfl
@[simp] theorem State.onOpening_sp (f : Opening → Opening) : (s.onOpening f).sp = s.sp := rfl

/-! ### The families of like things: what is read back after a write -/

@[simp] theorem PerTower.get_set {α : Type} (p : PerTower α) (t u : Tower) (x : α) :
    (p.set t x).get u = if t = u then x else p.get u := by cases t <;> cases u <;> rfl

@[simp] theorem PerPort.get_set {α : Type} (p : PerPort α) (t u : Port) (x : α) :
    (p.set t x).get u = if t = u then x else p.get u := by cases t <;> cases u <;> rfl

@[simp] theorem PerGate.get_set {α : Type} (p : PerGate α) (t u : Gate) (x : α) :
    (p.set t x).get u = if t = u then x else p.get u := by cases t <;> cases u <;> rfl

@[simp] theorem PerHead.get_set {α : Type} (p : PerHead α) (t u : Head) (x : α) :
    (p.set t x).get u = if t = u then x else p.get u := by cases t <;> cases u <;> rfl

@[simp] theorem PerPort.set_set {α : Type} (p : PerPort α) (t : Port) (x y : α) : (p.set t x).set t y = p.set t y := by
  cases t <;> rfl

@[simp] theorem PerTower.set_set {α : Type} (p : PerTower α) (t : Tower) (x y : α) : (p.set t x).set t y = p.set t y := by
  cases t <;> rfl

@[simp] theorem PerGate.set_set {α : Type} (p : PerGate α) (t : Gate) (x y : α) : (p.set t x).set t y = p.set t y := by
  cases t <;> rfl

@[simp] theorem PerPort.set_get {α : Type} (p : PerPort α) (t : Port) : p.set t (p.get t) = p := by cases t <;> rfl

@[simp] theorem PerGate.get_mapAll {α : Type} (p : PerGate α) (f : α → α) (g : Gate) : (p.mapAll f).get g = f (p.get g) := by
  cases g <;> rfl

/-- What a command reads after a command is set (R8). -/
@[simp] theorem State.cmd_setCmd (f g : Fin 40) (b : Bool) : (s.setCmd f b).cmd g = if f = g then b else s.cmd g := by
  simp [State.cmd, State.setCmd, State.onOm, Om.setCmd, Vector.getElem_set, Fin.ext_iff]

end Sys2Proof.Machine
end

