-- ==== Sys2Proof/Laws/Lines.lean ====
section
/-! SUPPORT. What a sampling instant that qualifies one line does (R2, R3), said once: the new levels are held, the proving
comparisons are looked at again, and the line's event is delivered. -/

namespace Sys2Proof.Machine

/-- The sampled column holds what the part samples of each line (R1, R6). -/
theorem State.sampleColumn_getLsb (s : State) (lines : BitVec 48) (k : Fin 48) :
    (s.sampleColumn lines).getLsb k = s.sampleOf lines k := by
  have hm : ∀ k : Fin 48, (~~~((1 : BitVec 48) ||| (1 : BitVec 48) <<< 35)).getLsb k = !decide (k = 0 ∨ k = 35) := by
    decide +kernel
  have h1 : ∀ k : Fin 48, (1 : BitVec 48).getLsb k = decide (k = 0) := by decide +kernel
  have hand : ∀ a b : BitVec 48, (a &&& b).getLsb k = (a.getLsb k && b.getLsb k) := fun a b => by simp [BitVec.getLsb]
  have hor : ∀ a b : BitVec 48, (a ||| b).getLsb k = (a.getLsb k || b.getLsb k) := fun a b => by simp [BitVec.getLsb]
  unfold State.sampleColumn State.sampleOf
  cases s.om.loopClosed
  · simp only [Bool.false_eq_true, if_false]
    rw [hand, hm]
    by_cases h0 : k = 0
    · simp [h0]
    · by_cases h35 : k = 35 <;> simp [h0, h35]
  · simp only [if_true]
    rw [hor, hand, hm, h1]
    by_cases h0 : k = 0
    · simp [h0]
    · by_cases h35 : k = 35 <;> simp [h0, h35]

/-- Of 48 lines only one is line `l`. -/
theorem finRange_filter_eq (l : Fin 48) : (List.finRange 48).filter (· = l) = [l] := by revert l; decide +kernel

/-- The changed lines of a one-line change of a line that has a receiving block (R1, R3). -/
theorem changedLines_single {q q' : BitVec 48} {l : Fin 48} (hl : l.val < 45) (h35 : l.val ≠ 35)
    (h : ∀ k : Fin 48, (q.getLsb k != q'.getLsb k) = decide (k = l)) : changedLines q q' = [l] := by
  rw [← finRange_filter_eq l]
  refine List.filter_congr fun k _ => ?_
  rw [h k]
  by_cases e : k = l <;> simp_all

/-- A sampling instant that qualifies one line delivers that line's event alone (R2, R3, R7, R77). -/
theorem State.sample_of_qualifies {s : State} {lines : BitVec 48} {l : Fin 48} {b : Bool} (lamps : BitVec 15)
    (hl : l.val < 45) (h35 : l.val ≠ 35) (h : s.qualifies lines l b) :
    ∃ q' : BitVec 48, q'.getLsb l = b ∧ (∀ k, k ≠ l → q'.getLsb k = s.line k) ∧
      s.sample lines lamps =
        ((s.onIq fun i =>
          { i with samples := addSample i.samples (s.sampleColumn lines), qualified := some q', sensed := some lamps,
                   samplingTimer := some 14400 }).compare).deliverLine l := by
  obtain ⟨ht, x, y, q, hs, hq, hb, hm⟩ := h
  have hget : ∀ k : Fin 48, (majority x y (s.sampleColumn lines)).getLsb k = if k = l then b else q.getLsb k := fun k => by
    rw [← hm k, ← s.sampleColumn_getLsb lines k]
    simp [majority, BitVec.getLsb]
  have hqual : qualify (addSample s.iq.samples (s.sampleColumn lines)) = some (majority x y (s.sampleColumn lines)) := by
    obtain hs | ⟨o, hs⟩ := hs <;> simp [hs, addSample, qualify]
  refine ⟨majority x y (s.sampleColumn lines), by rw [hget, if_pos rfl], fun k hk => by rw [hget, if_neg hk]; simp only [State.line, hq], ?_⟩
  have hch : changedLines q (majority x y (s.sampleColumn lines)) = [l] :=
    changedLines_single hl h35 fun k => by
      rw [hget k]
      by_cases e : k = l <;> simp_all
  have hn : s.iq.samplingTimer.isNone = false := by simpa using ht
  simp only [State.sample, hn, hq, hqual, hch, State.inAnyOrder, freeOrder, List.length_singleton]
  rfl

end Sys2Proof.Machine
end

