-- ==== Sys2Proof/Laws/Ops.lean ====
section
/-! SUPPORT. What the shared operations of `Machine/Ops.lean` can do: a free order is a permutation, a command reaches
one function, and a condition report reaches one fault, the first trip fault and the summary alarm. -/

namespace Sys2Proof.Machine

/-! ### Free orders -/

/-- A free order holds the elements of its list, each as often. -/
theorem freeOrder_perm {α : Type} (n k : Nat) (l : List α) (h : l.length ≤ n) : (freeOrder n k l).1.Perm l := by
  induction n generalizing k l with
  | zero => simp [freeOrder]
  | succ n ih =>
    match l, h with
    | [], _ => simp [freeOrder]
    | [x], _ => simp [freeOrder]
    | x :: y :: t, h =>
      simp only [freeOrder]
      generalize hi : Config.order k % (x :: y :: t).length = i
      have hlt : i < (x :: y :: t).length := hi ▸ Nat.mod_lt _ (by simp)
      have hlen : ((x :: y :: t).eraseIdx i).length ≤ n := by
        rw [List.length_eraseIdx_of_lt hlt]; simp only [List.length_cons] at h ⊢; omega
      have h1 : ((x :: y :: t).drop i).take 1 = [(x :: y :: t)[i]] := by
        rw [List.drop_eq_getElem_cons hlt]; simp
      rw [h1]
      exact ((ih (k + 1) _ hlen).cons _).trans (List.getElem_cons_eraseIdx_perm hlt)

/-- What each call of `f` keeps, a free order of calls keeps. -/
theorem State.inAnyOrder_keeps {α : Type} (P : State → Prop) (f : State → α → State) (l : List α) (s : State)
    (hf : ∀ x ∈ l, ∀ t, P t → P (f t x)) (h : ∀ k, P { s with free := k }) : P (s.inAnyOrder l f) := by
  have hp := freeOrder_perm l.length s.free l (Nat.le_refl _)
  have keep : ∀ (m : List α) (t : State), (∀ x ∈ m, ∀ u, P u → P (f u x)) → P t → P (m.foldl f t) := by
    intro m
    induction m with
    | nil => intro t _ ht; exact ht
    | cons x m ih =>
      intro t hm ht
      exact ih _ (fun y hy => hm y (by simp [hy])) (hm x (by simp) t ht)
  exact keep _ _ (fun x hx => hf x (hp.mem_iff.mp hx)) (h _)

@[simp] theorem State.inAnyOrder_nil {α : Type} (s : State) (f : State → α → State) : s.inAnyOrder [] f = s := rfl

@[simp] theorem State.inAnyOrder_single {α : Type} (s : State) (x : α) (f : State → α → State) :
    s.inAnyOrder [x] f = f s x := rfl

/-! ### Commands -/

@[simp] theorem State.setCmd_cmd (s : State) (f g : Fin 40) (b : Bool) :
    (s.setCmd f b).cmd g = if f = g then b else s.cmd g := by
  simp only [State.setCmd, State.cmd, State.onOm_om, Om.setCmd, Fin.getElem_fin, Vector.getElem_set, Fin.ext_iff]

@[simp] theorem State.setCmd_speed (s : State) (f : Fin 40) (b : Bool) : (s.setCmd f b).om.speed = s.om.speed := rfl

@[simp] theorem State.setCmd_latch (s : State) (f : Fin 40) (b : Bool) : (s.setCmd f b).om.latch = s.om.latch := rfl

/-! ### Fault values -/

@[simp] theorem State.reportFault_fault (s : State) (f g : Fin 37) (b : Bool) :
    (s.reportFault f b).fault g = if f = g then (s.fault f).report b else s.fault g := by
  simp only [State.reportFault, State.driveAlarm, State.fault, State.setCmd_mfs, State.onMfs_mfs, Fin.getElem_fin,
    Vector.getElem_set, Fin.ext_iff]

@[simp] theorem State.reportFault_firstTrip (s : State) (f : Fin 37) (b : Bool) :
    (s.reportFault f b).mfs.firstTrip =
      if s.faultEnters f b && isTripFault f && s.mfs.firstTrip.isNone then some f else s.mfs.firstTrip := rfl

@[simp] theorem State.reportFault_cmd (s : State) (f : Fin 37) (b : Bool) (g : Fin 40) :
    (s.reportFault f b).cmd g = if g = 39 then (s.reportFault f b).mfs.alarm else s.cmd g := by
  simp only [State.reportFault, State.driveAlarm, State.setCmd_cmd, State.setCmd_mfs, eq_comm (a := g)]
  rfl

/-- The summary alarm is on exactly while some fault is not CLEAR (R200). -/
theorem State.alarm_iff (s : State) : s.mfs.alarm = true ↔ ∃ f, s.fault f ≠ .clear := by
  simp only [Mfs.alarm, State.fault, List.any_eq_true, decide_eq_true_eq, Vector.mem_toList_iff, Fin.getElem_fin]
  constructor
  · rintro ⟨v, hv, hn⟩
    obtain ⟨i, hi, rfl⟩ := Vector.getElem_of_mem hv
    exact ⟨⟨i, hi⟩, hn⟩
  · rintro ⟨f, hf⟩
    exact ⟨_, Vector.getElem_mem f.isLt, hf⟩

end Sys2Proof.Machine
end

