-- ==== Sys2Proof/Laws/Ports.lean ====
section
/-! SUPPORT. What taking a request does (R207, R208, R211), said once: a request that fails its screening, and one that passes
and is answered by its owner. -/

namespace Sys2Proof.Machine

/-- What `State.offers` says. -/
theorem State.offers_iff (s : State) (p : Port) (b : Buffered) (rest : List Buffered) :
    s.offers p b rest = true ↔
      s.cs.held = false ∧ (s.sp.get p).tx = .idle ∧ (s.sp.get p).buffer = b :: rest ∧ b.frame.parityError = false ∧
        b.frame.framingError = false ∧ b.frame.checkError = false := by
  simp [State.offers, and_assoc]

/-- A frame of a request kind, well received, is not dropped. -/
theorem State.not_dropped {s : State} {p : Port} {b : Buffered} {rest : List Buffered} (h : s.offers p b rest = true)
    (hk : b.frame.kind.toNat < 0x80) : Machine.Frame.dropped b.frame = false := by
  obtain ⟨_, _, _, h1, h2, h3⟩ := (s.offers_iff p b rest).1 h
  simp only [Machine.Frame.dropped, h1, h2, h3, Bool.false_or, decide_eq_false_iff_not]
  omega

/-- The state in which the owner takes the request: the older entry is gone from the buffer (R207). -/
def State.popped (s : State) (p : Port) (rest : List Buffered) : State :=
  { s with sp := s.sp.set p { s.sp.get p with buffer := rest } }

/-- SP hands a request that passes its screening to its owner, and forms the owner's answer. -/
theorem State.takeRequest_owner {s : State} {p : Port} {b : Buffered} {rest : List Buffered} {row : Instr}
    (owner : Frame → State → Answer × State) (h : s.offers p b rest = true) (hr : takeCommand p b.frame = row)
    (hs : s.screen p b.frame = none) :
    s.takeRequest p row owner = (owner b.frame (s.popped p rest)).2.formReply p b (owner b.frame (s.popped p rest)).1 := by
  obtain ⟨h0, h1, h2, _⟩ := (s.offers_iff p b rest).1 h
  have hp : s.onPort p PortRec.pop = s.popped p rest := by
    simp [State.onPort, PortRec.pop, State.popped, h2]
  have hs' : (s.popped p rest).screen p b.frame = none := by
    rw [← hs]; rfl
  simp [State.takeRequest, State.takeable, h0, h1, h2, hr, hp, hs']

/-- A reply formed to an entry that has been popped is `answered`. -/
theorem State.popped_refuse (s : State) (p : Port) (b : Buffered) (rest : List Buffered) (st : Status) :
    (s.popped p rest).formReply p b (.refuse st) = s.answered p b rest st.ctorIdx [] := by
  cases p <;>
    simp [State.popped, State.formReply, State.answered, State.replied, State.replyWith, State.onPort, replyTo, Answer.refuse,
      guardLeft, charTicks, ch, beBytes, replyFlags, flagChar, PerPort.set, PerPort.get, State.act]
  · by_cases h : s.sp.operator.overrun = true <;> simp [h]
  · by_cases h : s.sp.traffic.overrun = true <;> simp [h]

/-- SP answers a request that fails its screening, and nothing else changes (R208). -/
theorem State.takeRequest_refused {s : State} {p : Port} {b : Buffered} {rest : List Buffered} {row : Instr} {st : Status}
    (owner : Frame → State → Answer × State) (h : s.offers p b rest = true) (hr : takeCommand p b.frame = row)
    (hs : s.screen p b.frame = some st) :
    s.takeRequest p row owner = s.answered p b rest st.ctorIdx [] := by
  obtain ⟨h0, h1, h2, _⟩ := (s.offers_iff p b rest).1 h
  have hp : s.onPort p PortRec.pop = s.popped p rest := by
    simp [State.onPort, PortRec.pop, State.popped, h2]
  have hs' : (s.popped p rest).screen p b.frame = some st := by
    rw [← hs]; rfl
  rw [← s.popped_refuse p b rest st]
  simp [State.takeRequest, State.takeable, h0, h1, h2, hr, hp, hs']

/-- The reply of an owner that leaves the ports alone: the state it makes, answered (R208, R211). -/
theorem State.formReply_ok {u s : State} {p : Port} (b : Buffered) (rest : List Buffered) (a : Answer)
    (hu : u.sp = (s.popped p rest).sp) (hc : a.commits = false) (hr : a.restarts = false) :
    u.formReply p b a =
      ({ u with sp := s.sp }).replied p b rest (s.replyWith p b a.status.ctorIdx a.clamped a.body) := by
  obtain ⟨st, cl, body, cm, rs⟩ := a
  simp only at hc hr
  subst hc hr
  cases p <;>
  simp [State.popped, State.formReply, State.replied, State.replyWith, State.onPort, replyTo, hu,
    guardLeft, charTicks, ch, beBytes, replyFlags, flagChar, PerPort.set, PerPort.get, State.act]
  · by_cases h : s.sp.operator.overrun = true <;> cases cl <;> simp [h]
  · by_cases h : s.sp.traffic.overrun = true <;> cases cl <;> simp [h]

end Sys2Proof.Machine
end

