-- ==== Sys2Proof/Laws/Stores.lean ====
section
/-! SUPPORT. What the operations of SMC, RCS, PG, PAU, HT and MFS leave alone: the queue of commands, the settings, the input
levels, the measurement set and the ports. One lemma for each operation. -/

namespace Sys2Proof.Machine

/-- The parts of the state that only CS, IQ, MU and SP change. -/
def State.stores (s : State) : List Instr × Cs × Iq × Mu × PerPort PortRec := (s.pending, s.cs, s.iq, s.mu, s.sp)

theorem stores_ite {c : Prop} [Decidable c] (a b : State) :
    (if c then a else b).stores = if c then a.stores else b.stores := by split <;> rfl

theorem foldl_stores {α : Type} (f : State → α → State) (h : ∀ s x, (f s x).stores = s.stores) (l : List α) (s : State) :
    (l.foldl f s).stores = s.stores := by
  induction l generalizing s with
  | nil => rfl
  | cons x t ih => rw [List.foldl_cons, ih, h]

theorem inAnyOrder_stores {α : Type} (f : State → α → State) (h : ∀ s x, (f s x).stores = s.stores) (l : List α)
    (s : State) : (s.inAnyOrder l f).stores = s.stores := by
  rw [State.inAnyOrder, foldl_stores f h]; rfl

@[simp] theorem State.onOm_stores (s : State) (f : Om → Om) : (s.onOm f).stores = s.stores := rfl
@[simp] theorem State.onSmc_stores (s : State) (f : Smc → Smc) : (s.onSmc f).stores = s.stores := rfl
@[simp] theorem State.onRcs_stores (s : State) (f : Rcs → Rcs) : (s.onRcs f).stores = s.stores := rfl
@[simp] theorem State.onPg_stores (s : State) (f : Pg → Pg) : (s.onPg f).stores = s.stores := rfl
@[simp] theorem State.onPau_stores (s : State) (f : Pau → Pau) : (s.onPau f).stores = s.stores := rfl
@[simp] theorem State.onHt_stores (s : State) (f : Ht → Ht) : (s.onHt f).stores = s.stores := rfl
@[simp] theorem State.onMfs_stores (s : State) (f : Mfs → Mfs) : (s.onMfs f).stores = s.stores := rfl
@[simp] theorem State.setCmd_stores (s : State) (f : Fin 40) (b : Bool) : (s.setCmd f b).stores = s.stores := rfl
@[simp] theorem State.stage_stores (s : State) (t : Tower) (d : Nat) : (s.stage t d).stores = s.stores := rfl
@[simp] theorem State.setTower_stores (s : State) (t : Tower) (r : TowerRec) : (s.setTower t r).stores = s.stores := rfl
@[simp] theorem State.setGate_stores (s : State) (g : Gate) (r : GateRec) : (s.setGate g r).stores = s.stores := rfl
@[simp] theorem State.setRoad_stores (s : State) (r : Road) : (s.setRoad r).stores = s.stores := rfl
@[simp] theorem State.setRun_stores (s : State) (h : Head) (r : RunRec) : (s.setRun h r).stores = s.stores := rfl
@[simp] theorem State.setPassage_stores (s : State) (i : Fin 16) (p : Passage) : (s.setPassage i p).stores = s.stores := rfl
@[simp] theorem State.onOpening_stores (s : State) (f : Opening → Opening) : (s.onOpening f).stores = s.stores := rfl

@[simp] theorem State.driveAlarm_stores (s : State) : (State.driveAlarm s).stores = s.stores := rfl

@[simp] theorem State.reportFault_stores (s : State) (f : Fin 37) (present : Bool) :
    (State.reportFault s f present).stores = s.stores := rfl

@[simp] theorem State.lightStep_stores (s : State) (h : Head) (p : PatternStep) :
    (State.lightStep s h p).stores = s.stores := rfl

@[simp] theorem State.showStep_stores (s : State) (h : Head) (r : RunRec) :
    (State.showStep s h r).stores = s.stores := rfl

@[simp] theorem State.startAspect_stores (s : State) (h : Head) (a : Aspect) :
    (State.startAspect s h a).stores = s.stores := rfl

@[simp] theorem State.requestAspect_stores (s : State) (h : Head) (a : Aspect) :
    (State.requestAspect s h a).stores = s.stores := by
  unfold State.requestAspect
  simp only []
  split <;> (try split) <;> (try split) <;> simp [stores_ite]

@[simp] theorem State.requestAdmit_stores (s : State) : (State.requestAdmit s).stores = s.stores := by
  simp [State.requestAdmit, stores_ite]

@[simp] theorem State.requestDanger_stores (s : State) : (State.requestDanger s).stores = s.stores := by
  unfold State.requestDanger
  split <;> simp [stores_ite]

@[simp] theorem State.endStep_stores (s : State) (h : Head) : (State.endStep s h).stores = s.stores := by
  unfold State.endStep
  simp only []
  split <;> (try split) <;> (try split) <;> simp [stores_ite]

@[simp] theorem State.restartHead_stores (s : State) (h : Head) : (State.restartHead s h).stores = s.stores := by
  unfold State.restartHead
  split <;> simp [stores_ite]

@[simp] theorem State.reportAgreed_stores (s : State) (f : Fin 37) (agreed : Bool) :
    (State.reportAgreed s f agreed).stores = s.stores := by
  simp [State.reportAgreed, stores_ite]

@[simp] theorem State.compareTower_stores (s : State) (t : Tower) : (State.compareTower s t).stores = s.stores := by
  simp [State.compareTower, stores_ite]

@[simp] theorem State.compare_stores (s : State) :
    (State.compare s).stores = s.stores := by simp [State.compare, stores_ite]

@[simp] theorem State.assertDirection_stores (s : State) (t : Tower) (raise : Bool) :
    (State.assertDirection s t raise).stores = s.stores := rfl

@[simp] theorem State.startTower_stores (s : State) (raise : Bool) (t : Tower) :
    (State.startTower s raise t).stores = s.stores := by
  unfold State.startTower
  split <;> simp [stores_ite]

@[simp] theorem State.releaseDirection_stores (s : State) (t : Tower) :
    (State.releaseDirection s t).stores = s.stores := by
  simp [State.releaseDirection, stores_ite]

@[simp] theorem State.setBrake_stores (s : State) (t : Tower) : (State.setBrake s t).stores = s.stores := rfl

@[simp] theorem State.stopTower_stores (s : State) (t : Tower) : (State.stopTower s t).stores = s.stores := by
  unfold State.stopTower
  split <;> simp [stores_ite]

@[simp] theorem State.quickStopTower_stores (s : State) (t : Tower) : (State.quickStopTower s t).stores = s.stores := by
  unfold State.quickStopTower
  split <;> simp [stores_ite]

@[simp] theorem State.enterHalted_stores (s : State) : (State.enterHalted s).stores = s.stores := rfl

@[simp] theorem State.setAttendance_stores (s : State) : (State.setAttendance s).stores = s.stores := rfl

@[simp] theorem State.stopAttendance_stores (s : State) : (State.stopAttendance s).stores = s.stores := rfl

@[simp] theorem State.refreshAttendance_stores (s : State) : (State.refreshAttendance s).stores = s.stores := by
  simp [State.refreshAttendance, stores_ite]

@[simp] theorem State.attendanceSource_stores (s : State) : (State.attendanceSource s).stores = s.stores := by
  unfold State.attendanceSource; repeat' split
  all_goals simp [stores_ite, foldl_stores, inAnyOrder_stores]

@[simp] theorem State.zeroSpeed_stores (s : State) : (State.zeroSpeed s).stores = s.stores := rfl

@[simp] theorem State.quickStop_stores (s : State) :
    (State.quickStop s).stores = s.stores := by simp [State.quickStop, stores_ite]

@[simp] theorem State.speedControl_stores (s : State) : (State.speedControl s).stores = s.stores := by
  simp [State.speedControl, stores_ite]

@[simp] theorem State.finishLocking_stores (s : State) : (State.finishLocking s).stores = s.stores := by
  simp [State.finishLocking, stores_ite]

@[simp] theorem State.enterLocking_stores (s : State) : (State.enterLocking s).stores = s.stores := by
  simp [State.enterLocking, stores_ite]

@[simp] theorem State.checkSeated_stores (s : State) : (State.checkSeated s).stores = s.stores := by
  simp [State.checkSeated, stores_ite]

@[simp] theorem State.seatTower_stores (s : State) (t : Tower) : (State.seatTower s t).stores = s.stores := by
  simp [State.seatTower, stores_ite]

@[simp] theorem State.seatIfMade_stores (s : State) (t : Tower) : (State.seatIfMade s t).stores = s.stores := by
  simp [State.seatIfMade, stores_ite]

@[simp] theorem State.enterSeating_stores (s : State) (fromRest : Bool) :
    (State.enterSeating s fromRest).stores = s.stores := by
  simp [State.enterSeating, stores_ite]

@[simp] theorem State.handAspect_stores (s : State) (d : Dir) : (State.handAspect s d).stores = s.stores := by
  simp [State.handAspect, stores_ite]

@[simp] theorem State.decideAspects_stores (s : State) : (State.decideAspects s).stores = s.stores := by
  simp [State.decideAspects, stores_ite]

@[simp] theorem State.admitMember_stores (d : Dir) (s : State) (h : Handle 16) : (State.admitMember d s h).stores = s.stores := by
  unfold State.admitMember
  split <;> simp [stores_ite]

@[simp] theorem State.admissionTest_stores (s : State) : (State.admissionTest s).stores = s.stores := by
  unfold State.admissionTest; repeat' split
  all_goals simp [stores_ite, foldl_stores, inAnyOrder_stores]

@[simp] theorem State.settleDirection_stores (s : State) : (State.settleDirection s).stores = s.stores := by
  unfold State.settleDirection
  split <;> simp [stores_ite]

@[simp] theorem State.backToGrouped_stores (s : State) (h : Handle 16) :
    (State.backToGrouped s h).stores = s.stores := by
  unfold State.backToGrouped
  split <;> simp [stores_ite]

@[simp] theorem State.backToFiled_stores (s : State) (h : Handle 16) : (State.backToFiled s h).stores = s.stores := by
  unfold State.backToFiled
  split <;> simp [stores_ite]

@[simp] theorem State.callBack_stores (s : State) (test : Passage → Bool) :
    (State.callBack s test).stores = s.stores := by
  unfold State.callBack; repeat' split
  all_goals simp [stores_ite, foldl_stores, inAnyOrder_stores]

@[simp] theorem State.finishingTest_stores (s : State) : (State.finishingTest s).stores = s.stores := by
  simp [State.finishingTest, stores_ite]

@[simp] theorem State.enterClosing_stores (s : State) : (State.enterClosing s).stores = s.stores := by
  unfold State.enterClosing; repeat' split
  all_goals simp [stores_ite, foldl_stores, inAnyOrder_stores]

@[simp] theorem State.closeIfEmpty_stores (s : State) : (State.closeIfEmpty s).stores = s.stores := by
  simp [State.closeIfEmpty, stores_ite]

@[simp] theorem State.closeIfSpent_stores (s : State) : (State.closeIfSpent s).stores = s.stores := by
  simp [State.closeIfSpent, stores_ite]

@[simp] theorem State.budgetSpent_stores (s : State) : (State.budgetSpent s).stores = s.stores := by
  unfold State.budgetSpent; repeat' split
  all_goals simp [stores_ite, foldl_stores, inAnyOrder_stores]

@[simp] theorem State.evaluateClearance_stores (s : State) : (State.evaluateClearance s).stores = s.stores := rfl

@[simp] theorem State.intrusion_stores (s : State) :
    (State.intrusion s).stores = s.stores := by simp [State.intrusion, stores_ite]

@[simp] theorem State.endIntrusion_stores (s : State) : (State.endIntrusion s).stores = s.stores := by
  simp [State.endIntrusion, stores_ite]

@[simp] theorem State.departed_stores (s : State) :
    (State.departed s).stores = s.stores := by simp [State.departed, stores_ite]

@[simp] theorem State.retirePassage_stores (s : State) (i : Fin 16) : (State.retirePassage s i).stores = s.stores := by
  simp [State.retirePassage, stores_ite]

@[simp] theorem State.holdingEntered_stores (s : State) : (State.holdingEntered s).stores = s.stores := by
  simp [State.holdingEntered, stores_ite]

@[simp] theorem State.holdingLeft_stores (s : State) : (State.holdingLeft s).stores = s.stores := by
  simp [State.holdingLeft, stores_ite]

@[simp] theorem State.pauTakesSet_stores (s : State) : (State.pauTakesSet s).stores = s.stores := by
  unfold State.pauTakesSet
  simp only []
  split <;> (try split) <;> (try split) <;> simp [stores_ite]

@[simp] theorem State.marineStopPlaced_stores (s : State) : (State.marineStopPlaced s).stores = s.stores := by
  simp [State.marineStopPlaced, stores_ite]

@[simp] theorem State.channelHeadChanged_stores (s : State) (d : Dir) :
    (State.channelHeadChanged s d).stores = s.stores := by
  simp [State.channelHeadChanged, stores_ite]

@[simp] theorem State.enters_stores (s : State) (h : Handle 16) : (State.enters s h).stores = s.stores := by
  unfold State.enters
  split <;> simp [stores_ite]

@[simp] theorem State.beamBreaks_stores (s : State) (b : Beam) : (State.beamBreaks s b).stores = s.stores := by
  unfold State.beamBreaks
  simp only []
  split <;> (try split) <;> (try split) <;> simp [stores_ite]

@[simp] theorem State.beamRestores_stores (s : State) (b : Beam) : (State.beamRestores s b).stores = s.stores := by
  unfold State.beamRestores; repeat' split
  all_goals simp [stores_ite, foldl_stores, inAnyOrder_stores]

@[simp] theorem State.beamEvent_stores (s : State) (b : Beam) (clear : Bool) :
    (State.beamEvent s b clear).stores = s.stores := by
  simp [State.beamEvent, stores_ite]

@[simp] theorem State.group_stores (s : State) (h : Handle 16) : (State.group s h).stores = s.stores := by
  unfold State.group
  split <;> simp [stores_ite]

@[simp] theorem State.joinTest_stores (s : State) (i : Fin 16) : (State.joinTest s i).stores = s.stores := by
  unfold State.joinTest
  simp only []
  split <;> (try split) <;> (try split) <;> simp [stores_ite]

@[simp] theorem State.markUnreachable_stores (s : State) (i : Fin 16) :
    (State.markUnreachable s i).stores = s.stores := by
  unfold State.markUnreachable
  split <;> simp [stores_ite]

@[simp] theorem State.formOpening_stores (s : State) : (State.formOpening s).stores = s.stores := by
  unfold State.formOpening
  simp only [State.decideAspects_stores]
  split <;> simp only [State.holdingEntered_stores, State.quickStop_stores] <;>
    rw [foldl_stores _ State.group_stores, State.onOpening_stores, foldl_stores _ State.markUnreachable_stores]

@[simp] theorem State.countWait_stores (s : State) (i : Fin 16) : (State.countWait s i).stores = s.stores := by
  unfold State.countWait
  split <;> simp [stores_ite]

@[simp] theorem State.lapse_stores (s : State) (i : Fin 16) (p : Passage) : (State.lapse s i p).stores = s.stores := by
  simp [State.lapse, stores_ite]

@[simp] theorem State.countExpiry_stores (s : State) (i : Fin 16) : (State.countExpiry s i).stores = s.stores := by
  unfold State.countExpiry; repeat' split
  all_goals simp [stores_ite, foldl_stores, inAnyOrder_stores]

@[simp] theorem State.tickRecord_stores (s : State) (i : Fin 16) : (State.tickRecord s i).stores = s.stores := by
  simp [State.tickRecord, stores_ite]

@[simp] theorem State.tickPassages_stores (s : State) : (State.tickPassages s).stores = s.stores := by
  unfold State.tickPassages; repeat' split
  all_goals simp [stores_ite, foldl_stores, inAnyOrder_stores]

@[simp] theorem State.trip_stores (s : State) : (State.trip s).stores = s.stores := by
  unfold State.trip
  split
  · rfl
  · simp only [State.compare_stores]
    split <;> simp only [State.holdingLeft_stores, State.onSmc_stores] <;>
      rw [foldl_stores _ (fun s f => State.setCmd_stores s f false)] <;> simp

@[simp] theorem State.tripReport_stores (s : State) (f : Fin 37) (present : Bool) :
    (State.tripReport s f present).stores = s.stores := by
  simp [State.tripReport, stores_ite]

@[simp] theorem State.pulseFault_stores (s : State) (f : Fin 37) : (State.pulseFault s f).stores = s.stores := by
  simp [State.pulseFault, stores_ite]

@[simp] theorem State.checkRest_stores (s : State) : (State.checkRest s).stores = s.stores := by
  unfold State.checkRest; repeat' split
  all_goals simp [stores_ite, foldl_stores, inAnyOrder_stores]

@[simp] theorem State.beginStop_stores (s : State) (k : StopKind) : (State.beginStop s k).stores = s.stores := by
  simp [State.beginStop, stores_ite]

@[simp] theorem State.haltUnlocking_stores (s : State) : (State.haltUnlocking s).stores = s.stores := by
  simp [State.haltUnlocking, stores_ite]

@[simp] theorem State.haltLocking_stores (s : State) : (State.haltLocking s).stores = s.stores := rfl

@[simp] theorem State.halt_stores (s : State) : (State.halt s).stores = s.stores := by
  unfold State.halt; repeat' split
  all_goals simp [stores_ite, foldl_stores, inAnyOrder_stores]

@[simp] theorem State.haltIn_stores (s : State) (l : List Motion) : (State.haltIn s l).stores = s.stores := by
  simp [State.haltIn, stores_ite]

@[simp] theorem State.smcHoldPlaced_stores (s : State) (k : HoldKind) :
    (State.smcHoldPlaced s k).stores = s.stores := by
  unfold State.smcHoldPlaced
  split <;> simp [stores_ite]

@[simp] theorem State.smcGateFault_stores (s : State) : (State.smcGateFault s).stores = s.stores := by
  simp [State.smcGateFault, stores_ite]

@[simp] theorem State.smcWindAlert_stores (s : State) : (State.smcWindAlert s).stores = s.stores := by
  simp [State.smcWindAlert, stores_ite]

@[simp] theorem State.smcSupplyAlert_stores (s : State) : (State.smcSupplyAlert s).stores = s.stores := by
  simp [State.smcSupplyAlert, stores_ite]

@[simp] theorem State.startTowers_stores (s : State) (raise : Bool) :
    (State.startTowers s raise).stores = s.stores := by
  simp [State.startTowers, stores_ite]

@[simp] theorem State.enterRaising_stores (s : State) : (State.enterRaising s).stores = s.stores := by
  simp [State.enterRaising, stores_ite]

@[simp] theorem State.enterUnlocking_stores (s : State) : (State.enterUnlocking s).stores = s.stores := rfl

@[simp] theorem State.enterLowering_stores (s : State) : (State.enterLowering s).stores = s.stores := by
  simp [State.enterLowering, stores_ite]

@[simp] theorem State.acceptRaise_stores (s : State) (t : Nat) : (State.acceptRaise s t).stores = s.stores := by
  unfold State.acceptRaise
  simp only []
  split <;> (try split) <;> (try split) <;> simp [stores_ite]

@[simp] theorem State.raise_stores (s : State) (w : RaiseWish) : ((State.raise s w).2.2).stores = s.stores := by
  unfold State.raise
  simp only []
  split <;> (try split) <;> (try split) <;> simp [stores_ite]

@[simp] theorem State.lower_stores (s : State) : ((State.lower s).2).stores = s.stores := by
  unfold State.lower
  simp only []
  split <;> (try split) <;> (try split) <;> simp [stores_ite]

@[simp] theorem State.leaveInitial_stores (s : State) : (State.leaveInitial s).stores = s.stores := by
  simp [State.leaveInitial, stores_ite]

@[simp] theorem State.smcAcknowledged_stores (s : State) : (State.smcAcknowledged s).stores = s.stores := by
  simp [State.smcAcknowledged, stores_ite]

@[simp] theorem State.brakeExpiry_stores (s : State) (t : Tower) : (State.brakeExpiry s t).stores = s.stores := by
  unfold State.brakeExpiry
  simp only []
  split <;> (try split) <;> (try split) <;> simp [stores_ite]

@[simp] theorem State.reversalExpiry_stores (s : State) (t : Tower) : (State.reversalExpiry s t).stores = s.stores := by
  simp [State.reversalExpiry, stores_ite]

@[simp] theorem State.lockTimeout_stores (s : State) : (State.lockTimeout s).stores = s.stores := by
  simp [State.lockTimeout, stores_ite]

@[simp] theorem State.seatTimeout_stores (s : State) : (State.seatTimeout s).stores = s.stores := by
  simp [State.seatTimeout, stores_ite]

@[simp] theorem State.attendanceExpiry_stores (s : State) : (State.attendanceExpiry s).stores = s.stores := by
  unfold State.attendanceExpiry
  split <;> simp [stores_ite]

@[simp] theorem State.disagreementExpiry_stores (s : State) (t : Tower) (p : Proving) :
    (State.disagreementExpiry s t p).stores = s.stores := by
  unfold State.disagreementExpiry
  split <;> simp [stores_ite]

@[simp] theorem State.examineTower_stores (s : State) (t : Tower) : (State.examineTower s t).stores = s.stores := by
  simp [State.examineTower, stores_ite]

@[simp] theorem State.reportOvertravel_stores (s : State) : (State.reportOvertravel s).stores = s.stores := by
  simp [State.reportOvertravel, stores_ite]

@[simp] theorem State.reportSkew_stores (s : State) (skew : Int) : (State.reportSkew s skew).stores = s.stores := by
  simp [State.reportSkew, stores_ite]

@[simp] theorem State.noteHeights_stores (s : State) (h : Heights) : (State.noteHeights s h).stores = s.stores := rfl

@[simp] theorem State.goalTest_stores (s : State) : (State.goalTest s).stores = s.stores := by
  unfold State.goalTest
  split <;> simp [stores_ite]

@[simp] theorem State.doSetTask_stores (s : State) (x : SetTask) : (State.doSetTask s x).stores = s.stores := by
  unfold State.doSetTask
  split <;> simp [stores_ite]

@[simp] theorem State.smcTakesSet_stores (s : State) : (State.smcTakesSet s).stores = s.stores := by
  unfold State.smcTakesSet; repeat' split
  all_goals simp [stores_ite, foldl_stores, inAnyOrder_stores]

@[simp] theorem State.lockWithdrawn_stores (s : State) (t : Tower) : (State.lockWithdrawn s t).stores = s.stores := by
  simp [State.lockWithdrawn, stores_ite]

@[simp] theorem State.withdrawnLost_stores (s : State) : (State.withdrawnLost s).stores = s.stores := by
  simp [State.withdrawnLost, stores_ite]

@[simp] theorem State.lockDriven_stores (s : State) (t : Tower) : (State.lockDriven s t).stores = s.stores := by
  simp [State.lockDriven, stores_ite]

@[simp] theorem State.seatedLockedLost_stores (s : State) : (State.seatedLockedLost s).stores = s.stores := by
  simp [State.seatedLockedLost, stores_ite]

@[simp] theorem State.seatEvent_stores (s : State) (t : Tower) (made : Bool) :
    (State.seatEvent s t made).stores = s.stores := by
  simp [State.seatEvent, stores_ite]

@[simp] theorem State.smcLine_stores (s : State) (l : Fin 48) (b : Bool) : (State.smcLine s l b).stores = s.stores := by
  unfold State.smcLine
  split <;> simp [stores_ite]

@[simp] theorem State.reportEstop_stores (s : State) : (State.reportEstop s).stores = s.stores := by
  simp [State.reportEstop, stores_ite]

@[simp] theorem State.setLatch_stores (s : State) :
    (State.setLatch s).stores = s.stores := by simp [State.setLatch, stores_ite]

@[simp] theorem State.setWarn_stores (s : State) (a : Aspect) : (State.setWarn s a).stores = s.stores := by
  simp [State.setWarn, stores_ite]

@[simp] theorem State.setTraf_stores (s : State) (a : Aspect) : (State.setTraf s a).stores = s.stores := by
  simp [State.setTraf, stores_ite]

@[simp] theorem State.issueGate_stores (s : State) (g : Gate) : (State.issueGate s g).stores = s.stores := rfl

@[simp] theorem State.issueGates_stores (s : State) : (State.issueGates s).stores = s.stores := by
  exact foldl_stores _ State.issueGate_stores _ _

@[simp] theorem State.stopTravel_stores (s : State) : (State.stopTravel s).stores = s.stores := rfl

@[simp] theorem State.setCauses_stores (s : State) (f : Rcs → Rcs) : (State.setCauses s f).stores = s.stores := by
  simp [State.setCauses, stores_ite]

@[simp] theorem State.noteGateFaults_stores (s : State) : (State.noteGateFaults s).stores = s.stores := by
  simp [State.noteGateFaults, stores_ite]

@[simp] theorem State.reportGate_stores (s : State) (g : Gate) (present : Bool) :
    (State.reportGate s g present).stores = s.stores := by
  simp [State.reportGate, stores_ite]

@[simp] theorem State.pulseGate_stores (s : State) (g : Gate) : (State.pulseGate s g).stores = s.stores := by
  simp [State.pulseGate, stores_ite]

@[simp] theorem State.moveGate_stores (s : State) (g : Gate) (c : GateCmd) :
    (State.moveGate s g c).stores = s.stores := by
  simp [State.moveGate, stores_ite]

@[simp] theorem State.flagObstructed_stores (s : State) (g : Gate) (c : GateCmd) :
    (State.flagObstructed s g c).stores = s.stores := by
  simp [State.flagObstructed, stores_ite]

@[simp] theorem State.driveGates_stores (s : State) (l : List (Gate × GateCmd)) :
    (State.driveGates s l).stores = s.stores := by
  unfold State.driveGates; repeat' split
  all_goals simp [stores_ite, foldl_stores, inAnyOrder_stores]

@[simp] theorem State.driveStep_stores (s : State) :
    (State.driveStep s).stores = s.stores := by simp [State.driveStep, stores_ite]

@[simp] theorem State.armClearing_stores (s : State) : (State.armClearing s).stores = s.stores := rfl

@[simp] theorem State.dropCommands_stores (s : State) : (State.dropCommands s).stores = s.stores := by
  rw [State.dropCommands, State.issueGates_stores, State.onRcs_stores]

theorem State.nextStep_stores (s t : State) (h : s.nextStep = some t) : t.stores = s.stores := by
  unfold State.nextStep at h
  repeat' split at h
  all_goals first | (cases h; simp) | cases h

@[simp] theorem State.advanceSteps_stores (n : Nat) (s : State) : (State.advanceSteps n s).stores = s.stores := by
  induction n generalizing s with
  | zero => rfl
  | succ n ih =>
    unfold State.advanceSteps
    split
    · rfl
    · split
      · rfl
      · rename_i h
        rw [ih, State.nextStep_stores _ _ h]


@[simp] theorem State.advance_stores (s : State) :
    (State.advance s).stores = s.stores := by simp [State.advance, stores_ite]

@[simp] theorem State.enterEntryLowering_stores (s : State) : (State.enterEntryLowering s).stores = s.stores := by
  simp [State.enterEntryLowering, stores_ite]

@[simp] theorem State.headsChecked_stores (s : State) : (State.headsChecked s).stores = s.stores := by
  simp [State.headsChecked, stores_ite]

@[simp] theorem State.restartStep_stores (s : State) : (State.restartStep s).stores = s.stores := by
  simp [State.restartStep, stores_ite]

@[simp] theorem State.changeCauses_stores (s : State) (f : Rcs → Rcs) : (State.changeCauses s f).stores = s.stores := by
  simp [State.changeCauses, stores_ite]

@[simp] theorem State.startBudget_stores (s : State) : (State.startBudget s).stores = s.stores := by
  simp [State.startBudget, stores_ite]

@[simp] theorem State.enterPrewarn_stores (s : State) : (State.enterPrewarn s).stores = s.stores := by
  simp [State.enterPrewarn, stores_ite]

@[simp] theorem State.closeRoad_stores (s : State) : (State.closeRoad s).stores = s.stores := by
  unfold State.closeRoad
  split <;> simp [stores_ite]

@[simp] theorem State.leaveSealed_stores (s : State) : (State.leaveSealed s).stores = s.stores := by
  unfold State.leaveSealed; repeat' split
  all_goals simp [stores_ite, foldl_stores, inAnyOrder_stores]

@[simp] theorem State.enterBarrierRaising_stores (s : State) : (State.enterBarrierRaising s).stores = s.stores := by
  simp [State.enterBarrierRaising, stores_ite]

@[simp] theorem State.reopenRoad_stores (s : State) : ((State.reopenRoad s).2).stores = s.stores := by
  unfold State.reopenRoad; repeat' split
  all_goals simp [stores_ite, foldl_stores, inAnyOrder_stores]

@[simp] theorem State.prewarnExpiry_stores (s : State) : (State.prewarnExpiry s).stores = s.stores := by
  simp [State.prewarnExpiry, stores_ite]

@[simp] theorem State.amberExpiry_stores (s : State) : (State.amberExpiry s).stores = s.stores := by
  unfold State.amberExpiry
  simp only []
  split <;> (try split) <;> (try split) <;> simp [stores_ite]

@[simp] theorem State.clearingExpiry_stores (s : State) : (State.clearingExpiry s).stores = s.stores := by
  unfold State.clearingExpiry
  split <;> simp [stores_ite]

@[simp] theorem State.extinguishExpiry_stores (s : State) : (State.extinguishExpiry s).stores = s.stores := by
  simp [State.extinguishExpiry, stores_ite]

@[simp] theorem State.travelExpiry_stores (s : State) (g : Gate) : (State.travelExpiry s g).stores = s.stores := by
  simp [State.travelExpiry, stores_ite]

@[simp] theorem State.lowerAgain_stores (s : State) (g : Gate) : (State.lowerAgain s g).stores = s.stores := by
  simp [State.lowerAgain, stores_ite]

@[simp] theorem State.settleExpiry_stores (s : State) (g : Gate) : (State.settleExpiry s g).stores = s.stores := by
  unfold State.settleExpiry
  split <;> simp [stores_ite]

@[simp] theorem State.budgetTick_stores (s : State) : (State.budgetTick s).stores = s.stores := by
  simp [State.budgetTick, stores_ite]

@[simp] theorem State.gateMoved_stores (s : State) (g : Gate) (p : GatePos) : (State.gateMoved s g p).stores = s.stores := by
  simp [State.gateMoved, stores_ite]

@[simp] theorem State.provingEvent_stores (s : State) (g : Gate) : (State.provingEvent s g).stores = s.stores := by
  simp [State.provingEvent, stores_ite]

@[simp] theorem State.zoneEvent_stores (s : State) (g : Gate) : (State.zoneEvent s g).stores = s.stores := by
  simp [State.zoneEvent, stores_ite]

@[simp] theorem State.loopEvent_stores (s : State) :
    (State.loopEvent s).stores = s.stores := by simp [State.loopEvent, stores_ite]

@[simp] theorem State.rcsLine_stores (s : State) (l : Fin 48) (b : Bool) : (State.rcsLine s l b).stores = s.stores := by
  unfold State.rcsLine
  split <;> simp [stores_ite]

@[simp] theorem State.rcsQualified_stores (s : State) : (State.rcsQualified s).stores = s.stores := by
  unfold State.rcsQualified
  rw [State.changeCauses_stores]
  split <;> simp only [State.setRoad_stores, State.startBudget_stores] <;>
    exact foldl_stores _ (fun s g => State.setGate_stores s g _) _ _

@[simp] theorem State.keepClosedPlaced_stores (s : State) : (State.keepClosedPlaced s).stores = s.stores := by
  simp [State.keepClosedPlaced, stores_ite]

@[simp] theorem State.keepClosedReleased_stores (s : State) : (State.keepClosedReleased s).stores = s.stores := by
  simp [State.keepClosedReleased, stores_ite]

@[simp] theorem State.rcsSupply_stores (s : State) (alert : Bool) : (State.rcsSupply s alert).stores = s.stores := by
  simp [State.rcsSupply, stores_ite]

@[simp] theorem State.rcsAcknowledged_stores (s : State) : (State.rcsAcknowledged s).stores = s.stores := by
  simp [State.rcsAcknowledged, stores_ite]

@[simp] theorem State.roadHeadChanged_stores (s : State) : (State.roadHeadChanged s).stores = s.stores := by
  simp [State.roadHeadChanged, stores_ite]

@[simp] theorem State.deliverImpaired_stores (s : State) (x : Head) :
    (State.deliverImpaired s x).stores = s.stores := by
  unfold State.deliverImpaired
  split <;> simp [stores_ite]

@[simp] theorem State.reformImpaired_stores (s : State) (h : Head) : (State.reformImpaired s h).stores = s.stores := by
  simp [State.reformImpaired, stores_ite]

@[simp] theorem State.reportLamp_stores (s : State) (i : Fin 15) (present : Bool) :
    (State.reportLamp s i present).stores = s.stores := by
  simp [State.reportLamp, stores_ite]

@[simp] theorem State.checkLamp_stores (s : State) (x : Fin 15 × Bool) : (State.checkLamp s x).stores = s.stores := by
  simp [State.checkLamp, stores_ite]

@[simp] theorem State.proveHead_stores (s : State) (h : Head) : (State.proveHead s h).stores = s.stores := by
  unfold State.proveHead; repeat' split
  all_goals simp [stores_ite, foldl_stores, inAnyOrder_stores]

@[simp] theorem State.provingPointOf_stores (s : State) (h : Head) : (State.provingPointOf s h).stores = s.stores := by
  simp [State.provingPointOf, stores_ite]

@[simp] theorem State.stepExpiry_stores (s : State) (h : Head) : (State.stepExpiry s h).stores = s.stores := by
  simp [State.stepExpiry, stores_ite]

@[simp] theorem State.displaceLamp_stores (was : List (Fin 40)) (s : State) (i : Fin 15) :
    (State.displaceLamp was s i).stores = s.stores := by
  simp [State.displaceLamp, stores_ite]

@[simp] theorem State.displaceLamps_stores (s : State) (was : List (Fin 40)) :
    (State.displaceLamps s was).stores = s.stores := by
  exact foldl_stores _ (fun s i => State.displaceLamp_stores was s i) _ _

@[simp] theorem State.deliverPlaced_stores (s : State) (k : HoldKind) (was : Bool) :
    (State.deliverPlaced s k was).stores = s.stores := by
  unfold State.deliverPlaced
  split <;> simp [stores_ite]

@[simp] theorem State.deliverReleased_stores (s : State) (k : HoldKind) :
    (State.deliverReleased s k).stores = s.stores := by
  unfold State.deliverReleased
  split <;> simp [stores_ite]

@[simp] theorem State.placeFixed_stores (s : State) (i : Fin 4) : (State.placeFixed s i).stores = s.stores := rfl

@[simp] theorem State.retireFixed_stores (s : State) (i : Fin 4) : (State.retireFixed s i).stores = s.stores := by
  simp [State.retireFixed, stores_ite]

@[simp] theorem State.setFixed_stores (s : State) (l : List (Fin 4)) (on : Bool) :
    (State.setFixed s l on).stores = s.stores := by
  have hp := foldl_stores State.placeFixed State.placeFixed_stores l s
  have hr := foldl_stores State.retireFixed State.retireFixed_stores l s
  unfold State.setFixed
  split
  · rw [foldl_stores _ fun s i => State.deliverPlaced_stores s _ _, hp]
  · rw [foldl_stores _ fun s i => State.deliverReleased_stores s _, hr]

@[simp] theorem State.htLine_stores (s : State) (l : Fin 48) (b : Bool) : (State.htLine s l b).stores = s.stores := by
  unfold State.htLine
  split <;> simp [stores_ite]

@[simp] theorem State.htQualified_stores (s : State) : (State.htQualified s).stores = s.stores := by
  simp [State.htQualified, stores_ite]

@[simp] theorem State.placeHold_stores (s : State) (p : Port) (k : HoldKind) (reason : Nat) : ((State.placeHold s p k reason).2).stores = s.stores := by
  unfold State.placeHold
  simp only []
  split <;> (try split) <;> (try split) <;> simp [stores_ite]

@[simp] theorem State.releaseHold_stores (s : State) (i : Fin 12) (k : HoldKind) :
    (State.releaseHold s i k).stores = s.stores := by
  simp [State.releaseHold, stores_ite]

@[simp] theorem State.windEvent_stores (s : State) (x : MonitorEvent) : (State.windEvent s x).stores = s.stores := by
  unfold State.windEvent
  split <;> simp [stores_ite]

@[simp] theorem State.supplyEvent_stores (s : State) (x : MonitorEvent) :
    (State.supplyEvent s x).stores = s.stores := by
  unfold State.supplyEvent
  split <;> simp [stores_ite]

@[simp] theorem State.takeWindow_stores (s : State) (n : Nat) : (State.takeWindow s n).stores = s.stores := by
  simp [State.takeWindow, stores_ite]

@[simp] theorem State.mfsTakesSet_stores (s : State) : (State.mfsTakesSet s).stores = s.stores := by
  unfold State.mfsTakesSet
  split <;> simp [stores_ite]

@[simp] theorem State.supplyExpiry_stores (s : State) : (State.supplyExpiry s).stores = s.stores := by
  simp [State.supplyExpiry, stores_ite]

@[simp] theorem State.clearLatched_stores (s : State) : (State.clearLatched s).stores = s.stores := by
  rw [State.clearLatched, State.driveAlarm_stores, State.onMfs_stores]

@[simp] theorem State.releaseLatch_stores (s : State) : (State.releaseLatch s).stores = s.stores := by
  simp [State.releaseLatch, stores_ite]

@[simp] theorem State.acknowledge_stores (s : State) : ((State.acknowledge s).2).stores = s.stores := by
  simp [State.acknowledge, stores_ite]

@[simp] theorem State.deliverLine_stores (s : State) (l : Fin 48) : (State.deliverLine s l).stores = s.stores := by
  simp [State.deliverLine, stores_ite]

@[simp] theorem State.takeFirstLevels_stores (s : State) (x : FirstLevels) : (State.takeFirstLevels s x).stores = s.stores := by
  cases x <;> simp [State.takeFirstLevels]

@[simp] theorem State.qualificationComplete_stores (s : State) : (State.qualificationComplete s).stores = s.stores := by
  simp [State.qualificationComplete, inAnyOrder_stores]

end Sys2Proof.Machine
end

