-- ==== Sys2Proof/Tests/Slice0.lean ====
section
/-! SUPPORT. The model's own tests: ill-formed commands refused, the spec's worked figures, and for each statement with
hypotheses a concrete state and operands that meet them. -/

open Sys2Proof Sys2Proof.Machine

namespace Sys2Proof.Tests

-- The theorems are checked one after the other, which keeps the number of threads small.
set_option Elab.async false

/-! ### States -/

/-- The settings of the worked figures of chapter 3: the defaults except Rdec, which is 60. -/
def cfg : Settings := { Settings.cleared with num := Settings.cleared.num.set 18 60 }

/-- A CONFIGURED part with the settings `cfg`. -/
def on : State := { State.reset with cs := { Cs.reset with state := .configured, active := cfg, pendingSet := cfg } }

/-- A frame with the characters of a payload given as numbers. -/
def frame (kind : Nat) (payload : List Nat) : Frame :=
  { kind := BitVec.ofNat 8 kind, tag := 7, payload := payload.map (BitVec.ofNat 8), parityError := false,
    framingError := false, checkError := false }

def entry (kind : Nat) (payload : List Nat) : Buffered := { frame := frame kind payload, age := 0 }

/-- A state at one of whose ports a request waits alone. -/
def asking (s : State) (p : Port) (kind : Nat) (payload : List Nat) : State :=
  s.onPort p fun r => { r with buffer := [entry kind payload] }

/-- The levels with the lines of a list energised and the others not. -/
def levels (l : List Nat) : BitVec 48 := l.foldl (fun b i => b ||| BitVec.twoPow 48 i) 0

/-- A state with the lines of a list qualified energised and the others not. -/
def withLines (s : State) (l : List Nat) : State := s.onIq fun q => { q with qualified := some (levels l) }

/-- A part between sampling instants with the lines `e` qualified energised, whose latest sample shows the lines `y`. -/
def turning (s : State) (e y : List Nat) : State :=
  s.onIq fun q => { q with samplingTimer := some 3, samples := [levels e, levels y], qualified := some (levels e) }

/-- A second sample of the lines `y` qualifies the one line in which they differ from `e`. -/
theorem turning_qualifies (s : State) (e y : List Nat) (l : Fin 48) (b : Bool)
    (h : (levels e).getLsb l = (!b) ∧ ∀ k : Fin 48,
      (((levels e).getLsb k && (levels y).getLsb k) || ((levels y).getLsb k && s.sampleOf (levels y) k) ||
        ((levels e).getLsb k && s.sampleOf (levels y) k)) = if k = l then b else (levels e).getLsb k) :
    (turning s e y).qualifies (levels y) l b := ⟨rfl, levels e, levels y, levels e, .inl rfl, rfl, h.1, h.2⟩

/-- A set of measurements with both positions VALID and both towers at a height. -/
def setAt (h : Int) : MeasSet :=
  let ok : SetChannel := { state := .valid, raw := none, held := none }
  { seq := 0, channels := { c0 := ok, c1 := ok, c2 := ok, c3 := ok, c4 := ok }, waterEnabled := true,
    heights := some { hA := h, hB := h, hs := h, skew := 0, clearanceMm := 0, clearanceCm := 0 }, water := 1850,
    measured := true }

def withSet (s : State) (h : Int) : State := s.onMu fun m => { m with set := some (setAt h) }

/-- A passage record, as TRAFFIC files it. -/
def record (tag : Nat) (state : PassState) : Passage :=
  { tag := tag, filer := .traffic, dir := .up, cls := .routine, airDraft := 1200, margin := none, wait := 0, expiry := none,
    state := state, deferred := false, unreachable := false, lift := none, linger := none }

/-- A state with one record in slot 2. -/
def withRecord (s : State) (r : Passage) : State :=
  s.onPau fun p => { p with slots := p.slots.set 2 { gen := 0, record := some r }, queue := [{ slot := 2, gen := 0 }] }

def withRoad (s : State) (r : Road) : State := s.onRcs fun m => { m with road := r }

/-- The state of tower A in a phase with its brake timer running, tower B at rest. -/
def withTower (s : State) (p : Phase) : State :=
  s.onSmc fun m => { m with towers := { m.towers with a := { TowerRec.reset with phase := p, brakeTimer := some 5 } } }

def withMotion (s : State) (m : Motion) (k : StopKind) : State := s.onSmc fun r => { r with motion := m, stop := k }

/-! ### Which commands can occur -/

theorem test_wf_frame_of_48 :
    (Instr.frameComplete .operator { frame 1 [] with payload := List.replicate 48 0 }).wf = true := by decide +kernel

theorem test_wf_frame_of_49_refused :
    (Instr.frameComplete .operator { frame 1 [] with payload := List.replicate 49 0 }).wf = false := by decide +kernel

theorem test_wf_settle_of_gate : (Instr.settleTimerExpiry .w4).wf = true := by decide +kernel

theorem test_wf_settle_of_barrier_refused : (Instr.settleTimerExpiry .b1).wf = false := by decide +kernel

/-- The table of the spec gives no row bits. -/
theorem test_no_word_decodes : decodeTableWord 16 0x1234 = none := by decide +kernel

theorem test_fetch_word_changes_nothing : State.reset.withFetchWord 8 3 = State.reset := rfl

/-! ### The spec's worked figures -/

/-- R205: over the characters 0x31 to 0x39 the check is 0x29B1. -/
theorem test_check_figure : crc16 ([0x31, 0x32, 0x33, 0x34, 0x35, 0x36, 0x37, 0x38, 0x39] : List Byte) = 0x29B1 := by decide +kernel

/-- R37: 2.5 gives 3, −2.5 gives −3. -/
theorem test_round_halves : roundNearest 5 2 = 3 ∧ roundNearest (-5) 2 = -3 := by decide +kernel

/-- R38's table. -/
theorem test_corrected_codes :
    correctedCode cfg 2480 3069 = 2505 ∧ correctedCode cfg 2480 3100 = 2480 ∧ correctedCode cfg 4095 3038 = 4095 := by decide +kernel

/-- R22, with Qn 3100: |q − 3100| × 50 ≤ 3100. -/
theorem test_reference_limits :
    refInRange cfg 3038 = true ∧ refInRange cfg 3037 = false ∧ refInRange cfg 3162 = true ∧ refInRange cfg 3163 = false := by
  decide +kernel

/-- R41's table, default calibration. -/
theorem test_water : waterOf cfg 1475 = 1850 ∧ waterOf cfg 4000 = 6900 := by decide +kernel

/-- R41's steep calibration, where the clamp acts. -/
theorem test_water_clamped :
    waterOf { cfg with num := (((cfg.num.set 10 300).set 11 800).set 12 0).set 13 5000 } 1000 = 5500 := by decide +kernel

/-- R44's table: the lifts of a need of 3100, 4400 and 1000 at w 1850. -/
theorem test_lifts : (withSet on 0).liftOf 3100 = 20850 ∧ (withSet on 0).liftOf 4400 = 33850 ∧
    (withSet on 0).liftOf 1000 = 0 ∧ (withSet on 0).reachable 3100 = true ∧ (withSet on 0).reachable 4400 = false := by decide +kernel

/-- R44: before a set, Wdesign (5500). -/
theorem test_lift_before_a_set : on.liftOf 4400 = 37500 := by decide +kernel

/-- R47's table. -/
theorem test_demands : demand cfg 2999 = 799 ∧ demand cfg 1650 = 430 ∧ demand cfg 950 = 238 ∧ demand cfg 301 = 60 ∧
    demand cfg 320 = 65 ∧ demand cfg 17 = 0 := by decide +kernel

/-- R48: the end of a raise, 420 toward 238 and 240 toward 188, and the start, 0 toward 800. -/
theorem test_slew : slew cfg 420 238 = 360 ∧ slew cfg 240 188 = 188 ∧ slew cfg 0 800 = 20 := by decide +kernel

/-- R49: tower A leads a raise with s = +80. -/
theorem test_trim : trimFor cfg .raising 80 .a = 40 ∧ trimFor cfg .raising 80 .b = 0 ∧ trimFor cfg .lowering 80 .b = 40 ∧
    trimFor cfg .raising 10 .a = 5 := by decide +kernel

/-- R50: the leader changing sides, M = 60. -/
theorem test_limits : limitRef cfg 400 500 = 460 ∧ limitRef cfg 500 400 = 440 ∧ limitRef cfg 460 500 = 500 := by decide +kernel

/-- R56's caution: the defaults fail COMMIT SETTINGS, naming the Rdec item. -/
theorem test_default_commit_fails_at_rdec : commitFailure { Settings.cleared with aspects := Vector.replicate 19 0 } = some 19 := by
  decide +kernel

/-- R189's table with Kw 96, and the clamp. -/
theorem test_wind : windSpeedOf cfg [41] = 184 ∧ windSpeedOf cfg [41, 38] = 175 ∧ windSpeedOf cfg [41, 38, 44] = 184 ∧
    windSpeedOf cfg (addWindow [41, 38, 44] 30) = 168 ∧ windSpeedOf cfg [500] = 999 := by decide +kernel

/-- R190, Ksup 800: 2700 and 2500 give 21.09 V and 19.53 V. -/
theorem test_supply : supplyValueOf cfg 2700 = 2109 ∧ supplyValueOf cfg 2500 = 1953 := by decide +kernel

/-- R191's defaults: 18.1 m/s is crossed, 18.0 in the band, 16.0 back; 19.99 V crossed, 20.00 in the band, 21.00 back. -/
theorem test_value_kinds : windKind cfg 181 = .crossed ∧ windKind cfg 180 = .band ∧ windKind cfg 160 = .back ∧
    supplyKind cfg 1999 = .crossed ∧ supplyKind cfg 2000 = .band ∧ supplyKind cfg 2100 = .back := by decide +kernel

/-- The horn's ADMIT pattern of chapter 6: steps 11 to 14, then base. -/
theorem test_pattern_walk :
    let d : Descriptor := { base := 11, length := 4, modify := 1, passes := 1 }
    d.advance 11 = 12 ∧ d.advance 12 = 13 ∧ d.advance 13 = 14 ∧ d.advance 14 = 11 := by decide +kernel

/-! ### Witnesses of the hypotheses: the queue, the ports -/

theorem test_hyp_StepRunsFrontCommand :
    ({ State.reset with pending := [.budgetTick, .anemometerPulse] } : State).pending = .budgetTick :: [.anemometerPulse] := rfl

/-- While the reset line is low, and while the supply is below its threshold, the part is held in reset. -/
theorem test_hyp_ResetsClearThePart :
    (Gives (exec .resetLine on) fun t => t.cs.resetLow = true ∧ t.cs.held = true) ∧
    Gives (exec .powerOnReset on) fun t => t.cs.supplyLow = true ∧ t.cs.held = true :=
  ⟨⟨_, rfl, by decide +kernel⟩, _, rfl, by decide +kernel⟩

/-- A reply that is being sent on port 0, OVERRUN in it. -/
def reply : Reply :=
  { kind := 0x81, tag := 7, payload := [0, 1], clearsOverrun := true, commits := false, restarts := false }

def sending (s : State) (k : Nat) : State := s.onPort .operator fun r => { r with tx := .sending reply k 9 }
def waiting (s : State) : State := s.onPort .operator fun r => { r with tx := .waiting reply 9 }

/-- A buffer of both its entries. -/
def full (s : State) : State := s.onPort .operator fun r => { r with buffer := [entry 3 [], entry 3 []] }

theorem test_hyp_FrameCompleteIsBufferedOrLost :
    on.cs.held = false ∧ (on.sp.get .operator).buffer.length < 2 ∧ (full on).cs.held = false ∧
    ¬((full on).sp.get .operator).buffer.length < 2 ∧ (sending on 0).cs.held = false := by decide +kernel

theorem test_hyp_FaultyFrameIsDropped :
    on.cs.held = false ∧ ((asking on .traffic 0x81 []).sp.get .traffic).tx = .idle ∧
    ((asking on .traffic 0x81 []).sp.get .traffic).buffer = entry 0x81 [] :: [] ∧
    0x80 ≤ (entry 0x81 []).frame.kind.toNat ∧ ((entry 0x7F []).frame.kind.toNat < 0x80) := by decide +kernel

theorem test_hyp_CharactersMakeTheFrame :
    (List.replicate 48 (0 : Byte)).length ≤ 48 ∧ on.cs.held = false ∧ (on.sp.get .traffic).tx = .idle ∧
    (on.sp.get .traffic).rx = .hunting ∧ (on.sp.get .traffic).buffer.length < 2 := by decide +kernel

theorem test_hyp_ReceiverHuntsAndAbandons :
    let head : State := on.onPort .operator fun r => { r with rx := .inFrame [1, 2] false false 5 }
    on.cs.held = false ∧ (on.sp.get .operator).tx = .idle ∧ (on.sp.get .operator).rx = .hunting ∧
    head.cs.held = false ∧ (head.sp.get .operator).tx = .idle ∧
    (head.sp.get .operator).rx = .inFrame [1, 2] false false 5 ∧ 48 < (49 : Byte).toNat := by decide +kernel

theorem test_hyp_ReplyIsSentAndCompleted :
    ((waiting on).sp.get .operator).tx = .waiting reply 9 ∧ ((sending on 2).sp.get .operator).tx = .sending reply 2 9 ∧
    reply.restarts = false := by decide +kernel

theorem test_hyp_AbandonedReplyKeepsOverrun :
    reply.restarts = false ∧ (sending on 0).cs.held = false ∧
    ((sending on 0).sp.get .operator).tx = .sending reply 0 9 ∧
    (frameChars reply.kind reply.tag reply.payload)[0]? = some 0xC5 ∧ (0xC4 : Byte) ≠ 0xC5 ∧
    ((waiting on).sp.get .operator).tx = .waiting reply 9 := by decide +kernel

/-- A commit's reply is abandoned by a wrong parity bit in its last character while the other port sends. -/
theorem test_hyp_AbandonedReplyKeepsOverrun_commit :
    let r := { reply with commits := true }
    let s := (on.onPort .operator fun x => { x with tx := .sending r 7 9 }).onPort .traffic fun x =>
      { x with tx := .sending reply 1 9 }
    let c : RxChar := { data := 0x26, parityError := true, framingError := false }
    r.restarts = false ∧ s.cs.held = false ∧ (s.sp.get .operator).tx = .sending r 7 9 ∧
    ((frameChars r.kind r.tag r.payload)[7]?).isSome = true ∧ c.parityError = true ∧
    (s.sp.get .traffic).tx ≠ .idle ∧ (on.sp.get .traffic).tx = .idle := by decide +kernel

/-! ### Screening and reads -/

theorem test_hyp_ScreeningByKindAndLength :
    (asking on .traffic 0x44 []).offers .traffic (entry 0x44 []) [] = true ∧
    (∀ y ∈ requests .traffic, y.1 ≠ (entry 0x44 []).frame.kind.toNat) ∧
    (asking on .traffic 0x04 [1, 2]).offers .traffic (entry 0x04 [1, 2]) [] = true ∧
    (0x04, 1, Instr.readHolds .traffic) ∈ requests .traffic ∧
    (∀ y ∈ requests .traffic, y.1 = (entry 0x04 [1, 2]).frame.kind.toNat →
      y.2.1 ≠ (entry 0x04 [1, 2]).frame.payload.length) := by decide +kernel

theorem test_hyp_ScreeningByAuthorityAndConfiguration :
    (asking on .traffic 0x42 []).offers .traffic (entry 0x42 []) [] = true ∧
    (0x42, 0, Instr.restart .traffic) ∈ requests .traffic ∧ 0x42 ∈ operatorKinds ∧
    (asking (withLines on [36]) .operator 0x2B []).offers .operator (entry 0x2B []) [] = true ∧
    (withLines on [36]).configured = true ∧ (withLines on [36]).line 36 = true ∧ 0x2B ∈ remoteKinds ∧
    (0x2B, 0, Instr.attend .operator) ∈ requests .operator ∧
    (asking State.reset .traffic 0x31 [0, 0]).offers .traffic (entry 0x31 [0, 0]) [] = true ∧
    State.reset.configured = false ∧ 0x31 ∈ configuredKinds ∧ 0x31 ∉ operatorKinds := by decide +kernel

/-- The flags of a set with the heights available and the water measured. -/
theorem test_hyp_ReadFaultsAndMeasurements :
    (asking on .traffic 0x03 []).offers .traffic (entry 0x03 []) [] = true ∧ (entry 0x03 []).asks 0x03 [] = true ∧
    (asking (withSet on (-10000)) .traffic 0x02 []).offers .traffic (entry 0x02 []) [] = true ∧
    (entry 0x02 []).asks 0x02 [] = true ∧ (setAt (-10000)).heights.isSome = true := by decide +kernel

/-- A set without heights, and sets whose heights stand at either end of what the characters hold. -/
theorem test_hyp_ReadFaultsAndMeasurements_bounds :
    ({ setAt 0 with heights := none } : MeasSet).heights = none ∧
    ((setAt 55535).heights.any fun h => decide (h.hA = 55535 ∧ h.hB = 55535 ∧ h.hs = 55535)) = true ∧
    ((setAt (-10000)).heights.any fun h => decide (h.hA = -10000 ∧ h.hB = -10000 ∧ h.hs = -10000)) = true ∧
    ((setAt 0).heights.any fun h => decide (h.clearanceCm = 0)) = true := by decide +kernel

theorem test_hyp_ReadHoldsAndListPassages :
    (asking on .traffic 0x04 [11]).offers .traffic (entry 0x04 [11]) [] = true ∧ (entry 0x04 [11]).asks 0x04 [11] = true ∧
    (entry 0x04 [12]).asks 0x04 [12] = true ∧ (entry 0x04 []).asks 0x04 [] = true ∧
    (asking on .traffic 0x07 []).offers .traffic (entry 0x07 []) [] = true ∧ (entry 0x07 []).asks 0x07 [] = true := by
  decide +kernel

theorem test_hyp_ReadAndFindPassage :
    let s := withRecord on (record 5012 .filed)
    (asking s .traffic 0x05 [2, 0]).offers .traffic (entry 0x05 [2, 0]) [] = true ∧
    (entry 0x05 [2, 0]).asks 0x05 [2, 0] = true ∧ s.passage { slot := 2, gen := 0 } = some (record 5012 .filed) ∧
    s.passage { slot := 15, gen := 0 } = none ∧ (entry 0x05 [16, 0]).asks 0x05 [16, 0] = true ∧
    (asking s .traffic 0x06 [0, 0, 19, 148]).offers .traffic (entry 0x06 [0, 0, 19, 148]) [] = true ∧
    (entry 0x06 [0, 0, 19, 148]).asks 0x06 (beBytes 4 5012) = true ∧ (entry 0x06 [0, 0, 0, 0]).asks 0x06 (beBytes 4 0) = true ∧
    (∃ i : Fin 16, (s.pau.slots[i]).record.any (fun r => r.tag = 5012) = true) ∧
    (∀ i : Fin 16, (s.pau.slots[i]).record.all (fun r => r.tag ≠ 5011) = true) := by decide +kernel

theorem test_hyp_ReadStatusAnswersAndClearsFlags :
    (asking on .traffic 0x01 [5]).offers .traffic (entry 0x01 [5]) [] = true ∧ (entry 0x01 [5]).asks 0x01 [5] = true ∧
    (asking on .traffic 0x01 [6]).offers .traffic (entry 0x01 [6]) [] = true ∧ (entry 0x01 [6]).asks 0x01 [6] = true ∧
    5 < (6 : Byte).toNat := by decide +kernel

/-- R219: page 5 begins with the levels of lines 0 to 47; line 35, the anemometer's, has none. -/
theorem test_line_levels :
    (beNat ((withLines on [0, 35, 47]).page5.take 6)).testBit 47 = true ∧
    (beNat ((withLines on [0, 35, 47]).page5.take 6)).testBit 35 = false ∧
    (beNat ((withLines on [0, 35, 47]).page5.take 6)).testBit 0 = true := by decide +kernel

/-! ### Passages and the opening -/

/-- The filing of tag 5011 of chapter 7's example. -/
def filing : FileFields :=
  { tag := 5011, dir := .down, cls := .commercial, airDraft := 2950, wait := 600, margin := some 150, expiry := some 1800 }

def filingNumbers : List Nat := [0, 0, 0x13, 0x93, 1, 1, 0x0B, 0x86, 2, 0x58, 3, 0, 150, 7, 8]

/-- Chapter 7's example: the reply is OK with handle (0, 0), and tag 5011 is FILED in slot 0. -/
theorem test_filing_example :
    Gives (exec (.filePassage .traffic) (asking (withSet on 0) .traffic 0x10 filingNumbers)) fun t =>
      (t.passage { slot := 0, gen := 0 }).any (fun r => r.tag = 5011 && r.state = .filed && r.filer = .traffic) = true ∧
      t.pau.queue = [{ slot := 0, gen := 0 }] := ⟨_, rfl, by decide +kernel⟩

theorem test_hyp_FilePassageFilesOrRefuses :
    let s := withSet on 0
    (asking s .traffic 0x10 filingNumbers).offers .traffic (entry 0x10 filingNumbers) [] = true ∧ s.configured = true ∧
    filing.inRange = true ∧ (entry 0x10 filingNumbers).asks 0x10 (filing.payload 0 0) = true ∧
    { filing with wait := 0 }.inRange = true ∧
    (entry 0x10 (filingNumbers.set 8 0 |>.set 9 0)).asks 0x10 (({ filing with wait := 0 } : FileFields).payload 0 0) = true ∧
    ¬(∃ i : Fin 16, (s.pau.slots[i]).record.any (fun r => r.tag = filing.tag) = true) ∧
    ¬s.act.hfull < (s.liftOf (needOf s.act filing.airDraft filing.margin) : Int) ∧ filing.wait ≠ 0 ∧
    (s.pau.slots[(0 : Fin 16)]).record = none ∧
    fileFields ((List.replicate 15 0 : List Byte)) = none := by decide +kernel

/-- A margin of 501, a flags character of 4, and an absent margin whose field holds 501. -/
theorem test_hyp_FilePassageFilesOrRefuses_ranges :
    let high := filingNumbers.set 11 1 |>.set 12 0xF5
    (entry 0x10 high).asks 0x10 (beBytes 4 5011 ++ [1, 1] ++ beBytes 2 2950 ++ beBytes 2 600 ++ [3] ++ beBytes 2 501 ++
      beBytes 2 1800) = true ∧ (3 : Byte).getLsbD 0 = true ∧ 500 < 501 ∧
    (entry 0x10 (filingNumbers.set 10 4)).asks 0x10 (beBytes 4 5011 ++ [1, 1] ++ beBytes 2 2950 ++ beBytes 2 600 ++ [4] ++
      beBytes 2 150 ++ beBytes 2 1800) = true ∧ 3 < (4 : Byte).toNat ∧
    (entry 0x10 (high.set 10 2)).asks 0x10 (({ filing with margin := none } : FileFields).payload 501 0) = true ∧
    ({ filing with margin := none } : FileFields).inRange = true := by decide +kernel

/-- An amendment of the wait to 900 of the record in slot 2. -/
def amending : List Nat := [2, 0, 0, 0, 0, 1, 0, 0, 0, 0, 0, 0, 3, 0x84, 0, 0]

def amendment : AmendFields :=
  { handle := { slot := 2, gen := 0 }, cls := .keep, airDraft := .keep, margin := .keep, wait := .set 900, expiry := .keep }

theorem test_hyp_AmendPassageAmendsOrRefuses :
    let s := withRecord (withSet on 0) (record 9 .lapsed)
    (asking s .traffic 0x11 amending).offers .traffic (entry 0x11 amending) [] = true ∧ s.configured = true ∧
    amendment.inRange = true ∧ (entry 0x11 amending).asks 0x11 (amendment.payload 0 0 0 0 0) = true ∧
    s.passage { slot := 2, gen := 0 } = some (record 9 .lapsed) ∧
    ¬s.act.hfull < (s.liftOf (needOf s.act 1200 none) : Int) ∧ (record 9 .lapsed).wait = 0 ∧
    (entry 0x11 (amending.set 5 0 |>.set 12 0 |>.set 13 0)).asks 0x11 (({ amendment with wait := .keep } : AmendFields).payload
      0 0 0 0 0) = true := by decide +kernel

/-- An air draft of 99, an action of 3, a wait made absent and slot 16. -/
theorem test_hyp_AmendPassageAmendsOrRefuses_ranges :
    let acts (l : List Byte) (k : Fin 5) : Byte := l.getD k.val 0
    (entry 0x11 (amending.set 3 1 |>.set 9 99)).asks 0x11 ([2, 0] ++ [acts [0, 1, 0, 1, 0] 0, acts [0, 1, 0, 1, 0] 1,
      acts [0, 1, 0, 1, 0] 2, acts [0, 1, 0, 1, 0] 3, acts [0, 1, 0, 1, 0] 4, 0] ++ beBytes 2 99 ++ beBytes 2 0 ++
      beBytes 2 900 ++ beBytes 2 0) = true ∧ acts [0, 1, 0, 1, 0] 1 = 1 ∧ 99 < 100 ∧
    (∃ k, 2 < (acts [0, 0, 0, 3, 0] k).toNat) ∧ acts [0, 0, 0, 2, 0] 3 = 2 ∧ 15 < (16 : Byte).toNat ∧
    amendFields (entry 0x11 (amending.set 3 1 |>.set 9 99)).frame.payload = none ∧
    amendFields (entry 0x11 (amending.set 5 3)).frame.payload = none ∧
    amendFields (entry 0x11 (amending.set 5 2)).frame.payload = none ∧
    amendFields (entry 0x11 (amending.set 0 16)).frame.payload = none := by decide +kernel

theorem test_hyp_WithdrawPassageRetiresOrRefuses :
    let s := withRecord on (record 9 .filed)
    (asking s .traffic 0x12 [2, 0]).offers .traffic (entry 0x12 [2, 0]) [] = true ∧ s.configured = true ∧
    (entry 0x12 [2, 0]).asks 0x12 [2, 0] = true ∧ s.passage { slot := 2, gen := 0 } = some (record 9 .filed) ∧
    s.passage { slot := 2, gen := 1 } = none ∧ (entry 0x12 [16, 0]).asks 0x12 [16, 0] = true := by decide +kernel

/-- The withdrawn record's slot is empty under generation 1. -/
theorem test_withdraw :
    Gives (exec (.withdrawPassage .traffic) (asking (withRecord on (record 9 .filed)) .traffic 0x12 [2, 0])) fun t =>
      t.pau.slots[(2 : Fin 16)] = { gen := 1, record := none } ∧ t.pau.queue = [] := ⟨_, rfl, by decide +kernel⟩

/-- A budget and a record that is eligible. -/
def eligible : State := (withRecord (withSet on 20970) (record 9 .filed)).onRcs fun m => { m with budget := 900 }

theorem test_hyp_BeginOpeningFormsTheOpening :
    let s := asking eligible .operator 0x18 []
    s.offers .operator (entry 0x18 []) [] = true ∧ s.configured = true ∧ (entry 0x18 []).asks 0x18 [] = true ∧
    s.pau.opening.state = .none ∧ 0 < s.rcs.budget ∧ s.smc.motion ≠ .holding ∧ s.pau.queue = [{ slot := 2, gen := 0 }] ∧
    (∀ i : Fin 16, (s.pau.slots[i]).record.isSome = true ↔ i = 2) ∧ (withMotion s .holding .none).smc.motion = .holding ∧
    (withMotion s .lowering .none).smc.stop ≠ .quick := by decide +kernel

theorem test_hyp_BeginOpeningFormsTheOpening_queue : (asking eligible .operator 0x18 []).queueLaw := by
  refine ⟨by decide +kernel, fun h => ?_⟩
  have hq : (asking eligible .operator 0x18 []).pau.queue = [{ slot := 2, gen := 0 }] := by decide +kernel
  rw [hq, List.mem_singleton]
  obtain ⟨i, g⟩ := h
  have key : ∀ i : Fin 16, ((asking eligible .operator 0x18 []).pau.slots[i]).gen = 0 ∧
      (((asking eligible .operator 0x18 []).pau.slots[i]).record.isSome = true ↔ i = 2) := by decide +kernel
  have hg := (key i).1
  have hr := (key i).2
  simp only [Handle.mk.injEq, State.passage]
  split
  · simp_all
  · have hn : g ≠ 0 := fun e => by simp_all
    simp_all

/-- Lift 2850 for air draft 1200 and the default margin at w 1850 (chapter 7's example): the target of the opening. -/
theorem test_begin :
    Gives (exec (.beginOpening .operator) (asking eligible .operator 0x18 [])) fun t =>
      t.pau.opening.state = .gathered ∧ t.pau.opening.target = some 2850 ∧
      t.pau.opening.members = [{ slot := 2, gen := 0 }] := ⟨_, rfl, by decide +kernel⟩

/-- In HOLDING the opening so formed admits its passage at once: the clearance of 3105 cm meets the need of 1300. -/
theorem test_begin_while_holding :
    let m : MeasSet := setAt 20970
    Gives (exec (.beginOpening .operator)
      ((withMotion (asking eligible .operator 0x18 []) .holding .none).onMu fun u =>
        { u with set := some { m with heights := m.heights.map fun h => { h with clearanceCm := 3105 } } })) fun t =>
      t.pau.opening.state = .admitting ∧ t.pau.opening.active = some .up ∧
      t.pau.opening.queueUp = [{ slot := 2, gen := 0 }] ∧ t.pau.decidedD = .proceed := ⟨_, rfl, by decide +kernel⟩

/-- An opening with the record of slot 2. -/
def opened (o : OpeningState) (r : PassState) : State :=
  (withRecord (withSet on 20970) (record 9 r)).onPau fun p =>
    { p with opening := { Opening.absent with state := o, members := [{ slot := 2, gen := 0 }], target := some 2850 } }

theorem test_hyp_EndOpeningClosesTheChannel :
    let s := asking (opened .gathered .grouped) .operator 0x19 []
    s.offers .operator (entry 0x19 []) [] = true ∧ s.configured = true ∧ (entry 0x19 []).asks 0x19 [] = true ∧
    s.pau.opening.state = .gathered ∧ { slot := 2, gen := 0 } ∈ s.pau.opening.members ∧
    s.passage { slot := 2, gen := 0 } = some (record 9 .grouped) ∧
    (opened .admitting .transiting).passage { slot := 2, gen := 0 } = some (record 9 .transiting) := by decide +kernel

/-- An opening in which upstream-bound traffic holds the channel with the record of slot 2. -/
def inChannel (r : PassState) : State :=
  (opened .admitting r).onOpening fun o => { o with active := some .up, queueUp := [{ slot := 2, gen := 0 }] }

/-- The entry and exit beams break and restore; the exit beam also while nobody is in transit, an intrusion. -/
theorem test_hyp_EndOpeningClosesTheChannel_beams :
    (turning (inChannel .admitted) [33, 34] [33]).qualifies (levels [33]) 34 false ∧
    (turning (inChannel .admitted) [33, 34] [34]).qualifies (levels [34]) 33 false ∧
    (turning (inChannel .transiting) [34] [33, 34]).qualifies (levels [33, 34]) 33 true ∧
    (turning (inChannel .transiting) [33] [33, 34]).qualifies (levels [33, 34]) 34 true ∧
    (inChannel .admitted).pau.opening.active = some .up ∧ (inChannel .admitted).pau.opening.queueUp = [{ slot := 2, gen := 0 }] ∧
    (inChannel .admitted).passage { slot := 2, gen := 0 } = some (record 9 .admitted) ∧ on.pau.opening.active = none :=
  ⟨turning_qualifies _ _ _ _ _ (by decide +kernel), turning_qualifies _ _ _ _ _ (by decide +kernel),
    turning_qualifies _ _ _ _ _ (by decide +kernel), turning_qualifies _ _ _ _ _ (by decide +kernel), by decide +kernel⟩

/-- A beam breaks under a lowering with tower A running, which quick-stops (R74). -/
theorem test_hyp_EndOpeningClosesTheChannel_quick :
    let s := withMotion (withTower (inChannel .admitted) .running) .lowering .arrival
    (turning s [33, 34] [34]).qualifies (levels [34]) 33 false ∧ s.smc.motion = .lowering ∧ s.smc.stop ≠ .quick :=
  ⟨turning_qualifies _ _ _ _ _ (by decide +kernel), rfl, by decide +kernel⟩

/-- The brake sets at once, and what remains at rest stays so (R74). -/
theorem test_beam_quick_stop :
    let s := withMotion (withTower (inChannel .admitted) .running) .lowering .arrival
    Gives (exec (.samplingInstant (levels [34]) 0) (turning s [33, 34] [34])) fun t =>
      (t.tower .a).phase = .settingBrake ∧ (t.tower .b).phase = .atRest ∧ t.smc.motion = .lowering ∧ t.smc.stop = .quick ∧
      (t.tower .a).brakeTimer = some (2880 * cfg.tbrk.toNat) := ⟨_, rfl, by decide +kernel⟩

/-- Downstream beam D is the entry beam of upstream-bound traffic: its break makes the passage TRANSITING (R167). -/
theorem test_entry :
    Gives (exec (.samplingInstant (levels [33]) 0) (turning (inChannel .admitted) [33, 34] [33])) fun t =>
      (t.passage { slot := 2, gen := 0 }).any (fun r => r.state = .transiting) = true ∧ t.fault 33 = .clear :=
  ⟨_, rfl, by decide +kernel⟩

/-- A state with 900 s of its budget left. -/
def budgeted (s : State) : State := s.onRcs fun m => { m with budget := 900 }

/-- The one member, GROUPED, is withdrawn from an opening in GATHERED, and from one in ADMITTING; a FILED record that is no member.
-/
theorem test_hyp_WithdrawPassageRetiresOrRefuses_member :
    let s (o : OpeningState) (r : PassState) := asking (budgeted (opened o r)) .traffic 0x12 [2, 0]
    (s .gathered .grouped).offers .traffic (entry 0x12 [2, 0]) [] = true ∧ (s .gathered .grouped).configured = true ∧
    (entry 0x12 [2, 0]).asks 0x12 [2, 0] = true ∧
    { slot := 2, gen := 0 } ∈ (s .admitting .grouped).pau.opening.members ∧
    (s .admitting .grouped).passage { slot := 2, gen := 0 } = some (record 9 .grouped) ∧
    { slot := 2, gen := 0 } ∉ (asking (withRecord on (record 9 .filed)) .traffic 0x12 [2, 0]).pau.opening.members := by
  decide +kernel

/-- R172, R171, R173: the last member's withdrawal leaves GATHERED open, and ends an opening in ADMITTING with both beams clear. -/
theorem test_last_member_withdrawn :
    (Gives (exec (.withdrawPassage .traffic) (asking (budgeted (opened .gathered .grouped)) .traffic 0x12 [2, 0])) fun t =>
      t.pau.opening.state = .gathered ∧ t.pau.opening.members = []) ∧
    Gives (exec (.withdrawPassage .traffic) (asking (withLines (opened .admitting .grouped) [33, 34]) .traffic 0x12 [2, 0])) fun t =>
      t.pau.opening = Opening.absent := ⟨⟨_, rfl, by decide +kernel⟩, ⟨_, rfl, by decide +kernel⟩⟩

/-- The vessel in transit passes: its exit beam, U for upstream-bound traffic, restores. -/
theorem test_hyp_EndOpeningClosesTheChannel_passing :
    (turning (inChannel .transiting) [34] [33, 34]).qualifies (levels [33, 34]) 33 true ∧
    (inChannel .transiting).pau.opening.queueUp.filter
        (fun h => ((inChannel .transiting).passage h).any fun r => r.state = .transiting) = { slot := 2, gen := 0 } :: [] ∧
    { slot := 2, gen := 0 } ∈ (inChannel .transiting).pau.opening.members :=
  ⟨turning_qualifies _ _ _ _ _ (by decide +kernel), by decide +kernel, by decide +kernel⟩

/-- R168, R171, R173: the last vessel passed, the opening in ADMITTING closes and is retired at once. -/
theorem test_last_vessel_passed :
    Gives (exec (.samplingInstant (levels [33, 34]) 0) (turning (inChannel .transiting) [34] [33, 34])) fun t =>
      t.passage { slot := 2, gen := 0 } = none ∧ t.pau.opening = Opening.absent ∧ t.pau.queue = [] := ⟨_, rfl, by decide +kernel⟩

/-! ### The span -/

theorem test_hyp_AttendRefreshesTheTimer :
    let s := asking (withMotion on .raising .none) .operator 0x2B []
    s.operatorAsks (entry 0x2B []) [] 0x2B [] = true ∧ s.smc.motion = .raising ∧ s.smc.stop = .none ∧
    (turning (withMotion on .raising .none) [38] [36, 38]).qualifies (levels [36, 38]) 36 true ∧
    (turning (withMotion on .raising .none) [36, 38] [36]).qualifies (levels [36]) 38 false :=
  ⟨by decide +kernel, by decide +kernel, by decide +kernel, turning_qualifies _ _ _ _ _ (by decide +kernel),
    turning_qualifies _ _ _ _ _ (by decide +kernel)⟩

theorem test_hyp_ControlledHaltByState :
    let ask (m : Motion) (k : StopKind) := asking (withMotion on m k) .operator 0x2A []
    (ask .raising .arrival).offers .operator (entry 0x2A []) [] = true ∧ (ask .raising .arrival).configured = true ∧
    (entry 0x2A []).asks 0x2A [] = true ∧ (ask .raising .arrival).smc.motion = .raising ∧
    (ask .raising .arrival).smc.stop = .arrival ∧ (ask .seating .quick).offers .operator (entry 0x2A []) [] = true ∧
    (ask .seating .quick).smc.stop = .quick ∧ (ask .unlocking .none).smc.motion = .unlocking ∧
    (ask .locking .none).smc.motion = .locking ∧ (ask .holding .none).smc.motion = .holding ∧
    (withMotion (asking (inChannel .admitted) .operator 0x2A []) .holding .none).pau.opening.state = .admitting := by
  decide +kernel

/-- A span that moves under attendance. -/
def attended : State := (withMotion on .lowering .none).onSmc fun m => { m with attendance := .counting 3 }

theorem test_hyp_ControlledHaltByState_expiry :
    attended.smc.motion = .lowering ∧ attended.smc.stop = .none ∧ attended.smc.attendance = .counting 3 := by decide +kernel

/-- A part whose span may be raised: the road SEALED, both deck loops clear, both locks withdrawn, the span at a height. -/
def mayRaise (h : Int) : State := withRoad (withLines (withSet on h) [11, 13, 31, 32, 33, 34]) .sealed

theorem test_hyp_RaiseSpanStartsOrRefuses :
    let s := asking (withMotion (mayRaise 0) .holding .none) .operator 0x28 [0x51, 0x72]
    let nearest := asking (withMotion (mayRaise 20829) .holding .none) .operator 0x28 [0x51, 0x72]
    s.operatorAsks (entry 0x28 [0x51, 0x72]) [] 0x28 (beBytes 2 20850) = true ∧ s.smc.motion = .holding ∧
    s.rcs.road = .sealed ∧ s.hasHold .noRaise = false ∧ s.hasHold .noMotion = false ∧ s.mfs.wind.state = .normal ∧
    s.mfs.supply.state = .normal ∧ s.mu.set = some (setAt 0) ∧ s.line 31 = true ∧ s.line 32 = true ∧ s.om.displaced = [] ∧
    (∀ f : Fin 37, s.fault f = .clear) ∧ nearest.spanHeight + nearest.act.ztol < 20850 ∧
    (asking on .operator 0x28 []).operatorAsks (entry 0x28 []) [] 0x28 [] = true ∧
    (asking (withMotion on .seated .none) .operator 0x28 []).pau.opening.state = .none := by decide +kernel

/-- The second lock withdraws, and the first while the second has not. -/
theorem test_hyp_RaiseSpanStartsOrRefuses_locks :
    (turning (withMotion on .unlocking .none) [13] [11, 13]).qualifies (levels [11, 13]) 11 true ∧
    (turning (withMotion on .unlocking .none) [] [13]).qualifies (levels [13]) 13 true ∧
    (withMotion on .unlocking .none).smc.motion = .unlocking :=
  ⟨turning_qualifies _ _ _ _ _ (by decide +kernel), turning_qualifies _ _ _ _ _ (by decide +kernel), by decide +kernel⟩

/-- The panel's RAISE is pressed in LOCAL, and in REMOTE, and let go. -/
theorem test_hyp_RaiseSpanStartsOrRefuses_panel :
    let s := withMotion (mayRaise 0) .halted .none
    (turning s [11, 13, 31, 32, 36] [11, 13, 31, 32, 36, 39]).qualifies (levels [11, 13, 31, 32, 36, 39]) 39 true ∧
    (turning s [31, 32] [31, 32, 39]).qualifies (levels [31, 32, 39]) 39 true ∧
    (turning s [36, 39] [36]).qualifies (levels [36]) 39 false ∧ (turning s [31, 32, 36] [31]).line 36 = true ∧
    (turning s [31, 32] [31]).line 36 = false ∧ s.pau.opening.state = .none ∧ s.smc.motion = .halted ∧ s.rcs.road = .sealed ∧
    s.spanHeight + s.act.ztol < (s.act.hfull.toNat : Int) :=
  ⟨turning_qualifies _ _ _ _ _ (by decide +kernel), turning_qualifies _ _ _ _ _ (by decide +kernel),
    turning_qualifies _ _ _ _ _ (by decide +kernel), by decide +kernel⟩

/-- Without an opening the panel's RAISE raises to Hfull, 32000 mm by default (R62). -/
theorem test_panel_raise :
    Gives (exec (.samplingInstant (levels [11, 13, 31, 32, 36, 39]) 0)
      (turning (withMotion (mayRaise 0) .halted .none) [11, 13, 31, 32, 36] [11, 13, 31, 32, 36, 39])) fun t =>
      t.smc.motion = .raising ∧ t.smc.target = some cfg.hfull.toNat := ⟨_, rfl, by decide +kernel⟩

/-- With both locks withdrawn the span is RAISING (R64). -/
theorem test_unlocked :
    Gives (exec (.samplingInstant (levels [11, 13]) 0) (turning (withMotion on .unlocking .none) [13] [11, 13])) fun t =>
      t.smc.motion = .raising ∧ t.cmd 0 = true ∧ t.cmd 4 = true := ⟨_, rfl, by decide +kernel⟩

/-- From HOLDING the raise begins at once, with its target. -/
theorem test_raise :
    Gives (exec (.raiseSpan .operator) (asking (withMotion (mayRaise 0) .holding .none) .operator 0x28 [0x51, 0x72])) fun t =>
      t.smc.motion = .raising ∧ t.smc.target = some 20850 := ⟨_, rfl, by decide +kernel⟩

theorem test_hyp_LowerSpanStartsOrRefuses :
    let s := asking (withMotion (mayRaise 21) .holding .none) .operator 0x29 []
    let locking := asking (withMotion (withLines on [1, 6, 12]) .seated .none) .operator 0x29 []
    s.operatorAsks (entry 0x29 []) [] 0x29 [] = true ∧ s.smc.motion = .holding ∧ s.rcs.road = .sealed ∧
    s.pau.opening.state = .none ∧ s.membersIn .transiting = [] ∧ s.line 33 = true ∧ s.line 34 = true ∧ s.line 11 = true ∧
    s.line 13 = true ∧ s.mu.set = some (setAt 21) ∧ s.act.ztol < s.spanHeight ∧ s.hasHold .noLower = false ∧
    s.hasHold .noMotion = false ∧ s.mfs.supply.state = .normal ∧ s.om.displaced = [] ∧ (∀ f : Fin 37, s.fault f = .clear) ∧
    locking.operatorAsks (entry 0x29 []) [] 0x29 [] = true ∧ locking.smc.motion = .seated ∧ locking.line 1 = true ∧
    locking.line 6 = true ∧ locking.line 12 = true ∧ locking.line 14 = false := by decide +kernel

/-- The last lock drives, the last tower seats, and SEATED_LOCKED loses a driven proving or a seat. -/
theorem test_hyp_LowerSpanStartsOrRefuses_lines :
    (turning (withMotion on .locking .none) [1, 6, 12] [1, 6, 12, 14]).qualifies (levels [1, 6, 12, 14]) 14 true ∧
    (turning (withMotion on .seating .none) [6] [1, 6]).qualifies (levels [1, 6]) 1 true ∧
    (turning (withMotion on .seatedLocked .none) [1, 6, 12, 14] [1, 6, 14]).qualifies (levels [1, 6, 14]) 12 false ∧
    (turning (withMotion on .seatedLocked .none) [1, 6] [1]).qualifies (levels [1]) 6 false ∧
    (withMotion on .locking .none).smc.motion = .locking ∧ ((withMotion on .seating .none).tower .a).seated = false ∧
    towerLine .a 0 = 1 ∧ (withTower (withMotion on .seating .none) .running).act.racc = 20 :=
  ⟨turning_qualifies _ _ _ _ _ (by decide +kernel), turning_qualifies _ _ _ _ _ (by decide +kernel),
    turning_qualifies _ _ _ _ _ (by decide +kernel), turning_qualifies _ _ _ _ _ (by decide +kernel), by decide +kernel⟩

/-- The panel's LOWER is pressed in LOCAL, in HOLDING and in SEATED, and in REMOTE. -/
theorem test_hyp_LowerSpanStartsOrRefuses_panel :
    (turning (mayRaise 21) [11, 13, 33, 34, 36] [11, 13, 33, 34, 36, 40]).qualifies (levels [11, 13, 33, 34, 36, 40]) 40 true ∧
    (turning on [1, 6, 12, 36] [1, 6, 12, 36, 40]).qualifies (levels [1, 6, 12, 36, 40]) 40 true ∧
    (turning on [1, 6] [1, 6, 40]).qualifies (levels [1, 6, 40]) 40 true ∧
    (turning on [36, 40] [36]).qualifies (levels [36]) 40 false ∧ (turning on [1, 6, 12, 36] []).line 36 = true ∧
    (turning on [1, 6] []).line 36 = false ∧ on.hasHold .noLower = false ∧ (∀ f : Fin 37, on.fault f ≠ .active) :=
  ⟨turning_qualifies _ _ _ _ _ (by decide +kernel), turning_qualifies _ _ _ _ _ (by decide +kernel),
    turning_qualifies _ _ _ _ _ (by decide +kernel), turning_qualifies _ _ _ _ _ (by decide +kernel), by decide +kernel⟩

/-- With both locks driven the span is SEATED_LOCKED (R68). -/
theorem test_locked :
    Gives (exec (.samplingInstant (levels [1, 6, 12, 14]) 0)
      (turning (withMotion on .locking .none) [1, 6, 12] [1, 6, 12, 14])) fun t => t.smc.motion = .seatedLocked :=
  ⟨_, rfl, by decide +kernel⟩

/-- At Ztol the lowering is a SEATING; above it, a LOWERING. -/
theorem test_lower :
    (Gives (exec (.lowerSpan .operator) (asking (withMotion (mayRaise 21) .holding .none) .operator 0x29 [])) fun t =>
      t.smc.motion = .lowering) ∧
    Gives (exec (.lowerSpan .operator) (asking (withMotion (mayRaise 20) .holding .none) .operator 0x29 [])) fun t =>
      t.smc.motion = .seating := ⟨⟨_, rfl, by decide +kernel⟩, ⟨_, rfl, by decide +kernel⟩⟩

/-! ### The road, the holds, the faults -/

theorem test_hyp_CloseRoadEntersPrewarn :
    let s := asking (withRoad on .isOpen) .operator 0x20 []
    s.operatorAsks (entry 0x20 []) [] 0x20 [] = true ∧ s.rcs.road = .isOpen ∧
    (asking (withRoad on .sealed) .operator 0x20 []).operatorAsks (entry 0x20 []) [] 0x20 [] = true := by decide +kernel

/-- The panel's CLOSE and REOPEN are pressed in LOCAL and in REMOTE, and let go. -/
theorem test_hyp_CloseRoadEntersPrewarn_panel :
    (turning (withRoad on .isOpen) [36] [36, 41]).qualifies (levels [36, 41]) 41 true ∧
    (turning (withRoad on .isOpen) [] [41]).qualifies (levels [41]) 41 true ∧
    (turning (withRoad on .isOpen) [36, 41] [36]).qualifies (levels [36]) 41 false ∧
    (turning (withRoad on .isOpen) [36] []).line 36 = true ∧ (withRoad on .isOpen).rcs.road = .isOpen :=
  ⟨turning_qualifies _ _ _ _ _ (by decide +kernel), turning_qualifies _ _ _ _ _ (by decide +kernel),
    turning_qualifies _ _ _ _ _ (by decide +kernel), by decide +kernel⟩

theorem test_hyp_ReopenRoadNeedsTheSpanLocked_panel :
    let s := withMotion (withRoad on .sealed) .seatedLocked .none
    (turning s [36] [36, 42]).qualifies (levels [36, 42]) 42 true ∧ (turning s [] [42]).qualifies (levels [42]) 42 true ∧
    (turning s [36, 42] [36]).qualifies (levels [36]) 42 false ∧ (turning s [36] []).line 36 = true ∧
    s.rcs.road = .sealed ∧ s.smc.motion = .seatedLocked ∧ s.hasHold .keepClosed = false :=
  ⟨turning_qualifies _ _ _ _ _ (by decide +kernel), turning_qualifies _ _ _ _ _ (by decide +kernel),
    turning_qualifies _ _ _ _ _ (by decide +kernel), by decide +kernel⟩

/-- The panel's CLOSE closes the road in LOCAL alone (R87). -/
theorem test_panel_close :
    (Gives (exec (.samplingInstant (levels [36, 41]) 0) (turning (withRoad on .isOpen) [36] [36, 41])) fun t =>
      t.rcs.road = .prewarn) ∧
    Gives (exec (.samplingInstant (levels [41]) 0) (turning (withRoad on .isOpen) [] [41])) fun t => t.rcs.road = .isOpen :=
  ⟨⟨_, rfl, by decide +kernel⟩, ⟨_, rfl, by decide +kernel⟩⟩

theorem test_hyp_ReopenRoadNeedsTheSpanLocked :
    let s := asking (withMotion (withRoad on .sealed) .seatedLocked .none) .operator 0x21 []
    s.operatorAsks (entry 0x21 []) [] 0x21 [] = true ∧ s.rcs.road = .sealed ∧ s.smc.motion = .seatedLocked ∧
    s.hasHold .keepClosed = false ∧ s.rcs.suspended = false ∧ s.rcs.holding = false ∧ s.mfs.faults = Vector.replicate 37 .clear ∧
    s.om.displaced = [] ∧ (s.gate .b1).pos ≠ .up := by decide +kernel

/-- The barriers on their way up, B1 driven. -/
def barriersRising : State :=
  ((withRoad on .barrierRaising).setGate .b1 { GateRec.reset with cmd := .up, pos := .moving, travel := some 3 }).setCmd
    (gateUpFn .b1) true

theorem test_hyp_PlaceHoldPlacesOrRefuses :
    let s := asking (withMotion on .raising .none) .operator 0x30 [0, 9]
    let h : Hold := { owner := .traffic, kind := .marineStop, reason := 1, age := 3 }
    let again := asking (on.onHt fun m => { m with slots := m.slots.set 5 { gen := 0, record := some h } }) .traffic 0x30 [4, 9]
    s.offers .operator (entry 0x30 [0, 9]) [] = true ∧ s.configured = true ∧ (entry 0x30 [0, 9]).asks 0x30 [0, 9] = true ∧
    HoldKind.noRaise.ctorIdx = 0 ∧ s.ht.pointer = 4 ∧ (∀ i : Fin 12, (s.ht.slots[i]).record = none) ∧
    s.smc.motion = .raising ∧ s.smc.stop = .none ∧ again.offers .traffic (entry 0x30 [4, 9]) [] = true ∧
    HoldKind.marineStop.ctorIdx = 4 ∧ (again.ht.slots[(5 : Fin 12)]).record = some h ∧
    (let first := asking (inChannel .admitted) .traffic 0x30 [4, 9]
     first.offers .traffic (entry 0x30 [4, 9]) [] = true ∧ first.hasHold .marineStop = false ∧
     first.calledBack (fun _ => true) { slot := 2, gen := 0 } = true) ∧
    (let raising := asking barriersRising .operator 0x30 [3, 9]
     raising.offers .operator (entry 0x30 [3, 9]) [] = true ∧ raising.configured = true ∧
     (entry 0x30 [3, 9]).asks 0x30 [3, 9] = true ∧ HoldKind.keepClosed.ctorIdx = 3 ∧ raising.rcs.road = .barrierRaising ∧
     (raising.gate .b1).travel = some 3 ∧ raising.cmd (gateUpFn .b1) = true ∧ raising.hasHold .keepClosed = false) :=
  by decide +kernel

/-- A NO_RAISE in UNLOCKING; a NO_MOTION, and TRAFFIC's NO_LOWER, in SEATING under a halt. -/
theorem test_hyp_PlaceHoldPlacesOrRefuses_stops :
    let unlocking := asking (withMotion on .unlocking .none) .operator 0x30 [0, 9]
    let seating (k : Nat) := asking (withMotion (withTower on .rampingDown) .seating .halt) .traffic 0x30 [k, 9]
    unlocking.offers .operator (entry 0x30 [0, 9]) [] = true ∧ unlocking.configured = true ∧
    unlocking.smc.motion = .unlocking ∧ (seating 2).offers .traffic (entry 0x30 [2, 9]) [] = true ∧
    (entry 0x30 [2, 9]).asks 0x30 [2, 9] = true ∧ HoldKind.noMotion.ctorIdx = 2 ∧
    (seating 1).offers .traffic (entry 0x30 [1, 9]) [] = true ∧ (entry 0x30 [1, 9]).asks 0x30 [1, 9] = true ∧
    HoldKind.noLower.ctorIdx = 1 ∧ (seating 1).smc.motion = .seating ∧ (seating 1).smc.stop ≠ .quick ∧
    ((seating 1).tower .a).phase = .rampingDown := by decide +kernel

/-- R64, R73: a NO_RAISE in UNLOCKING, a tower not seated, leaves HALTED; R74: a NO_LOWER in SEATING under a halt quick-stops. -/
theorem test_holds_stop :
    (Gives (exec (.placeHold .operator) (asking (withMotion on .unlocking .none) .operator 0x30 [0, 9])) fun t =>
      t.smc.motion = .halted) ∧
    Gives (exec (.placeHold .traffic) (asking (withMotion (withTower on .rampingDown) .seating .halt) .traffic 0x30 [1, 9])) fun t =>
      t.smc.motion = .seating ∧ t.smc.stop = .quick ∧ (t.tower .a).phase = .settingBrake :=
  ⟨⟨_, rfl, by decide +kernel⟩, ⟨_, rfl, by decide +kernel⟩⟩

/-- R101: a KEEP_CLOSED in BARRIER_RAISING turns a barrier's motor off and leaves its command recorded. -/
theorem test_hold_stops_a_barrier :
    Gives (exec (.placeHold .operator) (asking barriersRising .operator 0x30 [3, 9])) fun t =>
      t.rcs.holding = true ∧ t.cmd (gateUpFn .b1) = false ∧
      t.gate .b1 = { cmd := .up, pos := .moving, obstructed := false, travel := none, settle := .stopped } :=
  ⟨_, rfl, by decide +kernel⟩

/-- A NO_RAISE hold halts a raise: with both towers at rest the span is HALTED at once. -/
theorem test_hold_halts_a_raise :
    Gives (exec (.placeHold .operator) (asking (withMotion on .raising .none) .operator 0x30 [0, 9])) fun t =>
      t.smc.motion = .halted ∧ t.hasHold .noRaise = true ∧ t.ht.pointer = 5 := ⟨_, rfl, by decide +kernel⟩

theorem test_hyp_ReleaseHoldReleasesOrRefuses :
    let h : Hold := { owner := .traffic, kind := .marineStop, reason := 1, age := 3 }
    let s := asking (on.onHt fun m => { m with slots := m.slots.set 11 { gen := 255, record := some h } }) .traffic 0x31 [11, 255]
    s.offers .traffic (entry 0x31 [11, 255]) [] = true ∧ s.configured = true ∧
    (entry 0x31 [11, 255]).asks 0x31 [11, 255] = true ∧ s.holdAt { slot := 11, gen := 255 } = some h ∧
    s.holdAt { slot := 11, gen := 0 } = none ∧ (entry 0x31 [12, 0]).asks 0x31 [12, 0] = true := by decide +kernel

/-- The barriers held by OPERATOR's KEEP_CLOSED in slot 4, B2 up meanwhile. -/
def barriersHeld : State :=
  (((withRoad on .barrierRaising).setGate .b1 { GateRec.reset with cmd := .up, pos := .moving }).setGate .b2
    { GateRec.reset with pos := .up }).onRcs (fun m => { m with holding := true }) |>.onHt fun m =>
      { m with slots := m.slots.set 4 { gen := 1, record := some { owner := .operator, kind := .keepClosed, reason := 1, age := 3 } } }

theorem test_hyp_ReleaseHoldReleasesOrRefuses_keepClosed :
    let s := asking barriersHeld .operator 0x31 [4, 1]
    s.offers .operator (entry 0x31 [4, 1]) [] = true ∧ s.configured = true ∧ (entry 0x31 [4, 1]).asks 0x31 [4, 1] = true ∧
    (s.holdAt { slot := 4, gen := 1 }).any (fun h => h.owner = .operator && h.kind = .keepClosed) = true ∧
    s.rcs.holding = true ∧ (∀ j : Fin 12, j ≠ 4 → (s.ht.slots[j]).record.all (fun x => x.kind ≠ .keepClosed) = true) ∧
    s.rcs.suspended = false ∧ s.rcs.road = .barrierRaising ∧ (∀ f : Fin 40, s.isDisplaced f = false) ∧
    (s.gate .b1).pos ≠ .up ∧ (s.gate .b2).pos = .up ∧
    (s.onRcs fun m => { m with causeLoop := true }).rcs.suspended = true := by decide +kernel

/-- A span in HOLDING with the channel held by upstream-bound traffic, the record of slot 2 ADMITTED. -/
def holding : State := withMotion (inChannel .admitted) .holding .none

/-- TRAFFIC's MARINE_STOP in slot 4 while the channel is in use, alone and beside OPERATOR's in slot 5. -/
def marineStopped (two : Bool) : State :=
  holding.onHt fun m =>
    let stop (o : Owner) : Slot Hold := { gen := 1, record := some { owner := o, kind := .marineStop, reason := 1, age := 3 } }
    { m with slots := (m.slots.set 4 (stop .traffic)).set 5 (if two then stop .operator else m.slots[(5 : Fin 12)]) }

theorem test_hyp_ReleaseHoldReleasesOrRefuses_marineStop :
    let s (two : Bool) := asking (marineStopped two) .traffic 0x31 [4, 1]
    (s false).offers .traffic (entry 0x31 [4, 1]) [] = true ∧ (s false).configured = true ∧
    ((s false).holdAt { slot := 4, gen := 1 }).any (fun h => h.owner = .traffic && h.kind = .marineStop) = true ∧
    (∀ j : Fin 12, j ≠ 4 → ((s false).ht.slots[j]).record.all (fun x => x.kind ≠ .marineStop) = true) ∧
    (s true).offers .traffic (entry 0x31 [4, 1]) [] = true ∧
    ((s true).ht.slots[(5 : Fin 12)]).record.any (fun x => x.kind = .marineStop) = true := by decide +kernel

/-- R164, R165: with the last MARINE_STOP gone the waiting member's head is STANDBY; with one left it stays at STOP. -/
theorem test_marine_stop_released :
    let s (two : Bool) := asking ((marineStopped two).onPau fun p =>
      { p with decidedD := .stop, opening := { p.opening with active := none, queueUp := [] },
               slots := p.slots.set 2 { gen := 0, record := some (record 9 .grouped) } }) .traffic 0x31 [4, 1]
    (Gives (exec (.releaseHold .traffic) (s false)) fun t =>
      t.pau.decidedD = .standby ∧ (t.passage { slot := 2, gen := 0 }) = some (record 9 .grouped)) ∧
    Gives (exec (.releaseHold .traffic) (s true)) fun t => t.pau.decidedD = .stop :=
  ⟨⟨_, rfl, by decide +kernel⟩, ⟨_, rfl, by decide +kernel⟩⟩

/-- R101: the release drives B1 on, and B2, which came up meanwhile, needs no drive. -/
theorem test_release_drives_a_barrier_on :
    Gives (exec (.releaseHold .operator) (asking barriersHeld .operator 0x31 [4, 1])) fun t =>
      t.rcs.holding = false ∧ t.rcs.road = .barrierRaising ∧ t.cmd (gateUpFn .b1) = true ∧ t.cmd (gateUpFn .b2) = false ∧
      (t.gate .b1).travel = some (2880000 * on.act.gateTime.toNat) := ⟨_, rfl, by decide +kernel⟩

/-- A state with one fault at a value. -/
def withFault (s : State) (f : Fin 37) (v : FaultValue) : State := s.onMfs fun m => { m with faults := m.faults.set f v }

theorem test_hyp_AcknowledgementClearsLatchedFaults :
    let s := asking (withMotion (withFault on 0 .latched) .tripped .none) .operator 0x38 []
    s.offers .operator (entry 0x38 []) [] = true ∧ s.configured = true ∧ (entry 0x38 []).asks 0x38 [] = true ∧
    s.fault 0 = .latched ∧ s.smc.motion = .tripped := by decide +kernel

/-! ### The settings -/

theorem test_hyp_LoadSettingWritesThePendingSet :
    let v : List Nat := [0, 19, 0, 0, 0, 60]
    (asking State.reset .operator 0x40 v).offers .operator (entry 0x40 v) [] = true ∧
    (entry 0x40 v).asks 0x40 (beBytes 2 ((18 : Fin 52).val + 1) ++ signedBytes 4 60) = true ∧
    (entry 0x40 [0, 64, 0, 0, 0, 47]).asks 0x40 (beBytes 2 (64 + (0 : Fin 40).val) ++ beBytes 4 (47 : Fin 48).val) = true ∧
    (entry 0x40 [0, 63, 0, 0, 0, 1]).asks 0x40 (beBytes 2 63 ++ [0, 0, 0, 1]) = true ∧
    (entry 0x40 [0, 103, 0, 0, 0, 255]).asks 0x40 (beBytes 2 (64 + (39 : Fin 40).val) ++ signedBytes 4 255) = true ∧
    (entry 0x40 [0, 103, 255, 255, 255, 255]).asks 0x40 (beBytes 2 (64 + (39 : Fin 40).val) ++ signedBytes 4 (-1)) = true ∧
    (entry 0x40 [0, 175, 0, 0, 0, 2]).asks 0x40 (beBytes 2 (128 + (47 : Fin 48).val) ++ signedBytes 4 2) = true ∧
    (entry 0x40 [1, 63, 9, 9, 7, 1]).asks 0x40 (beBytes 2 (256 + (63 : Fin 64).val) ++ [9, 9, 7, 1]) = true ∧
    (entry 0x40 [1, 79, 63, 64, 63, 15]).asks 0x40 (beBytes 2 (320 + (15 : Fin 16).val) ++ [63, 64, 63, 15]) = true ∧
    (entry 0x40 [1, 98, 0, 0, 0, 15]).asks 0x40 (beBytes 2 (336 + (18 : Fin 19).val) ++ signedBytes 4 15) = true ∧
    (entry 0x40 [1, 98, 0, 0, 0, 16]).asks 0x40 (beBytes 2 (336 + (18 : Fin 19).val) ++ signedBytes 4 16) = true ∧
    (entry 0x40 [1, 99]).asks 0x40 (beBytes 2 355) = true ∧
    (entry 0x40 [0, 52]).asks 0x40 (beBytes 2 ((51 : Fin 52).val + 1)) = true := by decide +kernel

/-- Settings that pass every cross-check: `cfg` with a pattern that gives up for the horn's ADMIT and DANGER. -/
def good : Settings :=
  { cfg with descrs := cfg.descrs.set 1 { base := 0, length := 1, modify := 0, passes := 2 },
             aspects := (cfg.aspects.set 17 1).set 18 1 }

def pendingOf (s : State) (c : Settings) : State := s.onCs fun m => { m with pendingSet := c }

theorem test_hyp_CommitRefusedOrFailedChangesNothing :
    let s := asking State.reset .operator 0x41 []
    s.offers .operator (entry 0x41 []) [] = true ∧ (entry 0x41 []).asks 0x41 [] = true ∧ s.configured = false ∧
    (19, false) ∈ commitChecks s.cs.pendingSet ∧
    (∀ x ∈ commitChecks s.cs.pendingSet, x.2 = false → 19 ≤ x.1) ∧
    (asking on .operator 0x41 []).configured = true ∧ (asking on .operator 0x41 []).rcs.road = .recovery := by decide +kernel

theorem test_hyp_SuccessfulCommitTakesEffect :
    let s := asking (pendingOf State.reset good) .operator 0x41 []
    let again := asking (withMotion (withRoad (pendingOf on good) .isOpen) .seatedLocked .none) .operator 0x41 []
    s.offers .operator (entry 0x41 []) [] = true ∧ (entry 0x41 []).asks 0x41 [] = true ∧
    (∀ x ∈ commitChecks s.cs.pendingSet, x.2 = true) ∧ s.configured = false ∧ s.om.loopClosed = true ∧
    again.offers .operator (entry 0x41 []) [] = true ∧ again.configured = true ∧ again.rcs.road = .isOpen ∧
    again.smc.motion = .seatedLocked ∧ again.pau.opening = Opening.absent := by decide +kernel

/-- The three conflicts of section 1.7's example. -/
def conflicts : Settings :=
  let pairs : List (Fin 40 × Fin 48) := [(2, 5), (34, 5), (24, 20), (28, 20), (38, 30), (39, 30)]
  { good with assign := pairs.foldl (fun v x => v.set x.1 (some x.2)) good.assign }

/-- R9's example: functions 28, 34 and 39 lose their lines to 24, 2 and 38 (lines 20, 5 and 30), and are displaced in that order. -/
theorem test_assignment_example :
    let o := Om.resolve conflicts Om.reset
    o.displaced = [28, 34, 39] ∧ o.winner[(5 : Fin 48)] = some 2 ∧ o.winner[(20 : Fin 48)] = some 24 ∧
    o.winner[(30 : Fin 48)] = some 38 ∧ o.winner[(34 : Fin 48)] = none := by decide +kernel

/-- R11, R13: a line without a winner is energised exactly where its polarity is inverted. -/
theorem test_inverted_line :
    let o := Om.resolve { conflicts with inverted := conflicts.inverted.set 34 true } Om.reset
    o.energised 34 = true ∧ o.energised 35 = false := by decide +kernel

/-- A part whose port 0 holds the reply to an accepted RESTART. -/
def restarting : State := on.onPort .operator fun r => { r with tx := .waiting { reply with restarts := true } 9 }

theorem test_hyp_RestartAcceptedThenActs :
    (asking on .operator 0x42 []).offers .operator (entry 0x42 []) [] = true ∧ on.configured = true ∧
    (entry 0x42 []).asks 0x42 [] = true ∧
    (restarting.sp.get .operator).tx = .waiting { reply with restarts := true } 9 ∧ restarting.cs.held = false ∧
    (frameChars reply.kind reply.tag reply.payload)[0]? = some 0xC5 ∧
    (((on.onPort .operator fun r => { r with tx := .sending { reply with restarts := true } 0 9 }).sp.get .operator).tx =
      .sending { reply with restarts := true } 0 9) := by decide +kernel

/-- The end of the reply to a RESTART is the restart (R218). -/
theorem test_restart_at_reply_end :
    exec (.replyAbandoned .operator) restarting = exec .restartActs restarting := rfl

/-! ### Lines, wind, supply, the loop -/

/-- A part between sampling instants, with a history. -/
def sampled (l : List (BitVec 48)) : State := on.onIq fun q => { q with samplingTimer := some 3, samples := l }

theorem test_hyp_SamplingTakesTheMajority :
    (sampled [0]).iq.samplingTimer.isSome = true ∧ (sampled [0]).iq.samples.length < 2 ∧ (sampled [0]).iq.qualified = none ∧
    (sampled [0, 2]).iq.samples = [0, 2] ∧ (sampled [6, 0, 2]).iq.samples = [6, 0, 2] ∧
    (turning on [] [43]).iq.samples = [levels [], levels [43]] ∧ (turning on [] [43]).iq.qualified = some (levels []) ∧
    (turning (withMotion on .raising .none) [] [43]).qualifies (levels [43]) 43 true ∧
    (turning (withMotion on .lowering .none) [] [44]).qualifies (levels [44]) 44 true ∧
    (turning (withMotion on .unlocking .none) [] [37]).qualifies (levels [37]) 37 true ∧
    (turning (withMotion on .seating .halt) [] [37]).qualifies (levels [37]) 37 true :=
  ⟨by decide +kernel, by decide +kernel, by decide +kernel, by decide +kernel, by decide +kernel, rfl, rfl,
    turning_qualifies _ _ _ _ _ (by decide +kernel), turning_qualifies _ _ _ _ _ (by decide +kernel),
    turning_qualifies _ _ _ _ _ (by decide +kernel), turning_qualifies _ _ _ _ _ (by decide +kernel)⟩

theorem test_hyp_QualificationCompleteTakesFirstLevels :
    (sampled [0, 2]).iq.samplingTimer.isSome = true ∧ (sampled [0, 2]).iq.samples = [0, 2] ∧
    (sampled [0, 2]).iq.qualified = none ∧ (sampled [0, 2]).rcs.road = .recovery ∧ (sampled [0, 2]).smc.motion = .initial ∧
    (sampled [0, 2]).configured = true ∧ (withRoad (sampled [0, 2]) .prewarn).rcs.road ≠ .recovery ∧
    (∀ i : Fin 12, i.val < 4 → ((sampled [0, 2]).ht.slots[i]).record = none) := by decide +kernel

/-- Two samples of three decide: line 43 (a panel hold) in the second and third. -/
theorem test_majority :
    Gives (exec (.samplingInstant (levels [43]) 0) (turning on [] [43])) fun t =>
      t.line 43 = true ∧ t.line 44 = false ∧ t.hasHold .noRaise = true := ⟨_, rfl, by decide +kernel⟩

/-- A wind window in progress. -/
def windy (n : Nat) (l : List Nat) (m : Monitor) : State :=
  (on.onIq fun q => { q with windowTimer := some 3, anemometer := n }).onMfs fun r => { r with windows := l, wind := m }

theorem test_hyp_WindCountsSpeedAndAlert :
    let pending : Monitor := { state := .alertPending, delay := some 1, latestBack := false }
    (windy 65535 [] .reset).iq.windowTimer.isSome = true ∧ (windy 41 [38, 44, 30] pending).mfs.windows.length ≤ 3 ∧
    (windy 41 [38, 44, 41] pending).mfs.wind.delay = some 1 ∧
    (windy 41 [] .reset).act.windLevel < (min ((3 * 41) * 96 / 64) 999 : Nat) ∧
    (windy 0 [0, 0] { pending with state := .clearPending }).mfs.wind.delay = some 1 ∧
    (windy 0 [0, 0] { pending with state := .clearPending, delay := some 2 }).mfs.wind.delay = some 2 ∧
    ((0 : Nat) : Int) ≤ on.act.windLevel - on.act.windHyst ∧
    (windy 0 [] { pending with state := .alert, delay := none }).mfs.wind.state = .alert ∧
    (withMotion (windy 41 [38, 44, 41] pending) .raising .none).smc.stop = .none ∧
    (withMotion (windy 41 [38, 44, 41] pending) .unlocking .none).smc.motion = .unlocking := by decide +kernel

/-- R189's second line: counts 41 and 38 give S 117 and a speed of 175. -/
theorem test_wind_window :
    Gives (exec .windWindowEnd (windy 38 [41] .reset)) fun t => t.mfs.windSpeed = some 175 ∧ t.mfs.windows = [41, 38] :=
  ⟨_, rfl, by decide +kernel⟩

def supplyAt (m : MonitorState) (back : Bool) : State :=
  on.onMfs fun r => { r with supply := { state := m, delay := some 4, latestBack := back } }

theorem test_hyp_SupplyDelayEndsByTheLatestValue :
    (supplyAt .alertPending false).mfs.supply.delay.isSome = true ∧
    (withMotion (supplyAt .alertPending false) .raising .none).smc.motion = .raising ∧
    (withMotion (supplyAt .alertPending false) .locking .none).mfs.supply.state = .alertPending ∧
    (supplyAt .clearPending true).mfs.supply.latestBack = true := by decide +kernel

/-- R68, R73: an alert in LOCKING turns the lock drives off and leaves SEATED. -/
theorem test_supply_alert_in_locking :
    Gives (exec .supplyDelayExpiry ((withMotion (supplyAt .alertPending false) .locking .none).setCmd 8 true)) fun t =>
      t.smc.motion = .seated ∧ t.cmd 8 = false ∧ t.mfs.supply.state = .alert := ⟨_, rfl, by decide +kernel⟩

theorem test_hyp_EstopLoopLatchesAndTrips :
    on.configured = true ∧ on.om.latch = false ∧ on.fault 0 ≠ .active ∧ on.iq.qualified = none ∧
    (withLines on [0]).line 0 = true ∧ State.reset.configured = false ∧
    (Om.resolve conflicts on.om).winner[(5 : Fin 48)] = some 2 := by decide +kernel

/-- A part whose E-stop loop is open at its terminal. -/
def loopOpen (s : State) : State := s.onOm fun o => { o with loopClosed := false, latch := true }

/-- Line 0 qualifies open, and closed again. -/
theorem test_hyp_EstopLoopLatchesAndTrips_line :
    (turning (loopOpen on) [0] []).qualifies (levels []) 0 false ∧ (turning on [] [0]).qualifies (levels [0]) 0 true ∧
    (loopOpen on).configured = true ∧ on.fault 0 ≠ .active ∧ on.smc.motion ≠ .tripped ∧
    (withFault on 0 .active).fault 0 = .active ∧ (∀ f : Fin 40, on.isDisplaced f = false) :=
  ⟨turning_qualifies _ _ _ _ _ (by decide +kernel), turning_qualifies _ _ _ _ _ (by decide +kernel), by decide +kernel⟩

/-- R15: the line that qualifies open has ESTOP ACTIVE, and closed with the terminal closed LATCHED; the latch stands. -/
theorem test_estop_line :
    (Gives (exec (.samplingInstant (levels []) 0) (turning (loopOpen on) [0] [])) fun t =>
      t.fault 0 = .active ∧ t.smc.motion = .tripped) ∧
    Gives (exec (.samplingInstant (levels [0]) 0)
      (turning ((withFault on 0 .active).onOm fun o => { o with latch := true }) [] [0])) fun t =>
      t.fault 0 = .latched ∧ t.om.latch = true := ⟨⟨_, rfl, by decide +kernel⟩, ⟨_, rfl, by decide +kernel⟩⟩

/-- The opening of the loop trips, latches and makes ESTOP ACTIVE. -/
theorem test_estop :
    Gives (exec .estopLoopOpens (withMotion on .raising .none)) fun t =>
      t.smc.motion = .tripped ∧ t.om.latch = true ∧ t.fault 0 = .active ∧ t.mfs.firstTrip = some 0 := ⟨_, rfl, by decide +kernel⟩

/-! ### Measurement and drive -/

/-- A drive period in progress, tower A in RAMPING_DOWN with nothing staged and a live duty of 60. -/
def ramping : State :=
  ((withTower on .rampingDown).onSmc fun m => { m with periodTimer := some 3 }).onOm fun o =>
    { o with speed := { o.speed with a := { staged := 0, live := 60, carrier := 60, carrierTimer := some 3 } } }

theorem test_hyp_BoundaryTransfersDutiesAndStartsScan :
    ramping.smc.periodTimer.isSome = true ∧ (ramping.tower .a).phase = .rampingDown ∧
    (ramping.om.speed.get .a).carrierTimer.isSome = true := by decide +kernel

/-- The boundary copies the staged 0, and the tower begins to set its brake. -/
theorem test_boundary :
    Gives (exec .drivePeriodBoundary ramping) fun t =>
      (t.om.speed.get .a).live = 0 ∧ (t.om.speed.get .a).carrier = 60 ∧ (t.tower .a).phase = .settingBrake :=
  ⟨_, rfl, by decide +kernel⟩

def scanning : State := on.onMu fun m => { m with scan := some cfg }

theorem test_hyp_ScanCompletionPublishesOneSet : scanning.mu.scan = some cfg ∧ 0 < cfg.qn := by decide +kernel

/-- The worked lines of R39 to R42 in one set: codes 2505 and 2497 of the towers, 1475 of the water. -/
theorem test_set_measures_the_water :
    let ch (n : Nat) : Channel := { Channel.empty with state := .valid, held := some n }
    let m := setOf cfg { c0 := ch 2505, c1 := ch 2497, c2 := ch 1475, c3 := .empty, c4 := .empty } 0
    m.measured = true ∧ m.water = 1850 ∧ m.heights =
      some { hA := 21050, hB := 20970, hs := 20970, skew := 80, clearanceMm := 31120, clearanceCm := 3112 } := by decide +kernel

/-- Without a set that carries a clearance no ADMITTED member keeps its place (R162). -/
theorem test_no_clearance_calls_back :
    let t := (holding.onMu fun m => { m with set := none }).pauTakesSet
    holding.pau.opening.state = .admitting ∧ (t.passage { slot := 2, gen := 0 }).any (fun r => r.state = .grouped) = true ∧
    t.pau.opening.queueUp = [] ∧ t.pau.opening.active = none := by decide +kernel

/-- R45's second clause and the third: a need of one centimetre or more, and a span at the lift of 3100 at w 1850. -/
theorem test_hyp_ClearanceMeetsNeedExactlyAtTheLift :
    (withSet on 0).liftOf 3100 ≤ (heightsOf cfg 2505 2505 1850).hs ∧ (3100 : Int) ≤ (heightsOf cfg 2505 2505 1850).clearanceCm := by
  decide +kernel

theorem test_hyp_OutputSlewsAndReferencesAreLimited :
    0 ≤ cfg.racc ∧ 0 ≤ cfg.rdec ∧ 0 ≤ cfg.vcreep ∧ cfg.vcreep ≤ cfg.vmax ∧ cfg.zcreep < cfg.zslow ∧ cfg.ztol ≤ cfg.zcreep ∧
    ((420 : Nat) : Int) - cfg.rdec ≤ 360 ∧ (360 : Int) ≤ (420 : Nat) + cfg.racc ∧ scanning.mu.scan.isSome = true := by
  decide +kernel

/-- A raise without heights: no demand, so the output of 420 falls by Rdec, and the running tower's duty rises from 0 by as much. -/
theorem test_output_falls :
    let t := ((withTower (withMotion on .raising .none) .running).onSmc fun m => { m with out := 420 }).speedControl
    t.smc.out = 360 ∧ (t.om.speed.get .a).staged = 60 ∧ (t.om.speed.get .b).staged = 0 := by decide +kernel

/-- Tower A setting its brake with RAISE on, under a halt, tower B at rest. -/
def braking : State := (withMotion (withTower on .settingBrake) .raising .halt).setCmd 0 true

/-- SEATING with both towers seated, tower A still setting its brake, and lock B alone driven. -/
def seatingLast : State :=
  (withLines (withMotion (withTower on .settingBrake) .seating .none) [14]).onSmc fun m =>
    { m with towers := { a := { m.towers.a with seated := true }, b := { m.towers.b with seated := true } } }

theorem test_hyp_TowerTimersFollowThePhases :
    ((withTower on .releasingBrake).tower .a).phase = .releasingBrake ∧
    ((withTower on .releasingBrake).tower .a).brakeTimer = some 5 ∧ (braking.tower .a).phase = .settingBrake ∧
    (braking.tower .a).brakeTimer = some 5 ∧ (braking.cmd (towerFn .a 0) != braking.cmd (towerFn .a 1)) = true ∧
    (braking.tower .b).phase = .atRest ∧ braking.smc.motion = .raising ∧ braking.smc.stop = .halt ∧
    (let arriving := withMotion (withTower (opened .gathered .grouped) .settingBrake) .raising .arrival
     arriving.smc.stop = .arrival ∧ arriving.pau.opening.state = .gathered ∧ arriving.pau.opening.members ≠ []) ∧
    (((withTower on .waitingReversal).onSmc fun m =>
      { m with towers := { m.towers with a := { m.towers.a with reversal := some { blocked := .both, remaining := 3 } } } }).tower
        .a).reversal = some { blocked := .both, remaining := 3 } ∧
    (seatingLast.tower .a).phase = .settingBrake ∧ (seatingLast.tower .a).brakeTimer = some 5 ∧
    (seatingLast.tower .b).phase = .atRest ∧ seatingLast.smc.motion = .seating ∧ seatingLast.smc.stop = .none ∧
    (seatingLast.tower .a).seated = true ∧ (seatingLast.tower .b).seated = true ∧
    ¬(seatingLast.line 12 = true ∧ seatingLast.line 14 = true) ∧
    ((withTower on .settingBrake).onSmc fun m =>
      { m with towers := { m.towers with b := { m.towers.b with phase := .running } } }).smc.towers.b.phase ≠ .atRest :=
  by decide +kernel

/-- R67: the second tower comes to rest seated, and the lock not yet driven is driven. -/
theorem test_seating_ends_in_locking :
    Gives (exec (.brakeTimerExpiry .a) seatingLast) fun t =>
      t.smc.motion = .locking ∧ t.cmd 8 = true ∧ t.cmd 10 = false := ⟨_, rfl, by decide +kernel⟩

/-- R165's lines: an ADMITTED passage whose need the clearance meets is shown PROCEED in HOLDING, a GROUPED one STANDBY, and under
a MARINE_STOP STOP. -/
theorem test_aspect_for :
    let clear (s : State) : State := s.onMu fun u =>
      { u with set := u.set.map fun m => { m with heights := m.heights.map fun h => { h with clearanceCm := 3105 } } }
    (clear holding).aspectFor .up = .proceed ∧ (clear holding).aspectFor .down = .stop ∧ holding.aspectFor .up = .standby ∧
    (opened .gathered .grouped).aspectFor .up = .standby ∧ (clear (marineStopped false)).aspectFor .up = .stop := by
  decide +kernel

theorem test_hyp_LockAndSeatTimeoutsTrip :
    let s := (withMotion on .unlocking .none).onSmc fun m => { m with lockTimer := some 3, seatTimer := some 3 }
    s.smc.motion ≠ .tripped ∧ s.fault 10 ≠ .active ∧ s.fault 11 ≠ .active ∧ s.smc.lockTimer.isSome = true ∧
    s.smc.seatTimer.isSome = true := by decide +kernel

/-- A withdrawn proving is lost in HOLDING, and at rest in SEATED with no drive on. -/
theorem test_hyp_LockAndSeatTimeoutsTrip_lost :
    (turning holding [11, 13] [13]).qualifies (levels [13]) 11 false ∧
    holding.smc.motion ∈ [Motion.raising, .holding, .lowering, .seating] ∧ holding.fault 10 ≠ .active ∧
    (turning (withMotion on .seated .none) [11, 13] [11]).qualifies (levels [11]) 13 false ∧
    ¬((withMotion on .seated .none).smc.motion ∈ [Motion.raising, .holding, .lowering, .seating] ∨
      ∃ f ∈ ([0, 1, 2, 4, 5, 6] : List (Fin 40)), (withMotion on .seated .none).cmd f = true) :=
  ⟨turning_qualifies _ _ _ _ _ (by decide +kernel), by decide +kernel, by decide +kernel,
    turning_qualifies _ _ _ _ _ (by decide +kernel), by decide +kernel⟩

theorem test_hyp_DisagreementExpiryTrips :
    let s := on.onSmc fun m => { m with towers := { m.towers with b := { m.towers.b with brakeCmp := .disagrees 4 } } }
    (s.tower .b).brakeCmp = .disagrees 4 ∧ s.fault 9 ≠ .active ∧ s.smc.motion ≠ .tripped ∧
    (withFault s 9 .active).fault 9 = .active := by decide +kernel

/-- Contactor A's RAISE auxiliary shows, the brake's proving is lost, and the upper limit line of tower A and the other's open. -/
theorem test_hyp_DisagreementExpiryTrips_lines :
    (turning on [2, 7] [2, 3, 7]).qualifies (levels [2, 3, 7]) 3 true ∧
    (turning on [2, 7, 10] [2, 7]).qualifies (levels [2, 7]) 10 false ∧
    (turning on [2, 7] [7]).qualifies (levels [7]) 2 false ∧ (turning on [2] [2, 7]).qualifies (levels [2, 7]) 7 true ∧
    (let s := withLines (withTower on .releasingBrake) [2, 7]
     (s.tower .a).phase = .releasingBrake ∧ (s.tower .a).brakeTimer.isSome = true ∧ s.iq.qualified.isSome = true) :=
  ⟨turning_qualifies _ _ _ _ _ (by decide +kernel), turning_qualifies _ _ _ _ _ (by decide +kernel),
    turning_qualifies _ _ _ _ _ (by decide +kernel), turning_qualifies _ _ _ _ _ (by decide +kernel), by decide +kernel⟩

/-- R77: an auxiliary without its command starts Tprove, and so does a released brake whose proving is absent. R78: a limit line
that opens trips with OVERTRAVEL. -/
theorem test_proving_and_limit_lines :
    (Gives (exec (.samplingInstant (levels [2, 3, 7]) 0) (turning on [2, 7] [2, 3, 7])) fun t =>
      (t.tower .a).raiseCmp = .disagrees (2880 * cfg.tprove.toNat) ∧ t.fault 6 = .clear) ∧
    (Gives (exec (.brakeTimerExpiry .a) (withLines (withTower on .releasingBrake) [2, 7])) fun t =>
      (t.tower .a).brakeCmp = .disagrees (2880 * cfg.tprove.toNat) ∧ (t.tower .a).phase = .running) ∧
    Gives (exec (.samplingInstant (levels [7]) 0) (turning on [2, 7] [7])) fun t =>
      t.fault 2 = .active ∧ t.smc.motion = .tripped :=
  ⟨⟨_, rfl, by decide +kernel⟩, ⟨_, rfl, by decide +kernel⟩, ⟨_, rfl, by decide +kernel⟩⟩

/-! ### The road's timers -/

/-- A road in a state with every timer running. -/
def timed (r : Road) : State :=
  on.onRcs fun m => { m with road := r, prewarn := some 3, amber := some 3, clearing := .running 3, extinguish := some 3 }

theorem test_hyp_RoadStepTimersAdvanceTheRoad :
    (timed .prewarn).rcs.suspended = false ∧ (timed .prewarn).rcs.road = .prewarn ∧ (timed .prewarn).rcs.prewarn.isSome = true ∧
    (timed .prewarn).pg.impaired.warnN = false ∧ ((timed .prewarn).onPg fun g => { g with impaired := { g.impaired with
      trafS := true } }).pg.impaired.trafS = true ∧ (timed .clearing).rcs.clearing = .running 3 ∧
    (timed .extinguish).rcs.extinguish.isSome = true ∧
    (let s := withLines (timed .prewarn) [27, 28, 29, 30]
     s.zoneClear .w1 = true ∧ s.zoneClear .w3 = true ∧ (s.gate .w1).obstructed = false ∧ (s.gate .w1).pos ≠ .down) := by
  decide +kernel

/-- A road that an open interlock loop suspends. -/
def stopped (r : Road) : State := (withRoad on r).onRcs fun m => { m with causeLoop := true }

/-- The last loop clears, and one becomes occupied, in CLEARING; and the last clears while RCS is suspended. -/
theorem test_hyp_RoadStepTimersAdvanceTheRoad_loops :
    (turning (withRoad on .clearing) [31] [31, 32]).qualifies (levels [31, 32]) 32 true ∧
    (turning (withRoad on .clearing) [31, 32] [32]).qualifies (levels [32]) 31 false ∧ (withRoad on .clearing).rcs.road = .clearing ∧
    (turning (stopped .clearing) [31] [31, 32]).qualifies (levels [31, 32]) 32 true ∧ (stopped .clearing).rcs.road = .clearing ∧
    (stopped .clearing).rcs.suspended = true :=
  ⟨turning_qualifies _ _ _ _ _ (by decide +kernel), turning_qualifies _ _ _ _ _ (by decide +kernel), rfl,
    turning_qualifies _ _ _ _ _ (by decide +kernel), rfl, rfl⟩

/-- ENTRY_LOWERING suspended by the interlock loop alone, gate W1 down, W3 still to come down under its recorded command. -/
def loopStopped : State :=
  ((stopped .entryLowering).setGate .w1 { GateRec.reset with pos := .down }).setGate .w3
    { GateRec.reset with cmd := .down, pos := .moving }

/-- A deck loop under a raise and an unlocking; the interlock loop opens, and closes as the last cause and beside another; and a
waiting PREWARN goes on at that. -/
theorem test_hyp_RoadStepTimersAdvanceTheRoad_suspended :
    let zones := [27, 28, 29, 30]
    (turning (withMotion (withRoad on .sealed) .raising .none) [31, 32] [31]).qualifies (levels [31]) 32 false ∧
    (turning (withMotion on .unlocking .none) [31, 32] [32]).qualifies (levels [32]) 31 false ∧
    (turning (loopOpen (withRoad on .gateRaising)) [0, 27] [27]).qualifies (levels [27]) 0 false ∧
    (turning loopStopped zones (0 :: zones)).qualifies (levels (0 :: zones)) 0 true ∧
    (turning (loopStopped.onRcs fun m => { m with causeSupply := true }) zones (0 :: zones)).qualifies (levels (0 :: zones)) 0 true ∧
    (let s := turning loopStopped zones (0 :: zones)
     s.rcs.causeLoop = true ∧ s.rcs.causeGate = false ∧ s.rcs.causeSupply = false ∧ s.rcs.holding = false ∧
     (∀ f : Fin 40, s.isDisplaced f = false) ∧ ∀ g ∈ Gate.all, (s.gate g).obstructed = false ∧ s.zoneClear g = true) ∧
    (let s := (stopped .prewarn).onRcs fun m => { m with waitingHeads := true }
     s.rcs.road = .prewarn ∧ s.rcs.waitingHeads = true ∧ s.pg.impaired.warnN = false ∧ s.pg.impaired.trafS = false ∧
     (withRoad on .prewarn).rcs.suspended = false) :=
  ⟨turning_qualifies _ _ _ _ _ (by decide +kernel), turning_qualifies _ _ _ _ _ (by decide +kernel),
    turning_qualifies _ _ _ _ _ (by decide +kernel), turning_qualifies _ _ _ _ _ (by decide +kernel),
    turning_qualifies _ _ _ _ _ (by decide +kernel), by decide +kernel, by decide +kernel⟩

/-- R102: the loop that closes drives gate W3 on with a fresh travel timer. -/
theorem test_loop_restart :
    let zones := [27, 28, 29, 30]
    Gives (exec (.samplingInstant (levels (0 :: zones)) 0) (turning loopStopped zones (0 :: zones))) fun t =>
      t.rcs.causeLoop = false ∧ t.cmd (gateDownFn .w3) = true ∧ (t.gate .w3).travel = some (2880000 * cfg.gateTime.toNat) ∧
      t.rcs.road = .entryLowering := ⟨_, rfl, by decide +kernel⟩

/-- The same step suspended by gate W1's fault, LATCHED, and by the supply. -/
def faultStopped (v : FaultValue) : State :=
  withLines ((withFault loopStopped 12 v).onRcs fun m => { m with causeLoop := false, causeGate := true }) [27, 28, 29, 30]

def supplyStopped : State :=
  (withLines (loopStopped.onRcs fun m => { m with causeLoop := false, causeSupply := true }) [27, 28, 29, 30]).onMfs fun r =>
    { r with supply := { state := .clearPending, delay := some 4, latestBack := true } }

theorem test_hyp_AcknowledgementClearsLatchedFaults_restart :
    gateFault .w1 = 12 ∧ (faultStopped .latched).rcs.suspended = true ∧
    (Gate.all.any fun g => (faultStopped .latched).fault (gateFault g) = .active) = false ∧
    (Gate.all.any fun g => (faultStopped .active).fault (gateFault g) = .active) = true ∧
    (asking (faultStopped .latched) .operator 0x38 []).offers .operator (entry 0x38 []) [] = true ∧
    (faultStopped .latched).rcs.holding = false ∧ (∀ f : Fin 40, (faultStopped .latched).isDisplaced f = false) ∧
    (∀ g ∈ Gate.all, ((faultStopped .latched).gate g).obstructed = false ∧ (faultStopped .latched).zoneClear g = true) := by
  decide +kernel

theorem test_hyp_SupplyDelayEndsByTheLatestValue_restart :
    supplyStopped.mfs.supply.delay.isSome = true ∧ supplyStopped.mfs.supply.state = .clearPending ∧
    supplyStopped.mfs.supply.latestBack = true ∧ supplyStopped.rcs.suspended = true ∧ supplyStopped.rcs.causeGate = false ∧
    supplyStopped.rcs.holding = false ∧ (∀ f : Fin 40, supplyStopped.isDisplaced f = false) ∧
    (∀ g ∈ Gate.all, (supplyStopped.gate g).obstructed = false ∧ supplyStopped.zoneClear g = true) := by decide +kernel

/-- R104: the last GATE fault acknowledged, and the supply back, drive gate W3 on; a GATE fault still ACTIVE keeps RCS suspended. -/
theorem test_restarts :
    (Gives (exec (.acknowledgeFaults .operator) (asking (faultStopped .latched) .operator 0x38 [])) fun t =>
      t.rcs.suspended = false ∧ t.cmd (gateDownFn .w3) = true) ∧
    (Gives (exec (.acknowledgeFaults .operator) (asking (faultStopped .active) .operator 0x38 [])) fun t =>
      t.rcs.suspended = true ∧ t.cmd (gateDownFn .w3) = false) ∧
    Gives (exec .supplyDelayExpiry supplyStopped) fun t => t.rcs.suspended = false ∧ t.cmd (gateDownFn .w3) = true :=
  ⟨⟨_, rfl, by decide +kernel⟩, ⟨_, rfl, by decide +kernel⟩, ⟨_, rfl, by decide +kernel⟩⟩

theorem test_hyp_GateTimersFaultOrLowerAgain :
    let g : GateRec := { cmd := .up, pos := .up, obstructed := true, travel := some 3, settle := .running 3 }
    let s := withLines (on.setGate .w2 g) [27, 28, 29, 30]
    (s.gate .w2).travel.isSome = true ∧ s.rcs.suspended = false ∧ Gate.isWarning .w2 = true ∧
    (s.gate .w2).settle = .running 3 ∧ (s.gate .w2).pos = .up ∧ s.zoneClear .w2 = true ∧
    s.isDisplaced (gateDownFn .w2) = false ∧ s.rcs.holding = false ∧
    ((on.setGate .w2 { g with pos := .moving }).gate .w2).pos ≠ .up := by decide +kernel

/-- Gate W1 on its way down, in ENTRY_LOWERING with gate W3 down. -/
def lowering : State :=
  ((withRoad on .entryLowering).setGate .w1 { GateRec.reset with cmd := .down, pos := .moving, travel := some 3 }).setGate .w3
    { GateRec.reset with pos := .down }

/-- A proving line changes in SEALED and in a step; a zone is occupied under a gate going DOWN, and clears. -/
theorem test_hyp_GateTimersFaultOrLowerAgain_lines :
    (turning (withRoad on .sealed) [16] []).qualifies (levels []) (gateDownLine .w1) false ∧
    (turning lowering [20, 27] [16, 20, 27]).qualifies (levels [16, 20, 27]) (gateDownLine .w1) true ∧
    (turning lowering [20, 27] [20]).qualifies (levels [20]) 27 false ∧
    (turning lowering [20] [20, 27]).qualifies (levels [20, 27]) 27 true ∧
    (let s := turning lowering [20, 27] [16, 20, 27]
     s.rcs.road ≠ .sealed ∧ s.rcs.suspended = false ∧ s.rcs.holding = false ∧ (∀ f : Fin 40, s.isDisplaced f = false) ∧
     (s.gate .w1).obstructed = false ∧ s.zoneClear .w1 = true ∧ (s.gate .w1).cmd = .down ∧ (s.gate .w1).pos ≠ .up ∧
     (Gate.w1, GateCmd.down) ∈ stepGates s.rcs.road s.rcs.phase ∧ (s.gate .w3).cmd = .none) :=
  ⟨turning_qualifies _ _ _ _ _ (by decide +kernel), turning_qualifies _ _ _ _ _ (by decide +kernel),
    turning_qualifies _ _ _ _ _ (by decide +kernel), turning_qualifies _ _ _ _ _ (by decide +kernel), by decide +kernel⟩

/-- ENTRY_LOWERING, suspended, with gate W1 recorded at a position under a command. -/
def waitingGate (c : GateCmd) (p : GatePos) : State :=
  (stopped .entryLowering).setGate .w1 { GateRec.reset with cmd := c, pos := p }

/-- While RCS is suspended, and while it is holding, a lowered gate loses its proving, and a zone is occupied. -/
theorem test_hyp_GateTimersFaultOrLowerAgain_waiting :
    (turning (waitingGate .none .down) [16, 27] [27]).qualifies (levels [27]) (gateDownLine .w1) false ∧
    (turning (waitingGate .none .down) [16] []).qualifies (levels []) (gateDownLine .w1) false ∧
    (turning (waitingGate .down .moving) [27] []).qualifies (levels []) 27 false ∧
    (let s := turning (waitingGate .none .down) [16, 27] [27]
     s.rcs.road ≠ .sealed ∧ s.rcs.suspended = true ∧ (Gate.w1, GateCmd.down) ∈ stepGates s.rcs.road s.rcs.phase ∧
     (s.gate .w1).cmd = .none ∧ (s.gate .w1).obstructed = false ∧ (s.gate .w1).pos = .down ∧ s.zoneClear .w1 = true ∧
     (turning (waitingGate .none .down) [16] []).zoneClear .w1 = false ∧
     ((waitingGate .down .moving).gate .w1).cmd = .down ∧ ((waitingGate .down .moving).gate .w1).pos ≠ .up ∧
     (barriersHeld.rcs.holding = true ∧ (barriersHeld.gate .b2).pos = .up ∧ (barriersHeld.gate .b2).cmd = .none)) :=
  ⟨turning_qualifies _ _ _ _ _ (by decide +kernel), turning_qualifies _ _ _ _ _ (by decide +kernel),
    turning_qualifies _ _ _ _ _ (by decide +kernel), by decide +kernel⟩

/-- R90, R103: the lowered gate that leaves its proving while RCS is suspended is commanded DOWN, its motor off; the zone that is
occupied meanwhile makes it obstructed (R94). -/
theorem test_drive_recorded_while_suspended :
    (Gives (exec (.samplingInstant (levels [27]) 0) (turning (waitingGate .none .down) [16, 27] [27])) fun t =>
      t.gate .w1 = { GateRec.reset with cmd := .down, pos := .moving } ∧ t.cmd (gateDownFn .w1) = false) ∧
    Gives (exec (.samplingInstant (levels []) 0) (turning (waitingGate .down .moving) [27] [])) fun t =>
      t.gate .w1 = { GateRec.reset with cmd := .up, pos := .moving, obstructed := true } :=
  ⟨⟨_, rfl, by decide +kernel⟩, ⟨_, rfl, by decide +kernel⟩⟩

/-- With the last entry gate down the road is CLEARING (R94). -/
theorem test_gate_down :
    Gives (exec (.samplingInstant (levels [16, 20, 27]) 0) (turning lowering [20, 27] [16, 20, 27])) fun t =>
      t.rcs.road = .clearing ∧ (t.gate .w1).cmd = .none ∧ (t.gate .w1).travel = none := ⟨_, rfl, by decide +kernel⟩

/-- Gate W1 down loses its proving in SEALED, and W1's travel timer runs out, while the span moves. -/
theorem test_hyp_GateTimersFaultOrLowerAgain_halts :
    let s := withMotion (withRoad on .sealed) .raising .none
    (turning s [16] []).qualifies (levels []) (gateDownLine .w1) false ∧ s.smc.motion = .raising ∧ s.smc.stop = .none ∧
    (turning (withMotion (withRoad on .sealed) .holding .none) [16] []).qualifies (levels []) (gateDownLine .w1) false ∧
    (withMotion lowering .holding .none).fault (gateFault .w1) ≠ .active ∧
    ((withMotion lowering .holding .none).gate .w1).travel.isSome = true :=
  ⟨turning_qualifies _ _ _ _ _ (by decide +kernel), rfl, rfl, turning_qualifies _ _ _ _ _ (by decide +kernel),
    by decide +kernel⟩

/-- R73: the GATE fault so raised halts the span. -/
theorem test_gate_fault_halts :
    Gives (exec (.samplingInstant (levels []) 0) (turning ((withMotion (withRoad on .sealed) .holding .none).setGate .w1
      { GateRec.reset with pos := .down }) [16] [])) fun t =>
      t.fault (gateFault .w1) = .active ∧ t.smc.motion = .halted := ⟨_, rfl, by decide +kernel⟩

/-- Gate W2 up and obstructed under a suspension, and one marked on its way up; a zone under a gate still up but commanded DOWN. -/
def waitingUp (r : GateRec) : State := (withLines (stopped .exitLowering) [27, 28, 29, 30]).setGate .w2 r

def marked : State :=
  (withRoad on .exitLowering).setGate .w2 { GateRec.reset with cmd := .up, pos := .moving, obstructed := true, settle := .expired }

theorem test_hyp_GateTimersFaultOrLowerAgain_settled :
    (let s := waitingUp { GateRec.reset with pos := .up, obstructed := true, settle := .running 3 }
     Gate.isWarning .w2 = true ∧ (s.gate .w2).settle = .running 3 ∧ (s.gate .w2).pos = .up ∧ s.zoneClear .w2 = true ∧
     s.rcs.suspended = true) ∧
    (turning marked [27, 28, 29, 30] [17, 27, 28, 29, 30]).qualifies (levels [17, 27, 28, 29, 30]) (gateUpLine .w2) true ∧
    (let s := turning marked [27, 28, 29, 30] [17, 27, 28, 29, 30]
     s.rcs.road ≠ .sealed ∧ (∀ f : Fin 40, s.isDisplaced f = false) ∧
     (Gate.w2, GateCmd.down) ∈ stepGates s.rcs.road s.rcs.phase ∧
     (s.gate .w2).obstructed = true ∧ (s.gate .w2).settle = .expired ∧ s.zoneClear .w2 = true) ∧
    (let s := waitingUp { GateRec.reset with cmd := .down, pos := .up }
     (turning s [17, 28] [17]).qualifies (levels [17]) 28 false ∧ (s.gate .w2).obstructed = false ∧
     (s.gate .w2).cmd = .down ∧ (s.gate .w2).pos = .up) :=
  ⟨by decide +kernel, turning_qualifies _ _ _ _ _ (by decide +kernel), by decide +kernel,
    turning_qualifies _ _ _ _ _ (by decide +kernel), by decide +kernel⟩

/-- R96: DOWN is recorded under the suspension; the marked gate that comes up goes down again. R95: the gate still up stays there.
-/
theorem test_obstructed_gate_at_the_top :
    (Gives (exec (.settleTimerExpiry .w2) (waitingUp { GateRec.reset with pos := .up, obstructed := true, settle := .running 3 }))
      fun t => t.gate .w2 = { GateRec.reset with cmd := .down, pos := .up } ∧ t.cmd (gateDownFn .w2) = false) ∧
    (Gives (exec (.samplingInstant (levels [17, 27, 28, 29, 30]) 0) (turning marked [27, 28, 29, 30] [17, 27, 28, 29, 30])) fun t =>
      t.gate .w2 = { cmd := .down, pos := .up, obstructed := false, travel := some (2880000 * cfg.gateTime.toNat),
                     settle := .stopped } ∧ t.cmd (gateDownFn .w2) = true) ∧
    Gives (exec (.samplingInstant (levels [17]) 0)
      (turning (waitingUp { GateRec.reset with cmd := .down, pos := .up }) [17, 28] [17])) fun t =>
      t.gate .w2 = { GateRec.reset with pos := .up, obstructed := true } :=
  ⟨⟨_, rfl, by decide +kernel⟩, ⟨_, rfl, by decide +kernel⟩, ⟨_, rfl, by decide +kernel⟩⟩

theorem test_hyp_BudgetTicksDownAndIsSpent :
    let s := (opened .gathered .grouped).onRcs fun m => { m with budgetTimer := some 3, budget := 1 }
    s.rcs.budgetTimer.isSome = true ∧ s.rcs.budget = 1 ∧ s.pau.opening.state = .gathered ∧
    { slot := 2, gen := 0 } ∈ s.pau.opening.members ∧ s.passage { slot := 2, gen := 0 } = some (record 9 .grouped) ∧
    (s.onRcs fun m => { m with budget := 0 }).rcs.budget ≠ 1 := by decide +kernel

/-- The last second of the budget, with the one member GROUPED or in transit. -/
def lastSecond (s : State) : State := (withLines s [33, 34]).onRcs fun m => { m with budgetTimer := some 3, budget := 1 }

theorem test_hyp_BudgetTicksDownAndIsSpent_opening :
    (lastSecond (opened .gathered .grouped)).hasMember .transiting = false ∧
    (lastSecond (inChannel .transiting)).hasMember .transiting = true ∧
    (lastSecond (inChannel .transiting)).pau.opening.state = .admitting ∧ (lastSecond on).pau.opening.state = .none ∧
    (lastSecond (opened .closingChannel .transiting)).pau.opening.state = .closingChannel ∧
    (lastSecond on).rcs.budget = 1 := by decide +kernel

/-- R170, R171, R173: without a vessel in transit the opening ends; with one it goes on. -/
theorem test_budget_ends_the_opening :
    (Gives (exec .budgetTick (lastSecond (opened .gathered .grouped))) fun t =>
      t.pau.opening = Opening.absent ∧
      (t.passage { slot := 2, gen := 0 }).any (fun r => r.state = .filed && r.deferred) = true ∧ t.pau.decidedD = .stop) ∧
    Gives (exec .budgetTick (lastSecond (inChannel .transiting))) fun t =>
      t.pau.opening = (inChannel .transiting).pau.opening ∧ t.rcs.budget = 0 :=
  ⟨⟨_, rfl, by decide +kernel⟩, ⟨_, rfl, by decide +kernel⟩⟩

/-! ### The heads -/

/-- A head that runs FLASH at a step. -/
def flashing (i : Nat) (p : Option Aspect) : State :=
  (on.onCs fun c => { c with active := { c.active with
    steps := (c.active.steps.set 0 { lamps := 1, duration := 50 }).set 1 { lamps := 2, duration := 50 },
    descrs := c.active.descrs.set 2 { base := 0, length := 2, modify := 1, passes := 0 }, aspects := c.active.aspects.set 1 2 } }).setRun
    .warnN { running := some .flash, pending := p, index := i, pass := 0, stepTimer := some 4, proving := none }

theorem test_hyp_StepExpiryMovesThePattern :
    let r : RunRec := { running := some .flash, pending := none, index := 1, pass := 0, stepTimer := some 4, proving := none }
    (flashing 1 none).pg.heads.get .warnN = r ∧ r.stepTimer.isSome = true ∧ r.proving ≠ r.stepTimer ∧
    ((flashing 1 (some .dark)).pg.heads.get .warnN).pending = some .dark ∧
    (cfg.descrFor .horn .danger).advance 0 = (cfg.descrFor .horn .danger).base ∧
    1 ≤ (good.descrFor .horn .danger).passes ∧ (good.descrFor .horn .danger).passes ≤ min (1 + 1) 15 := by decide +kernel

/-- A part in PREWARN whose amber timer runs, one traffic head at AMBER and the other at GREEN. -/
def ambering : State :=
  ((on.onRcs fun m => { m with road := .prewarn, amber := some 4, trafAspect := .amber, causeLoop := false }).setRun .trafN
    { running := some .amber, pending := none, index := 3, pass := 0, stepTimer := some 4, proving := none }).setRun .trafS
    { running := some .green, pending := none, index := 5, pass := 0, stepTimer := some 4, proving := none }

theorem test_hyp_StepExpiryMovesThePattern_requests :
    ambering.rcs.road = .prewarn ∧ ambering.rcs.amber.isSome = true ∧ ambering.rcs.suspended = false ∧
    ambering.rcs.trafAspect ≠ .red ∧ (ambering.pg.heads.get .trafN).running = some .amber ∧
    (ambering.pg.heads.get .trafS).running = some .green ∧ ((flashing 1 none).pg.heads.get .warnN).running = some .flash ∧
    (on.setRun .horn { running := some .silent, pending := none, index := 0, pass := 0, stepTimer := some 4,
                       proving := none }).pg.heads.horn.running = some .silent := by decide +kernel

/-- RED waits behind AMBER and cuts GREEN short (R117). -/
theorem test_requests :
    Gives (exec .amberTimerExpiry ambering) fun t =>
      (t.pg.heads.get .trafN).running = some .amber ∧ (t.pg.heads.get .trafN).pending = some .red ∧
      (t.pg.heads.get .trafS).running = some .red ∧ (t.pg.heads.get .trafS).pending = none := ⟨_, rfl, by decide +kernel⟩

/-- FLASH of the example set: from right alone (step 1) back to left alone (step 0), a pass complete. -/
theorem test_flash :
    Gives (exec (.stepTimerExpiry .warnN) (flashing 1 none)) fun t =>
      (t.pg.heads.get .warnN).index = 0 ∧ (t.pg.heads.get .warnN).pass = 1 ∧ t.cmd 28 = true ∧ t.cmd 29 = false :=
  ⟨_, rfl, by decide +kernel⟩

theorem test_hyp_PatternReturnsToBase :
    let d : Descriptor := { base := 20, length := 5, modify := 2, passes := 0 }
    1 ≤ d.length ∧ d.modify < d.length ∧ 0 < 1 ∧ 1 < d.length / Nat.gcd d.length d.modify := by decide +kernel

/-- A head at its proving point. -/
def proving : State :=
  (flashing 0 none).setRun .warnN
    { running := some .flash, pending := none, index := 0, pass := 0, stepTimer := some 9, proving := some 4 }

theorem test_hyp_ProvingPointChecksTheLamps :
    (proving.pg.heads.get .warnN).running = some .flash ∧ (proving.pg.heads.get .warnN).proving.isSome = true ∧
    proving.supplyAlert = false ∧ proving.isDisplaced (lampFn 4) = false ∧
    (proving.onMfs fun m => { m with supply := { m.supply with state := .clearPending } }).supplyAlert = true := by decide +kernel

/-- With no current sensed, the lit left lamp misses and the dark right one does not. -/
theorem test_proving :
    Gives (exec (.provingPoint .warnN) proving) fun t =>
      t.pg.lamps[(4 : Fin 15)] = { litMiss := 1, darkMiss := 0 } ∧ t.pg.lamps[(5 : Fin 15)] = { litMiss := 0, darkMiss := 0 } :=
  ⟨_, rfl, by decide +kernel⟩

/-- A head at its proving point at step 0, the lamps of a list sensed and some LAMP faults ACTIVE with their counts at 3. -/
def provingHead (s : State) (h : Head) (a : Aspect) (failed : List (Fin 15)) (sensed : BitVec 15) : State :=
  failed.foldl (fun (s : State) (i : Fin 15) =>
      (s.onPg fun g => { g with lamps := g.lamps.set i { litMiss := 3, darkMiss := 0 } }).onMfs fun m =>
        { m with faults := m.faults.set (lampFault i) .active })
    (((s.onCs fun c => { c with active := (flashing 0 none).act }).setRun h
        { running := some a, pending := none, index := 0, pass := 0, stepTimer := some 9, proving := some 4 }).onIq fun q =>
      { q with sensed := some sensed })

/-- Head D becomes impaired by a third miss, and ceases to be. -/
def losingHead : State :=
  (provingHead holding .chanD .stop [] 0).onPg fun g => { g with lamps := g.lamps.set 2 { litMiss := 2, darkMiss := 0 } }

def regainingHead : State :=
  (provingHead (opened .gathered .grouped) .chanD .stop [2] 4).onPg fun g => { g with impaired := { g.impaired with chanD := true } }

/-- The closure waits in PREWARN for warning head N, whose left lamp lights again. -/
def regainingRoad : State :=
  ((provingHead (timed .prewarn) .warnN .flash [4, 5] 16).onPg fun g => { g with impaired := { g.impaired with warnN := true } }).onRcs
    fun m => { m with prewarn := none, waitingHeads := true }

theorem test_hyp_ProvingPointChecksTheLamps_impaired :
    losingHead.supplyAlert = false ∧ losingHead.impairedLaw = true ∧ losingHead.pg.impaired.chanD = false ∧
    regainingHead.impairedLaw = true ∧ regainingHead.pg.impaired.chanD = true ∧ faces .up = .chanD ∧
    regainingRoad.impairedLaw = true ∧ regainingRoad.spanLaw = true ∧ regainingRoad.pg.impaired.warnN = true ∧
    regainingRoad.rcs.road = .prewarn ∧ regainingRoad.rcs.waitingHeads = true ∧ regainingRoad.rcs.suspended = false ∧
    losingHead.pau.opening.state = .admitting ∧ losingHead.calledBack (fun r => r.dir = .up) { slot := 2, gen := 0 } = true := by
  decide +kernel

/-- R123, R164, R93: the call-back of the head that is lost, the STANDBY of the one regained, and the closure that goes on. -/
theorem test_impairment :
    (Gives (exec (.provingPoint .chanD) losingHead) fun t =>
      t.pg.impaired.chanD = true ∧ (t.passage { slot := 2, gen := 0 }).any (fun r => r.state = .grouped) = true ∧
      t.pau.opening.active = none) ∧
    (Gives (exec (.provingPoint .chanD) regainingHead) fun t => t.pg.impaired.chanD = false ∧ t.pau.decidedD = .standby) ∧
    Gives (exec (.provingPoint .warnN) regainingRoad) fun t =>
      t.pg.impaired.warnN = false ∧ t.rcs.waitingHeads = false ∧ t.rcs.road = .entryLowering :=
  ⟨⟨_, rfl, by decide +kernel⟩, ⟨_, rfl, by decide +kernel⟩, ⟨_, rfl, by decide +kernel⟩⟩

/-! ### The clocks -/

/-- A part whose passage clock and hold clock run, with one record. -/
def clocked (r : Passage) : State :=
  ((withRecord on r).onPau fun p => { p with clock := some 3 }).onHt fun h => { h with clock := some 3 }

theorem test_hyp_ClockTicksCountTheRecords :
    let one : Passage := { record 9 .filed with expiry := some 1 }
    let two : Passage := { record 9 .filed with wait := 2, expiry := some 2 }
    let late : Passage := { record 9 .lapsed with linger := some 2 }
    (clocked one).pau.clock.isSome = true ∧ (clocked one).ht.clock.isSome = true ∧
    ((clocked one).pau.slots[(2 : Fin 16)]).record = some one ∧ one.wait ≠ 1 ∧ 0 < (clocked one).act.lapseLinger ∧
    ((clocked two).pau.slots[(2 : Fin 16)]).record = some two ∧ two.wait ≠ 1 ∧
    ((clocked late).pau.slots[(2 : Fin 16)]).record = some late ∧ (clocked one).pau.opening.state = .none ∧
    (let due := clocked { record 9 .filed with wait := 1, expiry := some 2 }
     (due.pau.slots[(2 : Fin 16)]).record = some { record 9 .filed with wait := 1, expiry := some 2 } ∧
     ∀ j : Fin 16, j ≠ 2 → (due.pau.slots[j]).record = none) := by decide +kernel

/-- Chapter 7's example: an expiry that runs out lapses the record with a linger of 120 s. -/
theorem test_lapse :
    Gives (exec .passageClockTick (clocked { record 9 .filed with expiry := some 1 })) fun t =>
      (t.passage { slot := 2, gen := 0 }).any (fun r => r.state = .lapsed && r.linger = some 120 && r.expiry.isNone) = true :=
  ⟨_, rfl, by decide +kernel⟩

theorem test_hyp_WindowOpensAndRecordsJoinOrLapse :
    let due : Passage := { record 9 .filed with wait := 1 }
    let s := ((withRecord (withSet on 0) due).onPau fun p =>
      { p with opening := { Opening.absent with state := .gathered, target := some 2850 } }).onRcs fun m => { m with budget := 180 }
    (s.pau.slots[(2 : Fin 16)]).record = some due ∧ due.wait = 1 ∧ due.state = .filed ∧ s.pau.opening.state = .gathered ∧
    (s.liftOf (due.need s.act) : Int) ≤ s.act.hfull ∧ s.pau.opening.target = some 2850 ∧ s.liftOf (due.need s.act) ≤ 2850 ∧
    s.pau.opening.members.length < 8 ∧ s.pg.impaired.get .chanD = false ∧ 0 < s.rcs.budget ∧ s.act.jr ≤ s.rcs.budget ∧
    0 < s.act.lapseLinger ∧
    ({ record 9 .lapsed with linger := some 1 } : Passage).linger = some 1 ∧
    ({ slot := 2, gen := 0 } : Handle 16) ∉ s.pau.opening.members ∧
    (s.onCs fun c => { c with active := { cfg with num := cfg.num.set 41 0 } }).act.lapseLinger ≤ 0 := by decide +kernel

/-! ### The laws -/

/-- State.reset meets each law, and a step leads on from it. -/
theorem test_hyp_EveryStepKeepsTheTowersLaw :
    State.reset.towersLaw = true ∧ Gives (step { State.reset with pending := [.anemometerPulse] }) fun _ => True :=
  ⟨by decide +kernel, _, rfl, trivial⟩

theorem test_hyp_EveryStepKeepsTheGatesLaw : on.gatesLaw = true := by decide +kernel

theorem test_hyp_EveryStepKeepsTheAlarmLaw : on.alarmLaw = true ∧ on.impairedLaw = true := by decide +kernel

theorem test_hyp_EveryStepKeepsTheQueueLaw : on.queueLaw := by
  have key : ∀ i : Fin 16, (on.pau.slots[i]).record = none := by decide +kernel
  refine ⟨List.nodup_nil, fun h => ⟨fun hm => absurd hm (by rw [show on.pau.queue = [] from rfl]; simp), fun hs => ?_⟩⟩
  have hk := key h.slot
  simp only [State.passage] at hs
  split at hs <;> simp_all

theorem test_hyp_EveryStepKeepsTheProceedLaw : on.proceedLaw = true := by decide +kernel

theorem test_hyp_EveryStepKeepsTheBounds : on.boundsLaw = true := by decide +kernel

theorem test_hyp_SealedRoadHoldsWhileTheSpanIsFree :
    let s := withMotion (withRoad on .sealed) .holding .none
    s.configured = true ∧ s.rcs.road = .sealed ∧ s.smc.motion ≠ .seatedLocked ∧ mayReset .budgetTick s = false ∧
    mayReset (.replyCompleted .operator) (sending s 0) = false ∧ (withLines s [41]).line 42 = false := by decide +kernel

/-- A span in HOLDING over a SEALED road takes a step. -/
theorem test_hyp_SealedRoadHoldsWhileTheSpanIsFree_span :
    (withMotion (withRoad on .sealed) .holding .none).spanLaw = true ∧
    Gives (step { withMotion (withRoad on .sealed) .holding .none with pending := [.anemometerPulse] }) fun t =>
      t.smc.motion = .holding := ⟨by decide +kernel, ⟨_, rfl, by decide +kernel⟩⟩

end Sys2Proof.Tests
end

section
/-! The laws at reset. -/

namespace Sys2Proof.Machine

/-- At reset the table of passages is empty (R149). -/
theorem passage_reset (h : Handle 16) : State.reset.passage h = none := by
  have empty : ∀ i : Fin 16, (State.reset.pau.slots[i]).record = none := by decide +kernel
  simp only [State.passage, empty, ite_self]

/-- An empty queue of an empty table holds every live record's handle once. -/
theorem queueLaw_reset : State.reset.queueLaw := by
  refine ⟨List.nodup_nil, fun h => ?_⟩
  rw [passage_reset]
  exact iff_of_false List.not_mem_nil (by simp)

/-- Settles O53: each law but the queue's is a closed fact about the reset state. -/
theorem resetMeetsTheLaws : Obligations.ResetMeetsTheLaws :=
  ⟨by decide +kernel, by decide +kernel, by decide +kernel, by decide +kernel, queueLaw_reset, by decide +kernel,
    by decide +kernel, by decide +kernel⟩

end Sys2Proof.Machine
end

section
/-! SUPPORT. What the operations of the heads, the span and the channel leave alone, said once for each operation. -/

namespace Sys2Proof.Machine

/-- What each step of a fold keeps, the fold keeps. -/
theorem foldl_keeps {α β : Type} {F : State → β} (f : State → α → State) (h : ∀ s x, F (f s x) = F s) (l : List α) (s : State) :
    F (l.foldl f s) = F s := by
  induction l generalizing s with
  | nil => rfl
  | cons x t ih => rw [List.foldl_cons, ih, h]

/-- What the operations of the heads, the span and the channel leave alone: RCS, HT, the lamp counts, the impaired flags, MFS but for
the fault values and the first trip fault, and OM but for commands and duties. -/
def State.offSpan (s : State) : Rcs × Ht × Vector LampRec 15 × PerHead Bool × Mfs × Om :=
  (s.rcs, s.ht, s.pg.lamps, s.pg.impaired, { s.mfs with faults := Mfs.reset.faults, firstTrip := none },
    { s.om with command := Om.reset.command, speed := Om.reset.speed })

@[simp] theorem offSpan_ite {c : Prop} [Decidable c] (a b : State) :
    (if c then a else b).offSpan = if c then a.offSpan else b.offSpan := by split <;> rfl

theorem foldl_offSpan {α : Type} (f : State → α → State) (h : ∀ s x, (f s x).offSpan = s.offSpan) (l : List α) (s : State) :
    (l.foldl f s).offSpan = s.offSpan := foldl_keeps f h l s

theorem inAnyOrder_offSpan {α : Type} (f : State → α → State) (h : ∀ s x, (f s x).offSpan = s.offSpan) (l : List α)
    (s : State) : (s.inAnyOrder l f).offSpan = s.offSpan := by
  rw [State.inAnyOrder, foldl_offSpan f h]; rfl

@[simp] theorem State.onSmc_offSpan (s : State) (f : Smc → Smc) : (s.onSmc f).offSpan = s.offSpan := rfl
@[simp] theorem State.onPau_offSpan (s : State) (f : Pau → Pau) : (s.onPau f).offSpan = s.offSpan := rfl
@[simp] theorem State.setCmd_offSpan (s : State) (f : Fin 40) (b : Bool) : (s.setCmd f b).offSpan = s.offSpan := rfl
@[simp] theorem State.stage_offSpan (s : State) (t : Tower) (d : Nat) : (s.stage t d).offSpan = s.offSpan := rfl
@[simp] theorem State.setTower_offSpan (s : State) (t : Tower) (r : TowerRec) : (s.setTower t r).offSpan = s.offSpan := rfl
@[simp] theorem State.setRun_offSpan (s : State) (h : Head) (r : RunRec) : (s.setRun h r).offSpan = s.offSpan := rfl
@[simp] theorem State.setPassage_offSpan (s : State) (i : Fin 16) (p : Passage) : (s.setPassage i p).offSpan = s.offSpan := rfl
@[simp] theorem State.onOpening_offSpan (s : State) (f : Opening → Opening) : (s.onOpening f).offSpan = s.offSpan := rfl

@[simp] theorem State.driveAlarm_offSpan (s : State) : s.driveAlarm.offSpan = s.offSpan := rfl

@[simp] theorem State.reportFault_offSpan (s : State) (f : Fin 37) (present : Bool) :
    (s.reportFault f present).offSpan = s.offSpan := rfl

/-- Lighting a step changes commands of lamp functions alone (R8, R114). -/
theorem State.lightStep_eq (s : State) (h : Head) (p : PatternStep) :
    ∃ v : Vector Bool 40, s.lightStep h p = { s with om := { s.om with command := v } } ∧
      ∀ f : Fin 40, f.val < 24 ∨ 38 < f.val → v[f] = s.om.command[f] := by
  suffices ∀ (l : List (Fin 15 × Bool)) (o : Om), ∃ v : Vector Bool 40,
      l.foldl (fun o x => o.setCmd (lampFn x.1) x.2) o = { o with command := v } ∧
        ∀ f : Fin 40, f.val < 24 ∨ 38 < f.val → v[f] = o.command[f] by
    obtain ⟨c, hc, hf⟩ := this (stepLamps h p) s.om
    exact ⟨c, by simp only [State.lightStep, State.onOm, hc], hf⟩
  intro l
  induction l with
  | nil => exact fun o => ⟨o.command, rfl, fun _ _ => rfl⟩
  | cons x l ih =>
    intro o
    obtain ⟨c, hc, hf⟩ := ih (o.setCmd (lampFn x.1) x.2)
    refine ⟨c, by rw [List.foldl_cons, hc]; rfl, fun f h => ?_⟩
    have hx : ¬ 24 + x.1.val = f.val := by omega
    rw [hf f h]
    simp [Om.setCmd, lampFn, hx]

@[simp] theorem State.lightStep_offSpan (s : State) (h : Head) (p : PatternStep) : (s.lightStep h p).offSpan = s.offSpan := by
  obtain ⟨c, hc, -⟩ := s.lightStep_eq h p
  rw [hc]; rfl

@[simp] theorem State.showStep_offSpan (s : State) (h : Head) (r : RunRec) : (s.showStep h r).offSpan = s.offSpan := by
  simp [State.showStep]

@[simp] theorem State.startAspect_offSpan (s : State) (h : Head) (a : Aspect) : (s.startAspect h a).offSpan = s.offSpan := by
  simp [State.startAspect]

@[simp] theorem State.requestAspect_offSpan (s : State) (h : Head) (a : Aspect) :
    (s.requestAspect h a).offSpan = s.offSpan := by
  unfold State.requestAspect
  simp only []
  repeat' split
  all_goals simp

@[simp] theorem State.requestAdmit_offSpan (s : State) : s.requestAdmit.offSpan = s.offSpan := by
  simp [State.requestAdmit]

@[simp] theorem State.requestDanger_offSpan (s : State) : s.requestDanger.offSpan = s.offSpan := by
  unfold State.requestDanger
  split <;> simp

@[simp] theorem State.endStep_offSpan (s : State) (h : Head) : (s.endStep h).offSpan = s.offSpan := by
  unfold State.endStep
  simp only []
  repeat' split
  all_goals simp

@[simp] theorem State.restartHead_offSpan (s : State) (h : Head) : (s.restartHead h).offSpan = s.offSpan := by
  unfold State.restartHead
  split <;> simp

@[simp] theorem State.reportAgreed_offSpan (s : State) (f : Fin 37) (agreed : Bool) :
    (s.reportAgreed f agreed).offSpan = s.offSpan := by
  simp [State.reportAgreed]

@[simp] theorem State.compareTower_offSpan (s : State) (t : Tower) : (s.compareTower t).offSpan = s.offSpan := by
  simp [State.compareTower]

@[simp] theorem State.compare_offSpan (s : State) : s.compare.offSpan = s.offSpan := by
  simp [State.compare]

@[simp] theorem State.assertDirection_offSpan (s : State) (t : Tower) (raise : Bool) :
    (s.assertDirection t raise).offSpan = s.offSpan := rfl

@[simp] theorem State.startTower_offSpan (s : State) (raise : Bool) (t : Tower) :
    (s.startTower raise t).offSpan = s.offSpan := by
  unfold State.startTower
  split <;> simp

@[simp] theorem State.releaseDirection_offSpan (s : State) (t : Tower) : (s.releaseDirection t).offSpan = s.offSpan := by
  simp [State.releaseDirection]

@[simp] theorem State.setBrake_offSpan (s : State) (t : Tower) : (s.setBrake t).offSpan = s.offSpan := rfl

@[simp] theorem State.stopTower_offSpan (s : State) (t : Tower) : (s.stopTower t).offSpan = s.offSpan := by
  unfold State.stopTower
  split <;> simp

@[simp] theorem State.quickStopTower_offSpan (s : State) (t : Tower) : (s.quickStopTower t).offSpan = s.offSpan := by
  unfold State.quickStopTower
  split <;> simp

@[simp] theorem State.enterHalted_offSpan (s : State) : s.enterHalted.offSpan = s.offSpan := rfl

@[simp] theorem State.setAttendance_offSpan (s : State) : s.setAttendance.offSpan = s.offSpan := rfl

@[simp] theorem State.stopAttendance_offSpan (s : State) : s.stopAttendance.offSpan = s.offSpan := rfl

@[simp] theorem State.refreshAttendance_offSpan (s : State) : s.refreshAttendance.offSpan = s.offSpan := by
  simp [State.refreshAttendance]

@[simp] theorem State.attendanceSource_offSpan (s : State) : s.attendanceSource.offSpan = s.offSpan := by
  unfold State.attendanceSource
  repeat' split
  all_goals simp

@[simp] theorem State.zeroSpeed_offSpan (s : State) : s.zeroSpeed.offSpan = s.offSpan := rfl

@[simp] theorem State.quickStop_offSpan (s : State) : s.quickStop.offSpan = s.offSpan := by
  simp [State.quickStop]

@[simp] theorem State.speedControl_offSpan (s : State) : s.speedControl.offSpan = s.offSpan := by
  simp [State.speedControl]

@[simp] theorem State.finishLocking_offSpan (s : State) : s.finishLocking.offSpan = s.offSpan := by
  simp [State.finishLocking]

@[simp] theorem State.enterLocking_offSpan (s : State) : s.enterLocking.offSpan = s.offSpan := by
  simp [State.enterLocking]

@[simp] theorem State.checkSeated_offSpan (s : State) : s.checkSeated.offSpan = s.offSpan := by
  simp [State.checkSeated]

@[simp] theorem State.seatTower_offSpan (s : State) (t : Tower) : (s.seatTower t).offSpan = s.offSpan := by
  simp [State.seatTower]

@[simp] theorem State.seatIfMade_offSpan (s : State) (t : Tower) : (s.seatIfMade t).offSpan = s.offSpan := by
  simp [State.seatIfMade]

@[simp] theorem State.enterSeating_offSpan (s : State) (fromRest : Bool) : (s.enterSeating fromRest).offSpan = s.offSpan := by
  simp [State.enterSeating]

@[simp] theorem State.handAspect_offSpan (s : State) (d : Dir) : (s.handAspect d).offSpan = s.offSpan := by
  simp [State.handAspect]

@[simp] theorem State.decideAspects_offSpan (s : State) : s.decideAspects.offSpan = s.offSpan := by
  simp [State.decideAspects]

@[simp] theorem State.admitMember_offSpan (d : Dir) (s : State) (h : Handle 16) : (State.admitMember d s h).offSpan = s.offSpan := by
  unfold State.admitMember
  split <;> simp

@[simp] theorem State.admissionTest_offSpan (s : State) : s.admissionTest.offSpan = s.offSpan := by
  unfold State.admissionTest
  repeat' split
  all_goals simp [foldl_offSpan]

@[simp] theorem State.settleDirection_offSpan (s : State) : s.settleDirection.offSpan = s.offSpan := by
  unfold State.settleDirection
  split <;> simp

@[simp] theorem State.backToGrouped_offSpan (s : State) (h : Handle 16) : (s.backToGrouped h).offSpan = s.offSpan := by
  unfold State.backToGrouped
  split <;> simp

@[simp] theorem State.backToFiled_offSpan (s : State) (h : Handle 16) : (s.backToFiled h).offSpan = s.offSpan := by
  unfold State.backToFiled
  split <;> simp

@[simp] theorem State.callBack_offSpan (s : State) (test : Passage → Bool) : (s.callBack test).offSpan = s.offSpan := by
  simp [State.callBack, foldl_offSpan]

@[simp] theorem State.finishingTest_offSpan (s : State) : s.finishingTest.offSpan = s.offSpan := by
  simp [State.finishingTest]

@[simp] theorem State.enterClosing_offSpan (s : State) : s.enterClosing.offSpan = s.offSpan := by
  simp [State.enterClosing, foldl_offSpan]

@[simp] theorem State.closeIfEmpty_offSpan (s : State) : s.closeIfEmpty.offSpan = s.offSpan := by
  simp [State.closeIfEmpty]

@[simp] theorem State.closeIfSpent_offSpan (s : State) : s.closeIfSpent.offSpan = s.offSpan := by
  simp [State.closeIfSpent]

@[simp] theorem State.budgetSpent_offSpan (s : State) : s.budgetSpent.offSpan = s.offSpan := by
  unfold State.budgetSpent
  repeat' split
  all_goals simp [foldl_offSpan]

@[simp] theorem State.evaluateClearance_offSpan (s : State) : s.evaluateClearance.offSpan = s.offSpan := rfl

@[simp] theorem State.intrusion_offSpan (s : State) : s.intrusion.offSpan = s.offSpan := by
  simp [State.intrusion]

@[simp] theorem State.endIntrusion_offSpan (s : State) : s.endIntrusion.offSpan = s.offSpan := by
  simp [State.endIntrusion]

@[simp] theorem State.departed_offSpan (s : State) : s.departed.offSpan = s.offSpan := by
  simp [State.departed]

@[simp] theorem State.retirePassage_offSpan (s : State) (i : Fin 16) : (s.retirePassage i).offSpan = s.offSpan := by
  simp [State.retirePassage]

@[simp] theorem State.holdingEntered_offSpan (s : State) : s.holdingEntered.offSpan = s.offSpan := by
  simp [State.holdingEntered]

@[simp] theorem State.holdingLeft_offSpan (s : State) : s.holdingLeft.offSpan = s.offSpan := by
  simp [State.holdingLeft]

@[simp] theorem State.pauTakesSet_offSpan (s : State) : s.pauTakesSet.offSpan = s.offSpan := by
  unfold State.pauTakesSet
  simp only []
  repeat' split
  all_goals simp

@[simp] theorem State.marineStopPlaced_offSpan (s : State) : s.marineStopPlaced.offSpan = s.offSpan := by
  simp [State.marineStopPlaced]

@[simp] theorem State.channelHeadChanged_offSpan (s : State) (d : Dir) : (s.channelHeadChanged d).offSpan = s.offSpan := by
  simp [State.channelHeadChanged]

@[simp] theorem State.enters_offSpan (s : State) (h : Handle 16) : (s.enters h).offSpan = s.offSpan := by
  unfold State.enters
  split <;> simp

@[simp] theorem State.beamBreaks_offSpan (s : State) (b : Beam) : (s.beamBreaks b).offSpan = s.offSpan := by
  unfold State.beamBreaks
  simp only []
  repeat' split
  all_goals simp

@[simp] theorem State.beamRestores_offSpan (s : State) (b : Beam) : (s.beamRestores b).offSpan = s.offSpan := by
  unfold State.beamRestores
  repeat' split
  all_goals simp

@[simp] theorem State.beamEvent_offSpan (s : State) (b : Beam) (clear : Bool) : (s.beamEvent b clear).offSpan = s.offSpan := by
  simp [State.beamEvent]

@[simp] theorem State.group_offSpan (s : State) (h : Handle 16) : (s.group h).offSpan = s.offSpan := by
  unfold State.group
  split <;> simp

@[simp] theorem State.joinTest_offSpan (s : State) (i : Fin 16) : (s.joinTest i).offSpan = s.offSpan := by
  unfold State.joinTest
  simp only []
  repeat' split
  all_goals simp

@[simp] theorem State.markUnreachable_offSpan (s : State) (i : Fin 16) : (s.markUnreachable i).offSpan = s.offSpan := by
  unfold State.markUnreachable
  split <;> simp

@[simp] theorem State.formOpening_offSpan (s : State) : s.formOpening.offSpan = s.offSpan := by
  unfold State.formOpening
  simp only [State.decideAspects_offSpan]
  split <;> simp only [State.holdingEntered_offSpan, State.quickStop_offSpan] <;>
    rw [foldl_offSpan _ State.group_offSpan, State.onOpening_offSpan, foldl_offSpan _ State.markUnreachable_offSpan]

@[simp] theorem State.countWait_offSpan (s : State) (i : Fin 16) : (s.countWait i).offSpan = s.offSpan := by
  unfold State.countWait
  split <;> simp

@[simp] theorem State.lapse_offSpan (s : State) (i : Fin 16) (p : Passage) : (s.lapse i p).offSpan = s.offSpan := by
  simp [State.lapse]

@[simp] theorem State.countExpiry_offSpan (s : State) (i : Fin 16) : (s.countExpiry i).offSpan = s.offSpan := by
  unfold State.countExpiry
  repeat' split
  all_goals simp

@[simp] theorem State.tickRecord_offSpan (s : State) (i : Fin 16) : (s.tickRecord i).offSpan = s.offSpan := by
  simp [State.tickRecord]

@[simp] theorem State.tickPassages_offSpan (s : State) : s.tickPassages.offSpan = s.offSpan := by
  simp [State.tickPassages, foldl_offSpan, inAnyOrder_offSpan]

@[simp] theorem State.trip_offSpan (s : State) : s.trip.offSpan = s.offSpan := by
  unfold State.trip
  split
  · rfl
  · simp only [State.compare_offSpan]
    split <;> simp only [State.holdingLeft_offSpan, State.onSmc_offSpan] <;>
      rw [foldl_offSpan _ (fun s f => State.setCmd_offSpan s f false)] <;> simp

@[simp] theorem State.tripReport_offSpan (s : State) (f : Fin 37) (present : Bool) :
    (s.tripReport f present).offSpan = s.offSpan := by
  simp [State.tripReport]

@[simp] theorem State.pulseFault_offSpan (s : State) (f : Fin 37) : (s.pulseFault f).offSpan = s.offSpan := by
  simp [State.pulseFault]

@[simp] theorem State.checkRest_offSpan (s : State) : s.checkRest.offSpan = s.offSpan := by
  unfold State.checkRest
  repeat' split
  all_goals simp

@[simp] theorem State.beginStop_offSpan (s : State) (k : StopKind) : (s.beginStop k).offSpan = s.offSpan := by
  simp [State.beginStop]

@[simp] theorem State.haltUnlocking_offSpan (s : State) : s.haltUnlocking.offSpan = s.offSpan := by
  simp [State.haltUnlocking]

@[simp] theorem State.haltLocking_offSpan (s : State) : s.haltLocking.offSpan = s.offSpan := rfl

@[simp] theorem State.halt_offSpan (s : State) : s.halt.offSpan = s.offSpan := by
  unfold State.halt
  repeat' split
  all_goals simp

@[simp] theorem State.haltIn_offSpan (s : State) (l : List Motion) : (s.haltIn l).offSpan = s.offSpan := by
  simp [State.haltIn]

@[simp] theorem State.smcHoldPlaced_offSpan (s : State) (k : HoldKind) : (s.smcHoldPlaced k).offSpan = s.offSpan := by
  unfold State.smcHoldPlaced
  split <;> simp

@[simp] theorem State.smcGateFault_offSpan (s : State) : s.smcGateFault.offSpan = s.offSpan := by
  simp [State.smcGateFault]

@[simp] theorem State.smcWindAlert_offSpan (s : State) : s.smcWindAlert.offSpan = s.offSpan := by
  simp [State.smcWindAlert]

@[simp] theorem State.smcSupplyAlert_offSpan (s : State) : s.smcSupplyAlert.offSpan = s.offSpan := by
  simp [State.smcSupplyAlert]

@[simp] theorem State.startTowers_offSpan (s : State) (raise : Bool) : (s.startTowers raise).offSpan = s.offSpan := by
  simp [State.startTowers]

@[simp] theorem State.enterRaising_offSpan (s : State) : s.enterRaising.offSpan = s.offSpan := by
  simp [State.enterRaising]

@[simp] theorem State.enterUnlocking_offSpan (s : State) : s.enterUnlocking.offSpan = s.offSpan := rfl

@[simp] theorem State.enterLowering_offSpan (s : State) : s.enterLowering.offSpan = s.offSpan := by
  simp [State.enterLowering]

@[simp] theorem State.acceptRaise_offSpan (s : State) (t : Nat) : (s.acceptRaise t).offSpan = s.offSpan := by
  unfold State.acceptRaise
  simp only []
  repeat' split
  all_goals simp

@[simp] theorem State.raise_offSpan (s : State) (w : RaiseWish) : (State.raise s w).2.2.offSpan = s.offSpan := by
  unfold State.raise
  simp only []
  repeat' split
  all_goals simp

@[simp] theorem State.lower_offSpan (s : State) : (State.lower s).2.offSpan = s.offSpan := by
  unfold State.lower
  simp only []
  repeat' split
  all_goals simp

@[simp] theorem State.leaveInitial_offSpan (s : State) : s.leaveInitial.offSpan = s.offSpan := by
  simp [State.leaveInitial]

@[simp] theorem State.smcAcknowledged_offSpan (s : State) : s.smcAcknowledged.offSpan = s.offSpan := by
  simp [State.smcAcknowledged]

@[simp] theorem State.brakeExpiry_offSpan (s : State) (t : Tower) : (s.brakeExpiry t).offSpan = s.offSpan := by
  unfold State.brakeExpiry
  simp only []
  repeat' split
  all_goals simp

@[simp] theorem State.reversalExpiry_offSpan (s : State) (t : Tower) : (s.reversalExpiry t).offSpan = s.offSpan := by
  simp [State.reversalExpiry]

@[simp] theorem State.lockTimeout_offSpan (s : State) : s.lockTimeout.offSpan = s.offSpan := by
  simp [State.lockTimeout]

@[simp] theorem State.seatTimeout_offSpan (s : State) : s.seatTimeout.offSpan = s.offSpan := by
  simp [State.seatTimeout]

@[simp] theorem State.attendanceExpiry_offSpan (s : State) : s.attendanceExpiry.offSpan = s.offSpan := by
  unfold State.attendanceExpiry
  split <;> simp

@[simp] theorem State.disagreementExpiry_offSpan (s : State) (t : Tower) (p : Proving) :
    (s.disagreementExpiry t p).offSpan = s.offSpan := by
  unfold State.disagreementExpiry
  split <;> simp

@[simp] theorem State.examineTower_offSpan (s : State) (t : Tower) : (s.examineTower t).offSpan = s.offSpan := by
  simp [State.examineTower]

@[simp] theorem State.reportOvertravel_offSpan (s : State) : s.reportOvertravel.offSpan = s.offSpan := by
  simp [State.reportOvertravel]

@[simp] theorem State.reportSkew_offSpan (s : State) (skew : Int) : (s.reportSkew skew).offSpan = s.offSpan := by
  simp [State.reportSkew]

@[simp] theorem State.noteHeights_offSpan (s : State) (h : Heights) : (s.noteHeights h).offSpan = s.offSpan := rfl

@[simp] theorem State.goalTest_offSpan (s : State) : s.goalTest.offSpan = s.offSpan := by
  unfold State.goalTest
  split <;> simp

@[simp] theorem State.doSetTask_offSpan (s : State) (x : SetTask) : (s.doSetTask x).offSpan = s.offSpan := by
  unfold State.doSetTask
  split <;> simp

@[simp] theorem State.smcTakesSet_offSpan (s : State) : s.smcTakesSet.offSpan = s.offSpan := by
  unfold State.smcTakesSet
  repeat' split
  all_goals simp [inAnyOrder_offSpan]

@[simp] theorem State.lockWithdrawn_offSpan (s : State) (t : Tower) : (s.lockWithdrawn t).offSpan = s.offSpan := by
  simp [State.lockWithdrawn]

@[simp] theorem State.withdrawnLost_offSpan (s : State) : s.withdrawnLost.offSpan = s.offSpan := by
  simp [State.withdrawnLost]

@[simp] theorem State.lockDriven_offSpan (s : State) (t : Tower) : (s.lockDriven t).offSpan = s.offSpan := by
  simp [State.lockDriven]

@[simp] theorem State.seatedLockedLost_offSpan (s : State) : s.seatedLockedLost.offSpan = s.offSpan := by
  simp [State.seatedLockedLost]

@[simp] theorem State.seatEvent_offSpan (s : State) (t : Tower) (made : Bool) : (s.seatEvent t made).offSpan = s.offSpan := by
  simp [State.seatEvent]

@[simp] theorem State.smcLine_offSpan (s : State) (l : Fin 48) (b : Bool) : (s.smcLine l b).offSpan = s.offSpan := by
  unfold State.smcLine
  split <;> simp

@[simp] theorem State.reportEstop_offSpan (s : State) : s.reportEstop.offSpan = s.offSpan := by
  simp [State.reportEstop]

end Sys2Proof.Machine
end

section
/-! SUPPORT. What the operations of the road, and the deliveries of holds, leave alone, said once for each operation. -/

namespace Sys2Proof.Machine

/-- What RCS, and what it brings other blocks to do, leaves alone: HT, the lamp counts, the impaired flags, MFS but for the fault
values and the first trip fault, OM but for commands and duties, the gates' positions, and the causes of suspension that are not its
own finding. -/
def State.offRoad (s : State) :
    (Ht × Vector LampRec 15 × PerHead Bool × Mfs × Om) × (Gate → GatePos) × Bool × Bool :=
  (s.offSpan.2, fun g => (s.gate g).pos, s.rcs.causeLoop, s.rcs.causeSupply)

/-- What the span's operations leave alone includes what the road's do. -/
theorem State.offRoad_of_offSpan {s t : State} (h : t.offSpan = s.offSpan) : t.offRoad = s.offRoad := by
  have hr : t.rcs = s.rcs := congrArg Prod.fst h
  simp only [State.offRoad, State.gate, h, hr]

@[simp] theorem offRoad_ite {c : Prop} [Decidable c] (a b : State) :
    (if c then a else b).offRoad = if c then a.offRoad else b.offRoad := by split <;> rfl

theorem foldl_offRoad {α : Type} (f : State → α → State) (h : ∀ s x, (f s x).offRoad = s.offRoad) (l : List α) (s : State) :
    (l.foldl f s).offRoad = s.offRoad := foldl_keeps f h l s

/-- RCS's own record changed but for positions and the two causes. -/
theorem State.onRcs_offRoad (s : State) (f : Rcs → Rcs) (hp : ∀ g, ((f s.rcs).gates.get g).pos = (s.gate g).pos)
    (hl : (f s.rcs).causeLoop = s.rcs.causeLoop) (hs : (f s.rcs).causeSupply = s.rcs.causeSupply) :
    (s.onRcs f).offRoad = s.offRoad := by
  have hg : (fun g => ((s.onRcs f).gate g).pos) = fun g => (s.gate g).pos := funext hp
  simp only [State.offRoad, hg, State.onRcs_rcs, hl, hs]
  rfl

@[simp] theorem State.setGate_offRoad (s : State) (g : Gate) (r : GateRec) (h : r.pos = (s.gate g).pos) :
    (s.setGate g r).offRoad = s.offRoad :=
  s.onRcs_offRoad _ (fun x => by simp only [PerGate.get_set]; split <;> simp_all [State.gate]) rfl rfl

@[simp] theorem State.setCmd_offRoad (s : State) (f : Fin 40) (b : Bool) : (s.setCmd f b).offRoad = s.offRoad := rfl

@[simp] theorem State.onSmc_offRoad (s : State) (f : Smc → Smc) : (s.onSmc f).offRoad = s.offRoad := rfl

@[simp] theorem State.setRoad_offRoad (s : State) (r : Road) : (s.setRoad r).offRoad = s.offRoad := rfl

@[simp] theorem State.requestAspect_offRoad (s : State) (h : Head) (a : Aspect) : (s.requestAspect h a).offRoad = s.offRoad :=
  offRoad_of_offSpan (s.requestAspect_offSpan h a)

@[simp] theorem State.reportFault_offRoad (s : State) (f : Fin 37) (b : Bool) : (s.reportFault f b).offRoad = s.offRoad :=
  offRoad_of_offSpan (s.reportFault_offSpan f b)

@[simp] theorem State.smcGateFault_offRoad (s : State) : s.smcGateFault.offRoad = s.offRoad :=
  offRoad_of_offSpan s.smcGateFault_offSpan

@[simp] theorem State.budgetSpent_offRoad (s : State) : s.budgetSpent.offRoad = s.offRoad :=
  offRoad_of_offSpan s.budgetSpent_offSpan

@[simp] theorem State.setWarn_offRoad (s : State) (a : Aspect) : (s.setWarn a).offRoad = s.offRoad := by
  have h : (s.onRcs fun m => { m with warnAspect := a }).offRoad = s.offRoad := rfl
  simp [State.setWarn, h]

@[simp] theorem State.setTraf_offRoad (s : State) (a : Aspect) : (s.setTraf a).offRoad = s.offRoad := by
  have h : (s.onRcs fun m => { m with trafAspect := a }).offRoad = s.offRoad := rfl
  simp [State.setTraf, h]

@[simp] theorem State.issueGate_offRoad (s : State) (g : Gate) : (s.issueGate g).offRoad = s.offRoad := rfl

@[simp] theorem State.issueGates_offRoad (s : State) : s.issueGates.offRoad = s.offRoad :=
  foldl_offRoad _ State.issueGate_offRoad _ _

@[simp] theorem State.stopTravel_offRoad (s : State) : s.stopTravel.offRoad = s.offRoad :=
  s.onRcs_offRoad _ (fun g => by simp [State.gate]) rfl rfl

/-- The motors and timers that a first cause stops are no part of it. -/
theorem State.setCauses_offRoad (s : State) (f : Rcs → Rcs) : (s.setCauses f).offRoad = (s.onRcs f).offRoad := by
  simp [State.setCauses]

@[simp] theorem State.noteGateFaults_offRoad (s : State) : s.noteGateFaults.offRoad = s.offRoad := by
  rw [State.noteGateFaults, State.setCauses_offRoad]; rfl

@[simp] theorem State.reportGate_offRoad (s : State) (g : Gate) (b : Bool) : (s.reportGate g b).offRoad = s.offRoad := by
  simp [State.reportGate]

@[simp] theorem State.pulseGate_offRoad (s : State) (g : Gate) : (s.pulseGate g).offRoad = s.offRoad := by
  simp [State.pulseGate]

@[simp] theorem State.moveGate_offRoad (s : State) (g : Gate) (c : GateCmd) : (s.moveGate g c).offRoad = s.offRoad := by
  simp [State.moveGate]

@[simp] theorem State.flagObstructed_offRoad (s : State) (g : Gate) (c : GateCmd) :
    (s.flagObstructed g c).offRoad = s.offRoad := by
  simp [State.flagObstructed]

@[simp] theorem State.driveGates_offRoad (s : State) (l : List (Gate × GateCmd)) : (s.driveGates l).offRoad = s.offRoad := by
  simp [State.driveGates, foldl_offRoad]

@[simp] theorem State.driveStep_offRoad (s : State) : s.driveStep.offRoad = s.offRoad := by simp [State.driveStep]

@[simp] theorem State.armClearing_offRoad (s : State) : s.armClearing.offRoad = s.offRoad := rfl

@[simp] theorem State.dropCommands_offRoad (s : State) : s.dropCommands.offRoad = s.offRoad := by
  rw [State.dropCommands, State.issueGates_offRoad]
  exact s.onRcs_offRoad _ (fun g => by simp [State.gate]) rfl rfl

theorem State.nextStep_offRoad {s t : State} (h : s.nextStep = some t) : t.offRoad = s.offRoad := by
  have onRcs : ∀ f : Rcs → Rcs, (∀ m, (f m).gates = m.gates ∧ (f m).causeLoop = m.causeLoop ∧ (f m).causeSupply = m.causeSupply) →
      ∀ u : State, (u.onRcs f).offRoad = u.offRoad := fun f hf u =>
    u.onRcs_offRoad f (fun g => by rw [(hf _).1]; rfl) (hf _).2.1 (hf _).2.2
  unfold State.nextStep at h
  repeat' split at h
  all_goals cases h
  all_goals simp [onRcs]

@[simp] theorem State.advanceSteps_offRoad (n : Nat) (s : State) : (State.advanceSteps n s).offRoad = s.offRoad := by
  induction n generalizing s with
  | zero => rfl
  | succ n ih =>
    unfold State.advanceSteps
    split
    · rfl
    · split
      · rfl
      · next h => rw [ih, State.nextStep_offRoad h]

@[simp] theorem State.advance_offRoad (s : State) : s.advance.offRoad = s.offRoad := State.advanceSteps_offRoad _ s

@[simp] theorem State.enterEntryLowering_offRoad (s : State) : s.enterEntryLowering.offRoad = s.offRoad := by
  simp only [State.enterEntryLowering, State.advance_offRoad, State.driveStep_offRoad, State.setTraf_offRoad]
  rfl

@[simp] theorem State.headsChecked_offRoad (s : State) : s.headsChecked.offRoad = s.offRoad := by
  simp [State.headsChecked]

@[simp] theorem State.restartStep_offRoad (s : State) : s.restartStep.offRoad = s.offRoad := by
  simp [State.restartStep]

/-- A change of causes changes the causes, and of the rest only what a suspension or a restart changes. -/
theorem State.changeCauses_offRoad (s : State) (f : Rcs → Rcs) : (s.changeCauses f).offRoad = (s.onRcs f).offRoad := by
  simp [State.changeCauses, State.setCauses_offRoad]

@[simp] theorem State.startBudget_offRoad (s : State) : s.startBudget.offRoad = s.offRoad := by
  unfold State.startBudget
  split <;> rfl

@[simp] theorem State.enterPrewarn_offRoad (s : State) : s.enterPrewarn.offRoad = s.offRoad := by
  simp only [State.enterPrewarn, State.setTraf_offRoad, State.setWarn_offRoad, State.dropCommands_offRoad]
  exact s.startBudget_offRoad

@[simp] theorem State.closeRoad_offRoad (s : State) : s.closeRoad.offRoad = s.offRoad := by
  unfold State.closeRoad
  split <;> simp

@[simp] theorem State.leaveSealed_offRoad (s : State) : s.leaveSealed.offRoad = s.offRoad := by
  simp [State.leaveSealed, foldl_offRoad]

@[simp] theorem State.enterBarrierRaising_offRoad (s : State) : s.enterBarrierRaising.offRoad = s.offRoad := by
  simp only [State.enterBarrierRaising, State.advance_offRoad, State.driveStep_offRoad, State.setTraf_offRoad,
    State.setWarn_offRoad, State.issueGates_offRoad]
  refine (State.onRcs_offRoad _ _ (fun g => ?_) rfl rfl).trans (by simp)
  simp [State.gate, GateRec.clearForRaising]

@[simp] theorem State.reopenRoad_offRoad (s : State) : s.reopenRoad.2.offRoad = s.offRoad := by
  unfold State.reopenRoad
  split
  case h_1 | h_2 | h_3 | h_4 => rfl
  all_goals split <;> simp

@[simp] theorem State.prewarnExpiry_offRoad (s : State) : s.prewarnExpiry.offRoad = s.offRoad := by
  unfold State.prewarnExpiry
  split
  · rfl
  · simp only []
    split
    · rfl
    · rw [State.enterEntryLowering_offRoad]; rfl

@[simp] theorem State.amberExpiry_offRoad (s : State) : s.amberExpiry.offRoad = s.offRoad := by
  unfold State.amberExpiry
  split
  · rfl
  · simp only []
    split
    · rw [State.setTraf_offRoad]; rfl
    · rfl

@[simp] theorem State.clearingExpiry_offRoad (s : State) : s.clearingExpiry.offRoad = s.offRoad := by
  unfold State.clearingExpiry
  split
  · split
    · rfl
    · rw [State.advance_offRoad]; rfl
  · rfl

@[simp] theorem State.extinguishExpiry_offRoad (s : State) : s.extinguishExpiry.offRoad = s.offRoad := by
  unfold State.extinguishExpiry
  split
  · rfl
  · rw [State.setWarn_offRoad]; rfl

@[simp] theorem State.travelExpiry_offRoad (s : State) (g : Gate) : (s.travelExpiry g).offRoad = s.offRoad := by
  simp [State.travelExpiry]

@[simp] theorem State.lowerAgain_offRoad (s : State) (g : Gate) : (s.lowerAgain g).offRoad = s.offRoad := by
  simp [State.lowerAgain]

@[simp] theorem State.settleExpiry_offRoad (s : State) (g : Gate) : (s.settleExpiry g).offRoad = s.offRoad := by
  unfold State.settleExpiry
  split <;> simp

@[simp] theorem State.budgetTick_offRoad (s : State) : s.budgetTick.offRoad = s.offRoad := by
  have h : (s.onRcs fun m => { m with budget := m.budget - 1, budgetTimer := startTimer (secTicks 1) }).offRoad = s.offRoad :=
    rfl
  simp [State.budgetTick, h]

@[simp] theorem State.gateMoved_offRoad (s : State) (g : Gate) (p : GatePos) : (s.gateMoved g p).offRoad = s.offRoad := by
  simp [State.gateMoved]

/-- A gate's proving event writes the position that its lines show (R89). -/
theorem State.provingEvent_offRoad (s : State) (g : Gate) :
    (s.provingEvent g).offRoad = (s.setGate g { s.gate g with pos := s.provenPos g }).offRoad := by
  simp [State.provingEvent]

@[simp] theorem State.zoneEvent_offRoad (s : State) (g : Gate) : (s.zoneEvent g).offRoad = s.offRoad := by
  simp [State.zoneEvent]

@[simp] theorem State.loopEvent_offRoad (s : State) : s.loopEvent.offRoad = s.offRoad := by
  simp [State.loopEvent]

@[simp] theorem State.keepClosedPlaced_offRoad (s : State) : s.keepClosedPlaced.offRoad = s.offRoad := by
  have h : (s.onRcs fun m => { m with holding := true }).offRoad = s.offRoad := rfl
  simp [State.keepClosedPlaced, h]

@[simp] theorem State.keepClosedReleased_offRoad (s : State) : s.keepClosedReleased.offRoad = s.offRoad := by
  have h : (s.onRcs fun m => { m with holding := false }).offRoad = s.offRoad := rfl
  simp [State.keepClosedReleased, h]

@[simp] theorem State.rcsAcknowledged_offRoad (s : State) : s.rcsAcknowledged.offRoad = s.offRoad := by
  rw [State.rcsAcknowledged, State.changeCauses_offRoad]; rfl

@[simp] theorem State.deliverPlaced_offRoad (s : State) (k : HoldKind) (was : Bool) :
    (s.deliverPlaced k was).offRoad = s.offRoad := by
  unfold State.deliverPlaced
  split
  case h_1 | h_2 | h_3 => exact offRoad_of_offSpan (State.smcHoldPlaced_offSpan _ _)
  case h_4 => simp
  case h_5 => exact offRoad_of_offSpan (by simp [offSpan_ite])

@[simp] theorem State.deliverReleased_offRoad (s : State) (k : HoldKind) : (s.deliverReleased k).offRoad = s.offRoad := by
  unfold State.deliverReleased
  split
  case h_1 | h_2 | h_3 => rfl
  case h_4 => simp
  case h_5 => exact offRoad_of_offSpan (by simp [offSpan_ite])

end Sys2Proof.Machine
end

section
/-! SUPPORT. The bounds on the stores, and the operations of the ports and of lamp proving that change what is bounded. -/

namespace Sys2Proof.Machine

/-! ### The stores that the law bounds -/

/-- A lamp's miss counts lie within R120's 0 to 3. -/
def LampRec.bounded (r : LampRec) : Prop := r.litMiss ≤ 3 ∧ r.darkMiss ≤ 3

theorem LampRec.check_bounded {r : LampRec} (h : r.bounded) (lit sensed : Bool) : (r.check lit sensed).bounded := by
  obtain ⟨hl, hd⟩ := h
  cases lit <;> cases sensed <;> simp [LampRec.check, LampRec.bounded, hl, hd]

theorem Vector.set_bounded {v : Vector LampRec 15} (h : ∀ r ∈ v.toList, r.bounded) (i : Fin 15) {x : LampRec} (hx : x.bounded) :
    ∀ r ∈ (v.set i x).toList, r.bounded := by
  intro r hr
  rw [Vector.mem_toList_iff] at hr
  obtain hr | rfl := Vector.mem_or_eq_of_mem_set hr
  · exact h r (Vector.mem_toList_iff.2 hr)
  · exact hx

/-- The counts that the law bounds in MFS and PG: the wind window counts (R189) and the miss counts (R120). -/
def State.counts (s : State) : List Nat × Vector LampRec 15 := (s.mfs.windows, s.pg.lamps)

theorem State.counts_of_offRoad {s t : State} (h : t.offRoad = s.offRoad) : t.counts = s.counts := by
  simp only [State.offRoad, State.offSpan, Prod.mk.injEq, Mfs.mk.injEq] at h
  obtain ⟨⟨-, hl, -, ⟨hw, -⟩, -⟩, -⟩ := h
  exact Prod.ext hw hl

theorem State.counts_of_offSpan {s t : State} (h : t.offSpan = s.offSpan) : t.counts = s.counts :=
  counts_of_offRoad (offRoad_of_offSpan h)

/-- The law, taken apart. -/
theorem State.boundsLaw_iff (s : State) :
    s.boundsLaw = true ↔
      (s.iq.samples.length ≤ 3 ∧ s.iq.anemometer ≤ 65535) ∧ (∀ p, (s.sp.get p).buffer.length ≤ 2) ∧
        s.counts.1.length ≤ 3 ∧ ∀ r ∈ s.counts.2.toList, r.bounded := by
  have hp : (∀ p, (s.sp.get p).buffer.length ≤ 2) ↔ s.sp.operator.buffer.length ≤ 2 ∧ s.sp.traffic.buffer.length ≤ 2 :=
    ⟨fun h => ⟨h .operator, h .traffic⟩, fun h p => by cases p; exacts [h.1, h.2]⟩
  simp only [State.boundsLaw, hp, State.counts, LampRec.bounded, Bool.and_eq_true, decide_eq_true_eq, List.all_eq_true]
  tauto

/-- The law reads IQ, the ports and the counts alone. -/
theorem State.boundsLaw_congr {s t : State} (hi : t.iq = s.iq) (hp : t.sp = s.sp) (hc : t.counts = s.counts)
    (h : s.boundsLaw = true) : t.boundsLaw = true := by
  rw [State.boundsLaw_iff] at h ⊢
  rwa [hi, hp, hc]

theorem State.boundsLaw_of_stores {s t : State} (hs : t.stores = s.stores) (hc : t.counts = s.counts)
    (h : s.boundsLaw = true) : t.boundsLaw = true := by
  simp only [State.stores, Prod.mk.injEq] at hs
  obtain ⟨-, -, hi, -, hp⟩ := hs
  exact boundsLaw_congr hi hp hc h

/-- What the span's operations do keeps the law. -/
theorem State.boundsLaw_of_offSpan {s t : State} (hs : t.stores = s.stores) (ho : t.offSpan = s.offSpan)
    (h : s.boundsLaw = true) : t.boundsLaw = true := boundsLaw_of_stores hs (counts_of_offSpan ho) h

/-- What the road's operations do keeps the law. -/
theorem State.boundsLaw_of_offRoad {s t : State} (hs : t.stores = s.stores) (ho : t.offRoad = s.offRoad)
    (h : s.boundsLaw = true) : t.boundsLaw = true := boundsLaw_of_stores hs (counts_of_offRoad ho) h

/-- A change of one port keeps the law where it leaves at most two entries in the buffer (R207). -/
theorem State.onPort_boundsLaw {s : State} (p : Port) {f : PortRec → PortRec}
    (hf : ∀ r : PortRec, r.buffer.length ≤ 2 → (f r).buffer.length ≤ 2) (h : s.boundsLaw = true) :
    (s.onPort p f).boundsLaw = true := by
  rw [State.boundsLaw_iff] at h ⊢
  obtain ⟨hi, hp, hc⟩ := h
  refine ⟨hi, fun q => ?_, hc⟩
  rw [State.onPort_sp, PerPort.get_set]
  split
  · exact hf _ (hp p)
  · exact hp q

/-! ### The ports -/

theorem PortRec.placeFrame_buffer {r : PortRec} (f : Frame) (h : r.buffer.length ≤ 2) :
    (r.placeFrame f).buffer.length ≤ 2 := by
  unfold PortRec.placeFrame
  split
  · simp only [List.length_append, List.length_singleton]; omega
  · exact h

theorem PortRec.receive_buffer {r : PortRec} (x : RxChar) (h : r.buffer.length ≤ 2) :
    (r.receive x).buffer.length ≤ 2 := by
  unfold PortRec.receive
  split
  · split <;> exact h
  · simp only []
    split
    · exact h
    · split
      · exact placeFrame_buffer _ h
      · exact h

theorem PortRec.takeRate_buffer (r : PortRec) : r.takeRate.buffer = r.buffer := by
  unfold PortRec.takeRate
  split <;> rfl

theorem State.takeRates_boundsLaw {s : State} (h : s.boundsLaw = true) : s.takeRates.boundsLaw = true := by
  have one : ∀ r : PortRec, r.buffer.length ≤ 2 → r.takeRate.buffer.length ≤ 2 := fun r hr => by rwa [r.takeRate_buffer]
  exact onPort_boundsLaw _ one (onPort_boundsLaw _ one h)

/-- Taking a request keeps the law where its owner does. -/
theorem State.takeRequest_boundsLaw {s : State} (p : Port) (row : Instr) (owner : Frame → State → Answer × State)
    (ho : ∀ f u, u.boundsLaw = true → (owner f u).2.boundsLaw = true) (h : s.boundsLaw = true) :
    (s.takeRequest p row owner).boundsLaw = true := by
  have reply : ∀ u b a, State.boundsLaw u = true → (u.formReply p b a).boundsLaw = true := fun u b a =>
    onPort_boundsLaw p fun _ hr => hr
  have pop : (s.onPort p PortRec.pop).boundsLaw = true :=
    onPort_boundsLaw p (fun r hr => by simp only [PortRec.pop, List.length_drop]; omega) h
  unfold State.takeRequest
  split
  · exact h
  · split
    · simp only []
      split
      · exact reply _ _ _ pop
      · exact reply _ _ _ (ho _ _ pop)
    · exact h

/-! ### Lamp proving -/

/-- A check of one lamp keeps the law (R120). -/
theorem State.checkLamp_boundsLaw {s : State} (x : Fin 15 × Bool) (h : s.boundsLaw = true) :
    (s.checkLamp x).boundsLaw = true := by
  unfold State.checkLamp
  split
  · exact h
  · rw [State.boundsLaw_iff] at h ⊢
    obtain ⟨hi, hp, hw, hl⟩ := h
    exact ⟨hi, hp, hw, Vector.set_bounded hl x.1
      (LampRec.check_bounded (hl _ (Vector.mem_toList_iff.2 (Vector.getElem_mem x.1.isLt))) _ _)⟩

end Sys2Proof.Machine
end

section
/-! SUPPORT. Lamp proving, the monitors and a sampling instant keep the bounds. -/

namespace Sys2Proof.Machine

/-! ### Lamp proving and displaced lamps -/

theorem State.deliverImpaired_counts (s : State) (h : Head) : (s.deliverImpaired h).counts = s.counts := by
  unfold State.deliverImpaired
  split
  case h_1 | h_2 | h_3 | h_4 => exact counts_of_offRoad s.headsChecked_offRoad
  case h_5 | h_6 => exact counts_of_offSpan (s.channelHeadChanged_offSpan _)
  case h_7 => rfl

theorem State.reportLamp_boundsLaw {s : State} (i : Fin 15) (b : Bool) (h : s.boundsLaw = true) :
    (s.reportLamp i b).boundsLaw = true := by
  refine boundsLaw_of_stores (s.reportLamp_stores i b) ?_ h
  unfold State.reportLamp State.reformImpaired
  split
  · split
    · rfl
    · rw [State.deliverImpaired_counts]; rfl
  · rfl

/-- The proving check of a head's step keeps the law (R119, R120). -/
theorem State.proveHead_boundsLaw {s : State} (hd : Head) (h : s.boundsLaw = true) : (s.proveHead hd).boundsLaw = true := by
  unfold State.proveHead
  simp only []
  split
  · exact h
  · have checked := List.foldlRecOn (stepLamps hd (s.act.stepAt (s.pg.heads.get hd).index)) State.checkLamp
      (motive := fun u => u.boundsLaw = true) h fun u hu x _ => checkLamp_boundsLaw x hu
    exact State.inAnyOrder_keeps (·.boundsLaw = true) _ _ _ (fun x _ u hu => reportLamp_boundsLaw _ _ hu) fun _ => checked

theorem State.provingPointOf_boundsLaw {s : State} (hd : Head) (h : s.boundsLaw = true) :
    (s.provingPointOf hd).boundsLaw = true := by
  unfold State.provingPointOf
  simp only []
  split
  · exact h
  · exact proveHead_boundsLaw hd h

theorem State.endStep_boundsLaw {s : State} (hd : Head) (h : s.boundsLaw = true) : (s.endStep hd).boundsLaw = true :=
  boundsLaw_of_offSpan (s.endStep_stores hd) (s.endStep_offSpan hd) h

theorem State.stepExpiry_boundsLaw {s : State} (hd : Head) (h : s.boundsLaw = true) : (s.stepExpiry hd).boundsLaw = true := by
  have proven : ∀ r, ((s.setRun hd r).provingPointOf hd).boundsLaw = true := fun r => provingPointOf_boundsLaw hd h
  unfold State.stepExpiry
  simp only []
  split
  · exact h
  · split
    · split
      · exact proven _
      · exact endStep_boundsLaw hd (proven _)
    · exact endStep_boundsLaw hd h

/-- A resolution zeroes the counts of the lamps that it displaces or restores (R122). -/
theorem State.displaceLamps_boundsLaw {s : State} (was : List (Fin 40)) (h : s.boundsLaw = true) :
    (s.displaceLamps was).boundsLaw = true := by
  have zero : ∀ (u : State) (i : Fin 15), u.boundsLaw = true →
      (u.onPg fun g => { g with lamps := g.lamps.set i { litMiss := 0, darkMiss := 0 } }).boundsLaw = true := by
    intro u i hu
    rw [State.boundsLaw_iff] at hu ⊢
    obtain ⟨hi, hp, hw, hl⟩ := hu
    exact ⟨hi, hp, hw, Vector.set_bounded hl i ⟨Nat.zero_le _, Nat.zero_le _⟩⟩
  refine List.foldlRecOn (motive := fun u : State => u.boundsLaw = true) _ _ h fun u hu i _ => ?_
  unfold State.displaceLamp
  simp only []
  split
  · exact reportLamp_boundsLaw _ _ (zero _ _ hu)
  · split
    · exact reportLamp_boundsLaw _ _ (zero _ _ hu)
    · exact hu

/-! ### Monitors -/

theorem State.windEvent_counts (s : State) (e : MonitorEvent) : (s.windEvent e).counts = s.counts := by
  cases e with
  | none => rfl
  | toAlert => exact (counts_of_offSpan (State.smcWindAlert_offSpan _)).trans rfl
  | toNormal => rfl

theorem State.rcsSupply_counts (s : State) (b : Bool) : (s.rcsSupply b).counts = s.counts := by
  rw [State.rcsSupply, counts_of_offRoad (State.changeCauses_offRoad _ _)]
  rfl

theorem State.supplyEvent_counts (s : State) (e : MonitorEvent) : (s.supplyEvent e).counts = s.counts := by
  cases e with
  | none => rfl
  | toAlert => exact (State.rcsSupply_counts _ _).trans ((counts_of_offSpan (State.smcSupplyAlert_offSpan _)).trans rfl)
  | toNormal exit =>
    cases exit
    · rfl
    · exact State.rcsSupply_counts _ _

theorem State.supplyExpiry_boundsLaw {s : State} (h : s.boundsLaw = true) : s.supplyExpiry.boundsLaw = true := by
  refine boundsLaw_of_stores s.supplyExpiry_stores ?_ h
  unfold State.supplyExpiry
  split
  · rfl
  · exact State.supplyEvent_counts _ _

theorem State.mfsTakesSet_counts (s : State) : s.mfsTakesSet.counts = s.counts := by
  unfold State.mfsTakesSet
  split
  · rfl
  · exact State.supplyEvent_counts _ _

theorem addWindow_length {l : List Nat} (h : l.length ≤ 3) (n : Nat) : (addWindow l n).length ≤ 3 := by
  unfold addWindow
  split <;> simp only [List.length_append, List.length_drop, List.length_singleton] <;> omega

/-- A window's end keeps at most three counts (R189). -/
theorem State.windowEnd_boundsLaw {s : State} (h : s.boundsLaw = true) : s.windowEnd.boundsLaw = true := by
  unfold State.windowEnd
  split
  · exact h
  · unfold State.takeWindow
    refine boundsLaw_of_stores (State.windEvent_stores _ _) (State.windEvent_counts _ _) ?_
    rw [State.boundsLaw_iff] at h ⊢
    obtain ⟨⟨hs, -⟩, hp, hw, hl⟩ := h
    exact ⟨⟨hs, Nat.zero_le _⟩, hp, addWindow_length hw _, hl⟩

theorem State.acknowledge_counts (s : State) : s.acknowledge.2.counts = s.counts := by
  have cleared : s.clearLatched.counts = s.counts := by
    simp only [State.counts, State.clearLatched, State.driveAlarm, State.setCmd_mfs, State.setCmd_pg, State.onMfs_mfs,
      State.onMfs_pg]
  have released : ∀ u : State, u.releaseLatch.counts = u.counts := fun u => by
    rw [State.releaseLatch, counts_of_offSpan (State.compare_offSpan _)]
    simp only [State.counts, State.onOm_mfs, State.onOm_pg]
  unfold State.acknowledge
  rw [counts_of_offSpan (State.smcAcknowledged_offSpan _), counts_of_offRoad (State.rcsAcknowledged_offRoad _)]
  split
  · rw [released, cleared]
  · exact cleared

/-! ### Sampling -/

theorem addSample_length {α : Type} {l : List α} (h : l.length ≤ 3) (x : α) : (addSample l x).length ≤ 3 := by
  unfold addSample
  split <;> simp only [List.length_append, List.length_drop, List.length_singleton] <;> omega

theorem State.setFixed_counts (s : State) (l : List (Fin 4)) (on : Bool) : (s.setFixed l on).counts = s.counts := by
  have place : ∀ u i, (State.placeFixed u i).counts = u.counts := fun _ _ => rfl
  have retire : ∀ u i, (State.retireFixed u i).counts = u.counts := fun u i => by unfold State.retireFixed; split <;> rfl
  have fold : ∀ {α : Type} (f : State → α → State), (∀ u x, (f u x).counts = u.counts) → ∀ (l : List α) (u : State),
      (l.foldl f u).counts = u.counts := fun f hf l u =>
    List.foldlRecOn (motive := fun v => v.counts = u.counts) l f rfl fun v hv x _ => (hf v x).trans hv
  unfold State.setFixed
  split
  · rw [fold _ (fun u i => counts_of_offRoad (u.deliverPlaced_offRoad _ _)), fold _ place]
  · rw [fold _ (fun u i => counts_of_offRoad (u.deliverReleased_offRoad _)), fold _ retire]

theorem State.rcsLine_counts (s : State) (l : Fin 48) (b : Bool) : (s.rcsLine l b).counts = s.counts := by
  have proving : ∀ g, (s.provingEvent g).counts = s.counts := fun g => (counts_of_offRoad (s.provingEvent_offRoad g)).trans rfl
  unfold State.rcsLine
  split
  case h_1 => exact (counts_of_offRoad (s.changeCauses_offRoad _)).trans rfl
  case h_2 | h_3 | h_4 | h_5 | h_6 | h_7 | h_8 | h_9 | h_10 | h_11 | h_12 | h_13 => exact proving _
  all_goals exact counts_of_offRoad (by simp)

theorem State.deliverLine_boundsLaw {s : State} (l : Fin 48) (h : s.boundsLaw = true) : (s.deliverLine l).boundsLaw = true := by
  refine boundsLaw_of_stores (s.deliverLine_stores l) ?_ h
  have lines : ((s.rcsLine l (s.line l)).htLine l (s.line l)).counts = s.counts := by
    rw [← s.rcsLine_counts l (s.line l)]
    unfold State.htLine
    split <;> simp only [State.setFixed_counts]
  rw [← lines]
  refine counts_of_offSpan ?_
  simp [State.deliverLine]

theorem State.rcsQualified_counts (s : State) : s.rcsQualified.counts = s.counts := by
  have positions : (Gate.all.foldl (fun u g => State.setGate u g { u.gate g with pos := u.provenPos g }) s).counts =
      s.counts := List.foldlRecOn (motive := fun u : State => u.counts = s.counts) _ _ rfl fun _ hu _ _ => hu
  have onRcs : ∀ (u : State) f, (u.onRcs f).counts = u.counts := fun _ _ => rfl
  unfold State.rcsQualified
  refine (counts_of_offRoad (State.changeCauses_offRoad _ _)).trans ?_
  rw [onRcs]
  split
  · rw [State.setRoad, onRcs, counts_of_offRoad (State.startBudget_offRoad _), positions]
  · exact positions

theorem State.htQualified_counts (s : State) : s.htQualified.counts = s.counts := by
  unfold State.htQualified
  simp only []
  split <;> split <;> split <;> simp only [State.setFixed_counts]

theorem State.qualificationComplete_boundsLaw {s : State} (h : s.boundsLaw = true) :
    s.qualificationComplete.boundsLaw = true := by
  have first : (s.inAnyOrder [FirstLevels.om, .smc] State.takeFirstLevels).boundsLaw = true :=
    State.inAnyOrder_keeps (·.boundsLaw = true) _ _ _
      (fun x _ u hu => boundsLaw_of_offSpan (u.takeFirstLevels_stores x) (by cases x <;> simp [State.takeFirstLevels]) hu)
      fun _ => h
  exact boundsLaw_of_stores (State.htQualified_stores _) (State.htQualified_counts _)
    (boundsLaw_of_stores (State.rcsQualified_stores _) (State.rcsQualified_counts _) first)

/-- A sampling instant keeps at most three samples (R2). -/
theorem State.sample_boundsLaw {s : State} (lines : BitVec 48) (lamps : BitVec 15) (h : s.boundsLaw = true) :
    (s.sample lines lamps).boundsLaw = true := by
  have sampled : ∀ q, (s.onIq fun i =>
      { i with samples := addSample s.iq.samples (s.sampleColumn lines), qualified := q, sensed := some lamps,
               samplingTimer := startTimer (msTicks 5) }).boundsLaw = true := by
    intro q
    rw [State.boundsLaw_iff] at h ⊢
    obtain ⟨⟨hs, ha⟩, hrest⟩ := h
    exact ⟨⟨addSample_length hs _, ha⟩, hrest⟩
  unfold State.sample
  split
  · exact h
  · simp only []
    split
    · exact State.inAnyOrder_keeps (·.boundsLaw = true) _ _ _ (fun l _ u hu => deliverLine_boundsLaw l hu) fun _ =>
        boundsLaw_of_offSpan (State.compare_stores _) (State.compare_offSpan _) (sampled _)
    · exact qualificationComplete_boundsLaw (sampled _)
    · exact sampled _

end Sys2Proof.Machine
end

section
/-! SUPPORT. Scans, the entry to CONFIGURED, the end of a reply and the passing of time keep the bounds. -/

namespace Sys2Proof.Machine

/-! ### Blocks that the law does not read -/

theorem State.onCs_boundsLaw (s : State) (f : Cs → Cs) : (s.onCs f).boundsLaw = s.boundsLaw := rfl
theorem State.onOm_boundsLaw (s : State) (f : Om → Om) : (s.onOm f).boundsLaw = s.boundsLaw := rfl
theorem State.onSmc_boundsLaw (s : State) (f : Smc → Smc) : (s.onSmc f).boundsLaw = s.boundsLaw := rfl
theorem State.onRcs_boundsLaw (s : State) (f : Rcs → Rcs) : (s.onRcs f).boundsLaw = s.boundsLaw := rfl
theorem State.onHt_boundsLaw (s : State) (f : Ht → Ht) : (s.onHt f).boundsLaw = s.boundsLaw := rfl

/-! ### Scans and drive periods -/

theorem State.periodBoundary_boundsLaw {s : State} (h : s.boundsLaw = true) : s.periodBoundary.boundsLaw = true := by
  unfold State.periodBoundary
  split
  · exact h
  · have examined : ∀ u : State, u.boundsLaw = true → (((u.examineTower .a).examineTower .b).compare).boundsLaw = true :=
      fun u => boundsLaw_of_offSpan (by simp) (by simp)
    exact boundsLaw_congr rfl rfl rfl (examined _ (boundsLaw_congr rfl rfl rfl h))

theorem State.completeScan_boundsLaw {s : State} (codes : RawCodes) (h : s.boundsLaw = true) :
    (s.completeScan codes).boundsLaw = true := by
  have deliver : ∀ x u, State.boundsLaw u = true → (u.deliverSet x).boundsLaw = true := fun x u hu => by
    cases x with
    | smc => exact boundsLaw_of_offSpan u.smcTakesSet_stores u.smcTakesSet_offSpan hu
    | pau => exact boundsLaw_of_offSpan u.pauTakesSet_stores u.pauTakesSet_offSpan hu
    | mfs => exact boundsLaw_of_stores u.mfsTakesSet_stores u.mfsTakesSet_counts hu
  unfold State.completeScan
  split
  · exact h
  · exact State.inAnyOrder_keeps (·.boundsLaw = true) _ _ _ (fun x _ u hu => deliver x u hu) fun _ =>
      State.inAnyOrder_keeps (·.boundsLaw = true) _ _ _
        (fun x _ u hu => boundsLaw_of_offSpan (u.tripReport_stores _ _) (u.tripReport_offSpan _ _) hu) fun _ => h

/-! ### Entry, commit and restart -/

/-- The entry to CONFIGURED starts from empty histories, no window count and miss counts of 0. -/
theorem State.entryValues_boundsLaw {s : State} (hp : ∀ p, (s.sp.get p).buffer.length ≤ 2) :
    s.entryValues.boundsLaw = true := by
  rw [State.boundsLaw_iff]
  refine ⟨⟨Nat.zero_le _, Nat.zero_le _⟩, hp, Nat.zero_le _, fun r hr => ?_⟩
  have hr' : r ∈ Vector.replicate 15 ({ litMiss := 0, darkMiss := 0 } : LampRec) := Vector.mem_toList_iff.1 hr
  rw [Vector.eq_of_mem_replicate hr']
  exact ⟨Nat.zero_le _, Nat.zero_le _⟩

theorem State.reportDisplaced_boundsLaw {s : State} (h : s.boundsLaw = true) : s.reportDisplaced.boundsLaw = true :=
  boundsLaw_of_offSpan (s.reportFault_stores _ _) (s.reportFault_offSpan _ _) h

theorem State.enterConfigured_boundsLaw {s : State} (hp : ∀ p, (s.sp.get p).buffer.length ≤ 2) :
    s.enterConfigured.boundsLaw = true := by
  have started : (Head.all.foldl (fun u h => State.startAspect u h (entryAspect h)) s.entryValues).boundsLaw = true :=
    List.foldlRecOn (motive := fun u : State => u.boundsLaw = true) _ _ (entryValues_boundsLaw hp) fun u hu hd _ =>
      boundsLaw_of_offSpan (u.startAspect_stores hd _) (u.startAspect_offSpan hd _) hu
  have loop : ∀ u : State, u.boundsLaw = true → u.entryLoop.boundsLaw = true := fun u hu => by
    unfold State.entryLoop
    split
    · exact hu
    · refine boundsLaw_of_offSpan (State.reportEstop_stores _) (State.reportEstop_offSpan _) ?_
      unfold State.setLatch
      split
      · exact hu
      · exact boundsLaw_congr rfl rfl rfl hu
  unfold State.enterConfigured
  refine periodBoundary_boundsLaw ?_
  rw [State.onSmc_boundsLaw]
  refine loop _ ?_
  exact displaceLamps_boundsLaw [] (reportDisplaced_boundsLaw started)

theorem State.recommit_boundsLaw {s : State} (h : s.boundsLaw = true) : s.recommit.boundsLaw = true := by
  unfold State.recommit
  have restarted : ∀ u : State, u.boundsLaw = true → (Head.all.foldl State.restartHead u).boundsLaw = true := fun u hu =>
    List.foldlRecOn (motive := fun u : State => u.boundsLaw = true) _ _ hu fun u hu hd _ =>
      boundsLaw_of_offSpan (u.restartHead_stores hd) (u.restartHead_offSpan hd) hu
  refine displaceLamps_boundsLaw _ (reportDisplaced_boundsLaw (restarted _ ?_))
  rw [State.onRcs_boundsLaw, State.onOm_boundsLaw]
  exact h

theorem State.commit_boundsLaw {s : State} (h : s.boundsLaw = true) : s.commit.boundsLaw = true := by
  unfold State.commit
  simp only []
  split
  · exact recommit_boundsLaw (boundsLaw_congr rfl rfl rfl h)
  · exact enterConfigured_boundsLaw ((State.boundsLaw_iff s).1 h).2.1

theorem State.restartActs_boundsLaw (s : State) : s.restartActs.boundsLaw = true := by
  refine enterConfigured_boundsLaw fun p => ?_
  cases p <;> simp [State.takeRates, State.takeRate, PortRec.takeRate_buffer, PortRec.restart, PortRec.reset]

theorem State.powerOn_boundsLaw (s : State) : s.powerOn.boundsLaw = true :=
  boundsLaw_congr (s := State.reset) rfl rfl rfl (by decide +kernel)

/-! ### The end of a reply -/

theorem State.replyEnded_boundsLaw {s : State} (r : Reply) (h : s.boundsLaw = true) : (s.replyEnded r).boundsLaw = true := by
  unfold State.replyEnded
  simp only []
  split
  · exact restartActs_boundsLaw _
  · refine takeRates_boundsLaw ?_
    split
    · exact onPort_boundsLaw _ (fun _ hr => hr) (onPort_boundsLaw _ (fun _ hr => hr) h)
    · exact h

theorem State.abandonReply_boundsLaw {s : State} (p : Port) (e f : Bool) (h : s.boundsLaw = true) :
    (s.abandonReply p e f).boundsLaw = true := by
  unfold State.abandonReply
  split
  · exact h
  · exact replyEnded_boundsLaw _ (onPort_boundsLaw p (fun _ hr => hr) h)
  · exact replyEnded_boundsLaw _ (onPort_boundsLaw p (fun _ hr => hr) h)

theorem State.replyCompletes_boundsLaw {s : State} (p : Port) (h : s.boundsLaw = true) :
    (s.replyCompletes p).boundsLaw = true := by
  unfold State.replyCompletes
  split
  · exact replyEnded_boundsLaw _ (onPort_boundsLaw p (fun _ hr => hr) h)
  · exact h

theorem State.charReceived_boundsLaw {s : State} (p : Port) (x : RxChar) (h : s.boundsLaw = true) :
    (s.charReceived p x).boundsLaw = true := by
  have received : (s.onPort p fun q => q.receive x).boundsLaw = true :=
    onPort_boundsLaw p (fun _ hr => PortRec.receive_buffer x hr) h
  unfold State.charReceived
  split
  · exact h
  · split
    · unfold State.readBack
      split
      · exact h
      · split
        · exact onPort_boundsLaw p (fun _ hr => hr) h
        · exact abandonReply_boundsLaw p _ _ h
    · split
      · exact abandonReply_boundsLaw p _ _ h
      · exact received
    · exact received

/-! ### The passing of time -/

theorem State.elapse_boundsLaw {s : State} (d : Ticks) (h : s.boundsLaw = true) : (s.elapse d).boundsLaw = true := by
  rw [State.boundsLaw_iff] at h ⊢
  obtain ⟨hi, hp, hc⟩ := h
  refine ⟨hi, fun p => ?_, hc⟩
  have hl : ((s.elapse d).sp.get p).buffer.length = (s.sp.get p).buffer.length := by
    cases p <;> exact List.length_map ..
  rw [hl]; exact hp p

theorem State.choose_boundsLaw {s : State} (l : List Instr) (h : s.boundsLaw = true) : (s.choose l).2.boundsLaw = true := by
  unfold State.choose
  split <;> exact h

theorem State.nextEvent_boundsLaw {s : State} (h : s.boundsLaw = true) : s.nextEvent.2.boundsLaw = true := by
  unfold State.nextEvent
  split
  · exact choose_boundsLaw _ h
  · split
    · exact h
    · exact choose_boundsLaw _ (elapse_boundsLaw _ h)

end Sys2Proof.Machine
end

section
/-! Every command keeps the bounds (R2, R6, R120, R189, R207). -/

namespace Sys2Proof.Machine

/-! ### The requests' owners -/

theorem State.ownReadStatus_boundsLaw {s : State} (p : Port) (f : Frame) (h : s.boundsLaw = true) :
    (s.ownReadStatus p f).2.boundsLaw = true := by
  unfold State.ownReadStatus
  simp only []
  split
  · exact h
  · exact boundsLaw_of_stores (s := s) rfl rfl h

/-- The reads but READ STATUS change nothing. -/
theorem State.ownReadHolds_state (s : State) (f : Frame) : (s.ownReadHolds f).2 = s := by
  unfold State.ownReadHolds
  simp only []
  split <;> rfl

theorem State.ownReadPassage_state (s : State) (f : Frame) : (s.ownReadPassage f).2 = s := by
  unfold State.ownReadPassage
  split
  · rfl
  · split <;> rfl

theorem State.ownFindPassage_state (s : State) (f : Frame) : (s.ownFindPassage f).2 = s := by
  unfold State.ownFindPassage
  simp only []
  split
  · rfl
  · split <;> rfl

theorem State.ownShowSetting_state (s : State) (f : Frame) : (s.ownShowSetting f).2 = s := by
  unfold State.ownShowSetting
  split <;> rfl

theorem State.ownRestart_state (s : State) (f : Frame) : (s.ownRestart f).2 = s := by
  unfold State.ownRestart
  split <;> rfl

theorem State.joinTest_boundsLaw {s : State} (i : Fin 16) (h : s.boundsLaw = true) : (s.joinTest i).boundsLaw = true :=
  boundsLaw_of_offSpan (s.joinTest_stores i) (s.joinTest_offSpan i) h

theorem State.ownFilePassage_boundsLaw {s : State} (p : Port) (f : Frame) (h : s.boundsLaw = true) :
    (s.ownFilePassage p f).2.boundsLaw = true := by
  have filed : ∀ i r, (s.fileAt i r).boundsLaw = true := fun i r => by
    have made : ((s.setPassage i r).onPau fun u => { u with queue := u.queue ++ [s.handleAt i] }).boundsLaw = true :=
      boundsLaw_of_stores (s := s) rfl rfl h
    unfold State.fileAt
    simp only []
    split
    · exact joinTest_boundsLaw i made
    · exact made
  unfold State.ownFilePassage
  split
  · exact h
  · split
    · exact h
    · split
      · exact h
      · split
        · exact filed _ _
        · exact h

theorem State.ownAmendPassage_boundsLaw {s : State} (p : Port) (f : Frame) (h : s.boundsLaw = true) :
    (s.ownAmendPassage p f).2.boundsLaw = true := by
  have amended : ∀ i r, (s.setPassage i r).boundsLaw = true := fun i r => boundsLaw_of_stores (s := s) rfl rfl h
  unfold State.ownAmendPassage
  split
  · exact h
  · split
    · exact h
    · simp only []
      split
      · exact h
      · split
        · exact h
        · split
          · exact h
          · split
            · exact joinTest_boundsLaw _ (amended _ _)
            · exact amended _ _

theorem State.ownWithdrawPassage_boundsLaw {s : State} (p : Port) (f : Frame) (h : s.boundsLaw = true) :
    (s.ownWithdrawPassage p f).2.boundsLaw = true := by
  have retired : ∀ i, (s.retirePassage i).boundsLaw = true := fun i =>
    boundsLaw_of_offSpan (s.retirePassage_stores i) (s.retirePassage_offSpan i) h
  unfold State.ownWithdrawPassage
  split
  · exact h
  · split
    · exact h
    · split
      · exact h
      · split
        · exact h
        · exact retired _

theorem State.ownBeginOpening_boundsLaw {s : State} (f : Frame) (h : s.boundsLaw = true) :
    (State.ownBeginOpening f s).2.boundsLaw = true := by
  simp only [State.ownBeginOpening, apply_ite Prod.snd]
  split
  · exact boundsLaw_of_offSpan s.formOpening_stores s.formOpening_offSpan h
  · exact h

theorem State.ownEndOpening_boundsLaw {s : State} (f : Frame) (h : s.boundsLaw = true) :
    (State.ownEndOpening f s).2.boundsLaw = true := by
  have closed : s.enterClosing.decideAspects.boundsLaw = true := boundsLaw_of_offSpan (by simp) (by simp) h
  unfold State.ownEndOpening
  split
  · exact closed
  · exact closed
  · exact h
  · exact h

theorem State.ownPlaceHold_boundsLaw {s : State} (p : Port) (f : Frame) (h : s.boundsLaw = true) :
    (s.ownPlaceHold p f).2.boundsLaw = true := by
  have placed : ∀ k r, (s.placeHold p k r).2.boundsLaw = true := fun k r => by
    refine boundsLaw_of_stores (s.placeHold_stores p k r) ?_ h
    unfold State.placeHold
    split
    · simp only []
      split <;> rfl
    · split
      · rfl
      · exact (counts_of_offRoad (State.deliverPlaced_offRoad _ _ _)).trans rfl
  unfold State.ownPlaceHold
  split
  · exact h
  · split
    · exact h
    · simp only []
      split <;> exact placed _ _

theorem State.ownReleaseHold_boundsLaw {s : State} (p : Port) (f : Frame) (h : s.boundsLaw = true) :
    (s.ownReleaseHold p f).2.boundsLaw = true := by
  have released : ∀ i k, (s.releaseHold i k).boundsLaw = true := fun i k =>
    boundsLaw_of_stores (s.releaseHold_stores i k)
      ((counts_of_offRoad (State.deliverReleased_offRoad _ _)).trans rfl) h
  unfold State.ownReleaseHold
  split
  · exact h
  · split
    · exact h
    · split
      · exact released _ _
      · exact h

theorem State.ownLoadSetting_boundsLaw {s : State} (f : Frame) (h : s.boundsLaw = true) :
    (State.ownLoadSetting f s).2.boundsLaw = true := by
  unfold State.ownLoadSetting
  split <;> exact h

theorem State.ownCommit_boundsLaw {s : State} (f : Frame) (h : s.boundsLaw = true) :
    (State.ownCommit f s).2.boundsLaw = true := by
  unfold State.ownCommit
  split
  · exact h
  · split
    · exact h
    · exact commit_boundsLaw h

/-! ### The E-stop loop -/

theorem State.setLatch_boundsLaw {s : State} (h : s.boundsLaw = true) : s.setLatch.boundsLaw = true := by
  unfold State.setLatch
  split
  · exact h
  · rwa [State.onOm_boundsLaw]

theorem State.loopOpens_boundsLaw {s : State} (h : s.boundsLaw = true) : s.loopOpens.boundsLaw = true := by
  unfold State.loopOpens
  simp only []
  split
  · exact boundsLaw_of_offSpan (by simp) (State.compare_offSpan _)
      (boundsLaw_of_offSpan (State.reportEstop_stores _) (State.reportEstop_offSpan _)
        (setLatch_boundsLaw (by rwa [State.onOm_boundsLaw])))
  · rwa [State.onOm_boundsLaw, State.onOm_boundsLaw]

theorem State.loopCloses_boundsLaw {s : State} (h : s.boundsLaw = true) : s.loopCloses.boundsLaw = true := by
  unfold State.loopCloses
  simp only []
  split
  · exact boundsLaw_of_offSpan (State.reportEstop_stores _) (State.reportEstop_offSpan _) (by rwa [State.onOm_boundsLaw])
  · rwa [State.onOm_boundsLaw, State.onOm_boundsLaw]

/-! ### Every command -/

/-- A command whose outcome is a next state keeps what that state has. -/
theorem keeps_next {u : State} {P : State → Prop} (h : P u) :
    ∀ t, (Host.Outcome.next u : Host.Outcome State Fault Refusal) = .next t → P t := by
  rintro t ⟨⟩
  exact h

theorem ite_boundsLaw {c : Prop} [Decidable c] {s t : State} (ht : t.boundsLaw = true) (hs : s.boundsLaw = true) :
    (if c then t else s).boundsLaw = true := by
  split
  · exact ht
  · exact hs

theorem exec_boundsLaw (c : Instr) {s : State} (h : s.boundsLaw = true) :
    ∀ t, exec c s = .next t → t.boundsLaw = true := by
  have request : ∀ (p : Port) (row : Instr) (owner : Frame → State → Answer × State),
      (∀ f u, u.boundsLaw = true → (owner f u).2.boundsLaw = true) → (s.takeRequest p row owner).boundsLaw = true :=
    fun p row owner ho => State.takeRequest_boundsLaw p row owner ho h
  have span : ∀ {u t : State}, u.boundsLaw = true → t.stores = u.stores → t.offSpan = u.offSpan → t.boundsLaw = true :=
    fun hu hs ho => State.boundsLaw_of_offSpan hs ho hu
  have road : ∀ {u t : State}, u.boundsLaw = true → t.stores = u.stores → t.offRoad = u.offRoad → t.boundsLaw = true :=
    fun hu hs ho => State.boundsLaw_of_offRoad hs ho hu
  cases c with
  | powerOnReset => exact keeps_next (State.powerOn_boundsLaw _)
  | resetLine => exact keeps_next (State.powerOn_boundsLaw _)
  | readStatus p => exact keeps_next (request _ _ _ fun f u hu => u.ownReadStatus_boundsLaw p f hu)
  | readMeasurements p => exact keeps_next (request _ _ _ fun _ _ hu => hu)
  | readFaults p => exact keeps_next (request _ _ _ fun _ _ hu => hu)
  | readHolds p => exact keeps_next (request _ _ _ fun f u hu => by rwa [u.ownReadHolds_state])
  | readPassage p => exact keeps_next (request _ _ _ fun f u hu => by rwa [u.ownReadPassage_state])
  | findPassage p => exact keeps_next (request _ _ _ fun f u hu => by rwa [u.ownFindPassage_state])
  | listPassages p => exact keeps_next (request _ _ _ fun _ _ hu => hu)
  | filePassage p => exact keeps_next (request _ _ _ fun f u hu => u.ownFilePassage_boundsLaw p f hu)
  | amendPassage p => exact keeps_next (request _ _ _ fun f u hu => u.ownAmendPassage_boundsLaw p f hu)
  | withdrawPassage p => exact keeps_next (request _ _ _ fun f u hu => u.ownWithdrawPassage_boundsLaw p f hu)
  | beginOpening p => exact keeps_next (request _ _ _ fun f _ hu => State.ownBeginOpening_boundsLaw f hu)
  | endOpening p => exact keeps_next (request _ _ _ fun f _ hu => State.ownEndOpening_boundsLaw f hu)
  | closeRoad p => exact keeps_next (request _ _ _ fun _ u hu => road hu u.closeRoad_stores u.closeRoad_offRoad)
  | reopenRoad p => exact keeps_next (request _ _ _ fun _ u hu => road hu u.reopenRoad_stores u.reopenRoad_offRoad)
  | raiseSpan p =>
    exact keeps_next (request _ _ _ fun f u hu => span hu (by simp [State.ownRaiseSpan]) (by simp [State.ownRaiseSpan]))
  | lowerSpan p =>
    exact keeps_next (request _ _ _ fun f u hu => span hu (by simp [State.ownLowerSpan]) (by simp [State.ownLowerSpan]))
  | haltSpan p => exact keeps_next (request _ _ _ fun _ u hu => span hu u.halt_stores u.halt_offSpan)
  | attend p =>
    exact keeps_next (request _ _ _ fun _ u hu => span hu u.refreshAttendance_stores u.refreshAttendance_offSpan)
  | placeHold p => exact keeps_next (request _ _ _ fun f u hu => u.ownPlaceHold_boundsLaw p f hu)
  | releaseHold p => exact keeps_next (request _ _ _ fun f u hu => u.ownReleaseHold_boundsLaw p f hu)
  | acknowledgeFaults p =>
    exact keeps_next (request _ _ _ fun _ u hu => State.boundsLaw_of_stores u.acknowledge_stores u.acknowledge_counts hu)
  | loadSetting p => exact keeps_next (request _ _ _ fun f _ hu => State.ownLoadSetting_boundsLaw f hu)
  | loadSettingItemAlone p => exact keeps_next (request _ _ _ fun f u hu => by rwa [u.ownShowSetting_state])
  | commitSettings p => exact keeps_next (request _ _ _ fun f _ hu => State.ownCommit_boundsLaw f hu)
  | restart p => exact keeps_next (request _ _ _ fun f u hu => by rwa [u.ownRestart_state])
  | restartActs => exact keeps_next (ite_boundsLaw s.restartActs_boundsLaw h)
  | unknownRequest p => exact keeps_next (request _ _ _ fun _ _ hu => hu)
  | frameDropped p =>
    refine keeps_next ?_
    split
    · exact h
    · exact ite_boundsLaw (State.onPort_boundsLaw p (fun r hr => by simp only [PortRec.pop, List.length_drop]; omega) h) h
  | frameComplete p f =>
    refine keeps_next ?_
    unfold State.frameCompletes
    split
    · exact h
    · split
      · exact h
      · exact State.onPort_boundsLaw p (fun _ hr => PortRec.placeFrame_buffer f hr) h
  | frameAbandoned p =>
    refine keeps_next ?_
    unfold State.frameAbandons
    split
    · exact State.onPort_boundsLaw p (fun _ hr => hr) h
    · exact h
  | driverEnableRises p =>
    refine keeps_next ?_
    unfold State.driverRises
    split
    · exact State.onPort_boundsLaw p (fun _ hr => hr) h
    · exact h
  | replyCompleted p => exact keeps_next (State.replyCompletes_boundsLaw p h)
  | replyAbandoned p => exact keeps_next (State.abandonReply_boundsLaw p _ _ h)
  | samplingInstant lines lamps => exact keeps_next (State.sample_boundsLaw lines lamps h)
  | anemometerPulse =>
    refine keeps_next (ite_boundsLaw h ?_)
    rw [State.boundsLaw_iff] at h ⊢
    obtain ⟨⟨hs, -⟩, hrest⟩ := h
    exact ⟨⟨hs, Nat.min_le_right _ _⟩, hrest⟩
  | windWindowEnd => exact keeps_next (State.windowEnd_boundsLaw h)
  | windDelayEnd => exact keeps_next (ite_boundsLaw (State.windowEnd_boundsLaw h) h)
  | supplyDelayExpiry => exact keeps_next (State.supplyExpiry_boundsLaw h)
  | estopLoopOpens => exact keeps_next (State.loopOpens_boundsLaw h)
  | estopLoopCloses => exact keeps_next (State.loopCloses_boundsLaw h)
  | drivePeriodBoundary => exact keeps_next (State.periodBoundary_boundsLaw h)
  | scanCompletion codes => exact keeps_next (State.completeScan_boundsLaw codes h)
  | brakeTimerExpiry t => exact keeps_next (span h (s.brakeExpiry_stores t) (s.brakeExpiry_offSpan t))
  | reversalIntervalExpiry t => exact keeps_next (span h (s.reversalExpiry_stores t) (s.reversalExpiry_offSpan t))
  | lockTravelTimeout => exact keeps_next (span h s.lockTimeout_stores s.lockTimeout_offSpan)
  | seatTimeout => exact keeps_next (span h s.seatTimeout_stores s.seatTimeout_offSpan)
  | attendanceTimerExpiry => exact keeps_next (span h s.attendanceExpiry_stores s.attendanceExpiry_offSpan)
  | disagreementTimerExpiry t v => exact keeps_next (span h (s.disagreementExpiry_stores t v) (s.disagreementExpiry_offSpan t v))
  | prewarnTimerExpiry => exact keeps_next (road h s.prewarnExpiry_stores s.prewarnExpiry_offRoad)
  | amberTimerExpiry => exact keeps_next (road h s.amberExpiry_stores s.amberExpiry_offRoad)
  | clearingTimerExpiry => exact keeps_next (road h s.clearingExpiry_stores s.clearingExpiry_offRoad)
  | extinguishTimerExpiry => exact keeps_next (road h s.extinguishExpiry_stores s.extinguishExpiry_offRoad)
  | gateTravelTimeout g => exact keeps_next (road h (s.travelExpiry_stores g) (s.travelExpiry_offRoad g))
  | settleTimerExpiry g => exact keeps_next (road h (s.settleExpiry_stores g) (s.settleExpiry_offRoad g))
  | budgetTick => exact keeps_next (road h s.budgetTick_stores s.budgetTick_offRoad)
  | budgetExhausted => exact keeps_next (ite_boundsLaw (road h s.budgetTick_stores s.budgetTick_offRoad) h)
  | stepTimerExpiry hd => exact keeps_next (State.stepExpiry_boundsLaw hd h)
  | hornGivesUp => exact keeps_next (ite_boundsLaw (State.stepExpiry_boundsLaw .horn h) h)
  | provingPoint hd => exact keeps_next (State.provingPointOf_boundsLaw hd h)
  | passageClockTick =>
    exact keeps_next (ite_boundsLaw h (span (u := s.onPau _) h (State.tickPassages_stores _) (State.tickPassages_offSpan _)))
  | windowOpens i => exact keeps_next (ite_boundsLaw (span h (s.countWait_stores i) (s.countWait_offSpan i)) h)
  | lapse i => exact keeps_next (ite_boundsLaw (span h (s.countExpiry_stores i) (s.countExpiry_offSpan i)) h)
  | lingerEnd i => exact keeps_next (ite_boundsLaw (span h (s.countExpiry_stores i) (s.countExpiry_offSpan i)) h)
  | holdClockTick => exact keeps_next (ite_boundsLaw h (by rw [State.onHt_boundsLaw]; exact h))
  | characterReceived p x => exact keeps_next (State.charReceived_boundsLaw p x h)
  | resetLineRises => exact keeps_next (by rw [State.onCs_boundsLaw]; exact h)
  | carrierPeriodStart t => exact keeps_next (ite_boundsLaw h (by rw [State.onOm_boundsLaw]; exact h))

/-- Settles O59: every command keeps the bounds, and so do the passing of time and the choice of the part's own next event. -/
theorem everyStepKeepsTheBounds : Obligations.EveryStepKeepsTheBounds := by
  intro s t h hs
  unfold step at hs
  split at hs
  · next rest _ =>
    have hr : { s with pending := rest }.boundsLaw = true := State.boundsLaw_congr (s := s) rfl rfl rfl h
    exact exec_boundsLaw _ hr t hs
  · have hn := State.nextEvent_boundsLaw h
    split at hs
    · next he => exact exec_boundsLaw _ (by rw [he] at hn; exact hn) t hs
    · next he =>
      rw [he] at hn
      cases hs
      exact hn

end Sys2Proof.Machine
end

section
/-! SUPPORT. What looking at the proving comparisons again can do (R77). -/

namespace Sys2Proof.Machine

/-! ### The proving comparisons (R77) -/

/-- From `s` to `t` SMC has at most looked at its comparisons: their records, the four PROVE faults and the summary alarm apart,
nothing has changed; and an alarm that was right is right. -/
structure LooksAgain (s t : State) : Prop where
  rest :
    t = { s with om := { s.om with command := t.om.command }, smc := { s.smc with towers := t.smc.towers },
                 mfs := { s.mfs with faults := t.mfs.faults } }
  tower : ∀ w, t.tower w =
    { s.tower w with
      raiseCmp := (t.tower w).raiseCmp, lowerCmp := (t.tower w).lowerCmp, brakeCmp := (t.tower w).brakeCmp }
  cmd : ∀ f : Fin 40, f ≠ 39 → t.cmd f = s.cmd f
  fault : ∀ f : Fin 37, f.val < 6 ∨ 9 < f.val → t.fault f = s.fault f
  alarm : s.cmd 39 = s.mfs.alarm → t.cmd 39 = t.mfs.alarm

namespace LooksAgain

variable {s t u : State}

theorem refl (s : State) : LooksAgain s s := ⟨rfl, fun _ => rfl, fun _ _ => rfl, fun _ _ => rfl, id⟩

theorem trans (h : LooksAgain s t) (k : LooksAgain t u) : LooksAgain s u where
  rest := by
    have hr := k.rest
    rw [h.rest] at hr
    exact hr
  tower w := by rw [k.tower w, h.tower w]
  cmd f hf := (k.cmd f hf).trans (h.cmd f hf)
  fault f hf := (k.fault f hf).trans (h.fault f hf)
  alarm := k.alarm ∘ h.alarm

theorem phase (h : LooksAgain s t) (w : Tower) : (t.tower w).phase = (s.tower w).phase := by rw [h.tower w]

theorem brakeTimer (h : LooksAgain s t) (w : Tower) : (t.tower w).brakeTimer = (s.tower w).brakeTimer := by rw [h.tower w]

theorem smc (h : LooksAgain s t) : t.smc = { s.smc with towers := t.smc.towers } := congrArg State.smc h.rest

theorem stands (h : LooksAgain s t) : SmcStands s t := ⟨h.smc, h.tower⟩

theorem motion (h : LooksAgain s t) : t.smc.motion = s.smc.motion := by rw [h.smc]

theorem stop (h : LooksAgain s t) : t.smc.stop = s.smc.stop := by rw [h.smc]

theorem target (h : LooksAgain s t) : t.smc.target = s.smc.target := by rw [h.smc]

theorem attendance (h : LooksAgain s t) : t.smc.attendance = s.smc.attendance := by rw [h.smc]

theorem seatTimer (h : LooksAgain s t) : t.smc.seatTimer = s.smc.seatTimer := by rw [h.smc]

theorem out (h : LooksAgain s t) : t.smc.out = s.smc.out := by rw [h.smc]

theorem speed (h : LooksAgain s t) : t.om.speed = s.om.speed := by rw [h.rest]

theorem pau (h : LooksAgain s t) : t.pau = s.pau := by rw [h.rest]

end LooksAgain

/-- A report that a condition is gone makes no first trip fault. -/
theorem State.reportFault_false_eq (s : State) (f : Fin 37) :
    s.reportFault f false =
      { s with om := { s.om with command := (s.reportFault f false).om.command },
               mfs := { s.mfs with faults := (s.reportFault f false).mfs.faults } } := by
  simp only [State.reportFault, State.driveAlarm, State.faultEnters, State.onMfs, State.setCmd, State.onOm, Om.setCmd,
    Bool.false_and, Bool.false_eq_true, if_false]

/-- A report of agreement touches one fault and the alarm. -/
theorem State.reportAgreed_looks (s : State) {f : Fin 37} (agreed : Bool) (hf : 6 ≤ f.val ∧ f.val ≤ 9) :
    LooksAgain s (s.reportAgreed f agreed) := by
  unfold State.reportAgreed
  split
  · refine ⟨s.reportFault_false_eq f, fun w => rfl, fun g hg => by rw [State.reportFault_cmd, if_neg hg], fun g hg => ?_, fun _ => ?_⟩
    · rw [State.reportFault_fault, if_neg (by omega)]
    · rw [State.reportFault_cmd, if_pos rfl]
  · exact .refl s

theorem State.compareTower_looks (s : State) (t : Tower) : LooksAgain s (s.compareTower t) := by
  unfold State.compareTower
  split
  · exact .refl s
  · simp only []
    refine .trans (.trans ?_ (State.reportAgreed_looks _ _ (by cases t <;> decide)))
      (State.reportAgreed_looks _ _ (by cases t <;> decide))
    refine ⟨rfl, fun w => ?_, fun _ _ => rfl, fun _ _ => rfl, id⟩
    by_cases hw : t = w
    · subst hw; simp [State.tower]
    · simp [State.tower, hw]

theorem State.compare_looks (s : State) : LooksAgain s s.compare :=
  .trans (s.compareTower_looks .a) (State.compareTower_looks _ .b)

end Sys2Proof.Machine
end

section
/-! SUPPORT. A controlled halt by motion state (R61, R64, R68, R72, R73). -/

namespace Sys2Proof.Machine

/-! ### A state but for what the span drives -/

/-- A state with OM, SMC and MFS blanked: what an operation of the span leaves that reaches no other block. -/
def State.offDrive (s : State) : State := { s with om := Om.reset, smc := Smc.reset, mfs := Mfs.reset }

theorem State.offDrive_eq {s t : State} (h : t.offDrive = s.offDrive) :
    t = { s with om := t.om, smc := t.smc, mfs := t.mfs } := by
  simp only [State.offDrive, State.mk.injEq] at h
  obtain ⟨h1, h2, h3, h4, -, h6, -, h8, h9, h10, h11, -, h13⟩ := h
  cases t
  simp_all

theorem LooksAgain.offDrive {s t : State} (h : LooksAgain s t) : t.offDrive = s.offDrive := by rw [h.rest]; rfl

@[simp] theorem State.compare_offDrive (s : State) : s.compare.offDrive = s.offDrive := s.compare_looks.offDrive

@[simp] theorem State.stopTower_offDrive (s : State) (t : Tower) : (s.stopTower t).offDrive = s.offDrive := by
  unfold State.stopTower
  split <;> rfl

@[simp] theorem State.quickStopTower_offDrive (s : State) (t : Tower) : (s.quickStopTower t).offDrive = s.offDrive := by
  unfold State.quickStopTower
  split <;> rfl

@[simp] theorem State.stopTower_mfs (s : State) (t : Tower) : (s.stopTower t).mfs = s.mfs := by
  unfold State.stopTower
  split <;> rfl

/-! ### Stopping the towers (R61, R74) -/

/-- The operation touches one tower's record and no more of SMC, and leaves that tower in the phase `p`. -/
structure TowerMoves (t : Tower) (p : Phase) (s u : State) : Prop where
  smc : u.smc = { s.smc with towers := u.smc.towers }
  phase : ∀ w, (u.tower w).phase = if t = w then p else (s.tower w).phase

theorem TowerMoves.setTower {s v : State} {t : Tower} {r : TowerRec} {p : Phase} (h : v.smc = s.smc) (hp : r.phase = p) :
    TowerMoves t p s (v.setTower t r) := by
  refine ⟨by rw [State.setTower_smc, h], fun w => ?_⟩
  simp only [State.tower, State.setTower_smc, h, PerTower.get_set]
  split
  · exact hp
  · rfl

theorem TowerMoves.refl (s : State) (t : Tower) : TowerMoves t (s.tower t).phase s s :=
  ⟨rfl, fun w => by split <;> simp_all⟩

theorem State.setBrake_moves (s : State) (t : Tower) : TowerMoves t .settingBrake s (s.setBrake t) :=
  .setTower (v := (s.setCmd (towerFn t 2) false).stage t 0) rfl rfl

theorem State.stopTower_moves (s : State) (t : Tower) : TowerMoves t (s.tower t).phase.stopped s (s.stopTower t) := by
  have stays := TowerMoves.refl s t
  unfold State.stopTower
  split <;> rename_i hp <;> rw [hp] at stays ⊢
  case h_1 | h_3 => exact .setTower rfl rfl
  case h_2 => exact s.setBrake_moves t
  all_goals exact stays

theorem State.quickStopTower_moves (s : State) (t : Tower) :
    TowerMoves t (s.tower t).phase.quickStopped s (s.quickStopTower t) := by
  have stays := TowerMoves.refl s t
  unfold State.quickStopTower
  split <;> rename_i hp <;> rw [hp] at stays ⊢
  case h_1 | h_2 | h_3 => exact s.setBrake_moves t
  case h_4 => exact .setTower rfl rfl
  all_goals exact stays

/-- Both towers in turn. -/
theorem TowerMoves.both {s u v : State} {f : Phase → Phase} (ha : TowerMoves .a (f (s.tower .a).phase) s u)
    (hb : TowerMoves .b (f (u.tower .b).phase) u v) :
    (∃ tw, v.smc = { s.smc with towers := tw }) ∧ ∀ w, (v.tower w).phase = f (s.tower w).phase := by
  refine ⟨⟨v.smc.towers, by rw [hb.smc, ha.smc]⟩, fun w => ?_⟩
  cases w <;> simp [hb.phase, ha.phase]

/-- Both towers are at rest. -/
theorem State.bothAtRest_iff (s : State) : s.bothAtRest = true ↔ (s.tower .a).phase = .atRest ∧ (s.tower .b).phase = .atRest := by
  simp [State.bothAtRest, State.tower, PerTower.get]

/-! ### A controlled halt (R61, R64, R68, R72) -/

/-- The stop of both towers, before its end is tested. -/
theorem State.halt_stops (s : State) :
    ∃ u : State, s.beginStop .halt = u.checkRest.compare ∧ u.offDrive = s.offDrive ∧ u.mfs = s.mfs ∧
      (∃ tw, u.smc = { s.smc with stop := .halt, attendance := .stopped, seatTimer := none, towers := tw }) ∧
      ∀ w, (u.tower w).phase = (s.tower w).phase.stopped :=
  ⟨_, rfl, by simp; rfl, by simp, TowerMoves.both (State.stopTower_moves _ .a) (State.stopTower_moves _ .b)⟩

/-- A controlled halt of the moving span. -/
theorem State.beginStop_halt (s : State) (hm : s.smc.motion.moving = true) :
    HaltTaken s (s.beginStop .halt) ∧ (s.beginStop .halt).offDrive = s.offDrive := by
  obtain ⟨u, hstop, hoff, -, ⟨tw, hsmc⟩, hphase⟩ := s.halt_stops
  have hrest : u.checkRest = if u.bothAtRest then u.enterHalted else u := by
    simp [State.checkRest, hsmc, hm]
  have hc := u.bothAtRest_iff
  rw [hphase, hphase] at hc
  rw [hstop, hrest]
  split
  · next hb =>
    have look := u.enterHalted.compare_looks
    refine ⟨⟨fun w => (look.phase w).trans (hphase w), ?_, ?_, ?_⟩, ?_⟩
    · rw [look.attendance]; simp [State.enterHalted, hsmc]
    · rw [look.seatTimer]; simp [State.enterHalted, hsmc]
    · rw [if_pos (hc.1 hb), look.motion, look.stop, look.target]
      exact ⟨rfl, rfl, rfl⟩
    · rw [look.offDrive, ← hoff]; rfl
  · next hb =>
    have look := u.compare_looks
    refine ⟨⟨fun w => (look.phase w).trans (hphase w), ?_, ?_, ?_⟩, ?_⟩
    · rw [look.attendance, hsmc]
    · rw [look.seatTimer, hsmc]
    · rw [if_neg (fun h => hb (hc.2 h)), look.motion, look.stop, hsmc]
      exact ⟨rfl, rfl⟩
    · rw [look.offDrive, hoff]

/-- SMC stands, and every reading of a state alike is alike. -/
theorem SmcStands.phase {s t : State} (h : SmcStands s t) (w : Tower) : (t.tower w).phase = (s.tower w).phase := by
  rw [h.2 w]

theorem SmcStands.motion {s t : State} (h : SmcStands s t) : t.smc.motion = s.smc.motion := by rw [h.1]

theorem SmcStands.stop {s t : State} (h : SmcStands s t) : t.smc.stop = s.smc.stop := by rw [h.1]

theorem SmcStands.trans {s t u : State} (h : SmcStands s t) (k : SmcStands t u) : SmcStands s u :=
  ⟨by rw [k.1, h.1], fun w => by rw [k.2 w, h.2 w]⟩

theorem HaltTaken.of_stands {s u t : State} (h : SmcStands s u) (k : HaltTaken u t) : HaltTaken s t := by
  simpa only [HaltTaken, h.phase, h.motion] using k

/-- A halt outside HOLDING reaches no other block (R72). -/
theorem State.halt_offDrive (s : State) (hm : s.smc.motion ≠ .holding) : s.halt.offDrive = s.offDrive := by
  unfold State.halt
  split
  case h_1 h | h_2 h | h_3 h =>
    split
    case h_1 | h_2 => exact (s.beginStop_halt (by rw [h]; rfl)).2
    all_goals rfl
  case h_4 h => exact absurd h hm
  case h_5 =>
    unfold State.haltUnlocking
    simp only []
    split <;> rfl
  all_goals rfl

theorem State.haltIn_offDrive (s : State) {l : List Motion} (hl : Motion.holding ∉ l) : (s.haltIn l).offDrive = s.offDrive := by
  unfold State.haltIn
  split
  · next h => exact s.halt_offDrive fun e => hl (by simpa [e] using h)
  · rfl

/-- A halt in UNLOCKING (R64). -/
theorem State.haltUnlocking_spec (s : State) :
    s.haltUnlocking.smc.motion = (if s.line 1 = true ∧ s.line 6 = true then .seated else .halted) ∧
      (∀ w, (s.haltUnlocking.tower w).phase = (s.tower w).phase) ∧ s.haltUnlocking.smc.lockTimer = none ∧
      s.haltUnlocking.cmd 9 = false ∧ s.haltUnlocking.cmd 11 = false := by
  have hseat : s.seatsMade = true ↔ s.line 1 = true ∧ s.line 6 = true := Bool.and_eq_true_iff
  have hcmd : ((s.setCmd 9 false).setCmd 11 false).cmd 9 = false ∧ ((s.setCmd 9 false).setCmd 11 false).cmd 11 = false := by
    simp
  have hh : s.haltUnlocking =
      let u := ((s.setCmd 9 false).setCmd 11 false).onSmc fun m => { m with lockTimer := none }
      if s.seatsMade = true then u.onSmc fun m => { m with motion := .seated } else u.enterHalted := rfl
  by_cases h : s.line 1 = true ∧ s.line 6 = true
  · rw [hh, if_pos (hseat.2 h), if_pos h]
    exact ⟨rfl, fun _ => rfl, rfl, hcmd⟩
  · rw [hh, if_neg (mt hseat.1 h), if_neg h]
    exact ⟨rfl, fun _ => rfl, rfl, hcmd⟩

/-- A halt of the moving span, by its stop kind (R72). -/
theorem State.halt_moving (s : State) (hm : s.smc.motion.moving = true) :
    if s.smc.stop = .none ∨ s.smc.stop = .arrival then HaltTaken s s.halt else s.halt = s := by
  have hh : s.halt = if s.smc.stop = .none ∨ s.smc.stop = .arrival then s.beginStop .halt else s := by
    unfold State.halt
    split
    case h_1 | h_2 | h_3 => cases s.smc.stop <;> rfl
    all_goals simp_all [Motion.moving]
  split <;> rename_i hs
  · rw [hh, if_pos hs]; exact (s.beginStop_halt hm).1
  · rw [hh, if_neg hs]

/-- A halt on an event of R73's table, taken in a state whose span is that of `s`. -/
theorem State.haltIn_haltsIn {s u : State} {l : List Motion} (hl : Motion.holding ∉ l) (h : SmcStands s u)
    (hp : u.pau = s.pau) (h1 : u.line 1 = s.line 1) (h6 : u.line 6 = s.line 6) : HaltsIn l s (u.haltIn l) := by
  have hpau : (u.haltIn l).pau = s.pau := by
    rw [State.offDrive_eq (u.haltIn_offDrive hl)]; exact hp
  refine ⟨fun hh => absurd hh.2 hl, fun _ => ⟨hpau, ?_⟩⟩
  by_cases hin : s.smc.motion ∈ l
  · have hin' : u.haltIn l = u.halt := by simp [State.haltIn, h.motion, hin]
    rw [if_pos hin, hin']
    have moving : s.smc.motion.moving = true →
        if s.smc.stop = .none ∨ s.smc.stop = .arrival then HaltTaken s u.halt else SmcStands s u.halt := fun hv => by
      have hu := u.halt_moving (by rw [h.motion]; exact hv)
      rw [h.stop] at hu
      split <;> rename_i hs
      · rw [if_pos hs] at hu; exact .of_stands h hu
      · rw [if_neg hs] at hu; rwa [hu]
    have at_rest : ∀ m, s.smc.motion = m → u.smc.motion = m := fun m e => h.motion.trans e
    split
    case h_1 e | h_2 e | h_3 e => exact moving (by rw [e]; rfl)
    case h_4 e =>
      have hu : u.halt = u.haltUnlocking := by simp [State.halt, at_rest _ e]
      obtain ⟨hm, hph, hrest⟩ := u.haltUnlocking_spec
      rw [h1, h6] at hm
      rw [hu]
      exact ⟨⟨hm, fun w => (hph w).trans (h.phase w)⟩, hrest⟩
    case h_5 e =>
      have hu : u.halt = u.haltLocking := by simp [State.halt, at_rest _ e]
      rw [hu]
      have hcmd : ((u.setCmd 8 false).setCmd 10 false).cmd 8 = false ∧ ((u.setCmd 8 false).setCmd 10 false).cmd 10 = false := by
        simp
      exact ⟨⟨rfl, h.phase⟩, rfl, hcmd⟩
    case h_6 e1 e2 e3 e4 e5 =>
      have hu : u.halt = u := by
        unfold State.halt
        split <;> simp_all [h.motion]
      rwa [hu]
  · rw [if_neg hin]
    simpa [State.haltIn, h.motion, hin] using h

end Sys2Proof.Machine
end

section
/-! SUPPORT. A quick stop (R74). -/

namespace Sys2Proof.Machine

/-! ### A quick stop (R74) -/

@[simp] theorem State.setTower_cmd (s : State) (t : Tower) (r : TowerRec) (f : Fin 40) : (s.setTower t r).cmd f = s.cmd f := rfl

@[simp] theorem State.stage_cmd (s : State) (t : Tower) (d : Nat) (f : Fin 40) : (s.stage t d).cmd f = s.cmd f := rfl

@[simp] theorem Om.setCmd_speed (o : Om) (f : Fin 40) (b : Bool) : (o.setCmd f b).speed = o.speed := rfl

theorem towerFn_brake_ne : ∀ {t w : Tower}, t ≠ w → towerFn t 2 ≠ towerFn w 2
  | .a, .b, _ | .b, .a, _ => by decide
  | .a, .a, h | .b, .b, h => absurd rfl h

theorem towerFn_brake_ne_alarm : ∀ w : Tower, towerFn w 2 ≠ 39
  | .a | .b => by decide

/-- What setting a brake writes, and that it leaves the other tower and its brake (R59). -/
theorem State.setBrake_spec (s : State) (t : Tower) :
    ((s.setBrake t).tower t).brakeTimer = some (2880 * s.act.tbrk.toNat) ∧ (s.setBrake t).cmd (towerFn t 2) = false ∧
      ∀ w, t ≠ w → (s.setBrake t).tower w = s.tower w ∧ (s.setBrake t).cmd (towerFn w 2) = s.cmd (towerFn w 2) := by
  refine ⟨?_, ?_, fun w hw => ⟨?_, ?_⟩⟩
  · simp [State.setBrake, State.tower, startTimer, msTicks, State.act]
  · simp [State.setBrake]
  · simp [State.setBrake, State.tower, hw]
  · simp [State.setBrake, towerFn_brake_ne hw]

/-- A duty is staged and live at 0. -/
def Om.still (o : Om) : Prop := ∀ w, (o.speed.get w).staged = 0 ∧ (o.speed.get w).live = 0

theorem Om.zeroDuties_still (o : Om) : o.zeroDuties.still := by
  intro w
  cases w <;> exact ⟨rfl, rfl⟩

theorem State.setBrake_still {s : State} (t : Tower) (h : s.om.still) : (s.setBrake t).om.still := by
  intro w
  have hw := h w
  by_cases e : t = w
  · subst e; simp [State.setBrake, hw.2]
  · simp [State.setBrake, e, hw]

theorem State.quickStopTower_still {s : State} (t : Tower) (h : s.om.still) : (s.quickStopTower t).om.still := by
  unfold State.quickStopTower
  split
  case h_1 | h_2 | h_3 => exact setBrake_still t h
  all_goals exact h

/-- The phases whose brake a quick stop sets (R74). -/
def Phase.drives (p : Phase) : Prop := p = .releasingBrake ∨ p = .running ∨ p = .rampingDown

/-- A quick stop of a tower sets its brake where it drives, and leaves the other tower and its brake. -/
theorem State.quickStopTower_spec (s : State) (t : Tower) :
    ((s.tower t).phase.drives →
      ((s.quickStopTower t).tower t).brakeTimer = some (2880 * s.act.tbrk.toNat) ∧
        (s.quickStopTower t).cmd (towerFn t 2) = false) ∧
    ∀ w, t ≠ w →
      (s.quickStopTower t).tower w = s.tower w ∧ (s.quickStopTower t).cmd (towerFn w 2) = s.cmd (towerFn w 2) := by
  obtain ⟨hb, hc, ho⟩ := s.setBrake_spec t
  unfold State.quickStopTower
  split <;> rename_i hp
  case h_1 | h_2 | h_3 => exact ⟨fun _ => ⟨hb, hc⟩, ho⟩
  case h_4 => exact ⟨by simp [hp, Phase.drives], fun w hw => ⟨by simp [State.tower, hw], rfl⟩⟩
  all_goals exact ⟨by simp [hp, Phase.drives], fun _ _ => ⟨rfl, rfl⟩⟩

/-- The quick stop of both towers, before its end is tested. -/
theorem State.quickStop_stops (s : State) (h : (s.smc.motion = .lowering ∨ s.smc.motion = .seating) ∧ s.smc.stop ≠ .quick) :
    ∃ u : State, s.quickStop = (if u.bothAtRest then u.enterHalted else u).compare ∧ u.offDrive = s.offDrive ∧
      (∃ tw, u.smc = { s.smc with stop := .quick, attendance := .stopped, seatTimer := none, out := 0, towers := tw }) ∧
      (∀ w, (u.tower w).phase = (s.tower w).phase.quickStopped) ∧ u.om.still ∧
      ∀ w, (s.tower w).phase.drives →
        (u.tower w).brakeTimer = some (2880 * s.act.tbrk.toNat) ∧ u.cmd (towerFn w 2) = false := by
  obtain ⟨v, hv⟩ : ∃ v, v = (s.onSmc fun m => { m with stop := .quick, attendance := .stopped, seatTimer := none }).zeroSpeed :=
    ⟨_, rfl⟩
  have htower : ∀ w, v.tower w = s.tower w := fun w => by rw [hv]; rfl
  have hact : v.act = s.act := by rw [hv]; rfl
  have hstill : v.om.still := by rw [hv]; exact Om.zeroDuties_still _
  obtain ⟨ha, hao⟩ := v.quickStopTower_spec .a
  obtain ⟨hb, hbo⟩ := (v.quickStopTower .a).quickStopTower_spec .b
  obtain ⟨⟨tw, hsmc⟩, hphase⟩ := TowerMoves.both (v.quickStopTower_moves .a) ((v.quickStopTower .a).quickStopTower_moves .b)
  refine ⟨(v.quickStopTower .a).quickStopTower .b, ?_, ?_, ⟨tw, ?_⟩, fun w => by rw [hphase, htower],
    quickStopTower_still _ (quickStopTower_still _ hstill), fun w hw => ?_⟩
  · rw [State.quickStop, if_pos h, hv]
  · rw [State.quickStopTower_offDrive, State.quickStopTower_offDrive, hv]; rfl
  · rw [hsmc, hv]; rfl
  · rw [← htower] at hw
    rw [← hact]
    cases w with
    | a =>
      obtain ⟨h1, h2⟩ := hbo .a (by decide)
      rw [h1, h2]
      exact ha hw
    | b =>
      rw [← (hao .b (by decide)).1] at hw
      have hact' : (v.quickStopTower .a).act = v.act := congrArg (·.cs.active) (v.quickStopTower_offDrive .a)
      rw [← hact']
      exact hb hw

theorem State.quickStop_offDrive (s : State) : s.quickStop.offDrive = s.offDrive := by
  by_cases h : (s.smc.motion = .lowering ∨ s.smc.motion = .seating) ∧ s.smc.stop ≠ .quick
  · obtain ⟨u, hu, hoff, -⟩ := s.quickStop_stops h
    rw [hu, State.compare_offDrive, ← hoff]
    split <;> rfl
  · rw [State.quickStop, if_neg h]

/-- A quick stop taken in a state whose span and settings are those of `s` (R74). -/
theorem State.quickStop_quickStopsFor {s u : State} (h : SmcStands s u) (hact : u.act = s.act) :
    QuickStopsFor s u.quickStop := by
  unfold QuickStopsFor
  split
  · next hq =>
    rw [← h.motion, ← h.stop] at hq
    obtain ⟨v, hv, -, ⟨tw, hsmc⟩, hphase, hstill, hbrake⟩ := u.quickStop_stops hq
    simp only [h.phase, hact] at hphase hbrake
    have hc := v.bothAtRest_iff
    rw [hphase, hphase] at hc
    rw [hv]
    split <;> rename_i hb
    · have look := v.enterHalted.compare_looks
      refine ⟨by rw [look.attendance]; simp [State.enterHalted, hsmc], by rw [look.seatTimer]; simp [State.enterHalted, hsmc],
        by rw [look.out]; simp [State.enterHalted, hsmc], fun w => ⟨(look.phase w).trans (hphase w), ?_, ?_, fun hd => ?_⟩, ?_⟩
      · rw [look.speed]; exact (hstill w).2
      · rw [look.speed]; exact (hstill w).1
      · rw [look.brakeTimer, look.cmd _ (towerFn_brake_ne_alarm w)]; exact hbrake w hd
      · rw [if_pos (hc.1 hb), look.motion, look.stop, look.target]
        exact ⟨rfl, rfl, rfl⟩
    · have look := v.compare_looks
      refine ⟨by rw [look.attendance, hsmc], by rw [look.seatTimer, hsmc], by rw [look.out, hsmc],
        fun w => ⟨(look.phase w).trans (hphase w), ?_, ?_, fun hd => ?_⟩, ?_⟩
      · rw [look.speed]; exact (hstill w).2
      · rw [look.speed]; exact (hstill w).1
      · rw [look.brakeTimer, look.cmd _ (towerFn_brake_ne_alarm w)]; exact hbrake w hd
      · rw [if_neg (fun h => hb (hc.2 h)), look.motion, look.stop, hsmc]
        exact ⟨h.motion, rfl⟩
  · next hq =>
    rw [← h.motion, ← h.stop] at hq
    rwa [State.quickStop, if_neg hq]

end Sys2Proof.Machine
end

section
/-! The anemometer, the wind speed and the WIND monitor (R6, R189, R192, R193, R195). -/

namespace Sys2Proof.Machine

/-! ### The wind speed and the kinds of a value (R189, R191) -/

theorem windKind_crossed {c : Settings} {v : Nat} (h : c.windLevel < (v : Int)) : windKind c v = .crossed := if_pos h

theorem windKind_back {c : Settings} {v : Nat} (h : (v : Int) ≤ c.windLevel) (hb : (v : Int) ≤ c.windLevel - c.windHyst) :
    windKind c v = .back := by
  rw [windKind, if_neg (by omega), if_pos hb]

theorem windKind_band {c : Settings} {v : Nat} (h : (v : Int) ≤ c.windLevel) (hb : ¬ (v : Int) ≤ c.windLevel - c.windHyst) :
    windKind c v = .band := by
  rw [windKind, if_neg (by omega), if_neg hb]

/-- A value no higher than the level has not crossed it. -/
theorem windKind_ne_crossed {c : Settings} {v : Nat} (h : (v : Int) ≤ c.windLevel) : windKind c v ≠ .crossed := by
  by_cases hb : (v : Int) ≤ c.windLevel - c.windHyst
  · simp [windKind_back h hb]
  · simp [windKind_band h hb]

/-! ### The WIND monitor (R192, R193) -/

namespace Monitor

variable {c : Settings} {m : Monitor} {v : Nat}

/-- R192's first table. -/
theorem take_eq (m : Monitor) (k : ValueKind) (d : Nat) :
    m.take k d =
      let u := { m with latestBack := decide (k = .back) }
      if m.state = .normal ∧ k = .crossed then ({ u with state := .alertPending, delay := some d }, .none)
      else if m.state = .alertPending ∧ k ≠ .crossed then ({ u with state := .normal, delay := none }, .toNormal false)
      else if m.state = .alert ∧ k = .back then ({ u with state := .clearPending, delay := some d }, .none)
      else if m.state = .clearPending ∧ k = .crossed then ({ u with state := .alert, delay := none }, .none)
      else (u, .none) := by
  obtain ⟨st, dl, lb⟩ := m
  cases st <;> cases k <;> rfl

/-- Without a running delay a value does what R192's first table says. -/
theorem takeWind_of_delay_none (h : m.delay = none) : m.takeWind c v = m.take (windKind c v) c.windDelay.toNat := by
  simp [takeWind, h]

theorem takeWind_normal_crossed (hs : m.state = .normal) (hd : m.delay = none) (hv : c.windLevel < (v : Int)) :
    (m.takeWind c v).1.state = .alertPending ∧ (m.takeWind c v).1.delay = some c.windDelay.toNat := by
  simp [takeWind_of_delay_none hd, take_eq, hs, windKind_crossed hv]

theorem takeWind_normal (hs : m.state = .normal) (hd : m.delay = none) (hv : (v : Int) ≤ c.windLevel) :
    (m.takeWind c v).1.state = .normal := by
  have hk := windKind_ne_crossed hv
  rw [takeWind_of_delay_none hd]
  cases e : windKind c v <;> simp_all [take_eq]

theorem takeWind_alertPending_falls (hs : m.state = .alertPending) (hv : (v : Int) ≤ c.windLevel) :
    (m.takeWind c v).1.state = .normal ∧ (m.takeWind c v).2 = .toNormal false := by
  have hk := windKind_ne_crossed hv
  have ht : m.take (windKind c v) c.windDelay.toNat =
      ({ m with state := .normal, delay := none, latestBack := decide (windKind c v = .back) }, .toNormal false) := by
    cases e : windKind c v <;> simp_all [take_eq]
  simp [takeWind, ht]

/-- A value that keeps a pending state has the delay go on, or end at its last (R193). -/
theorem takeWind_pending {k : Nat} (hd : m.delay = some k)
    (hp : m.state = .alertPending ∧ c.windLevel < (v : Int) ∨ m.state = .clearPending ∧ (v : Int) ≤ c.windLevel) :
    let u := { m with latestBack := decide (windKind c v = ValueKind.back) }
    m.takeWind c v = if k ≤ 1 then u.endDelay else ({ u with delay := some (k - 1) }, .none) := by
  have ht : m.take (windKind c v) c.windDelay.toNat = ({ m with latestBack := decide (windKind c v = .back) }, .none) := by
    obtain ⟨hs, hv⟩ | ⟨hs, hv⟩ := hp
    · simp [take_eq, hs, windKind_crossed hv]
    · have hk := windKind_ne_crossed hv
      cases e : windKind c v <;> simp_all [take_eq]
  simp [takeWind, ht, hd]

theorem takeWind_goesOn {k : Nat} (hd : m.delay = some k) (hk : 2 ≤ k)
    (hp : m.state = .alertPending ∧ c.windLevel < (v : Int) ∨ m.state = .clearPending ∧ (v : Int) ≤ c.windLevel) :
    (m.takeWind c v).1.state = m.state ∧ (m.takeWind c v).1.delay = some (k - 1) := by
  have h := takeWind_pending hd hp
  rw [h]
  simp only []
  rw [if_neg (by omega)]
  exact ⟨rfl, rfl⟩

/-- The last value of ALERT_PENDING's delay (R192). -/
theorem takeWind_alertPending_ends (hd : m.delay = some 1) (hs : m.state = .alertPending) (hv : c.windLevel < (v : Int)) :
    (m.takeWind c v).1.state = .alert ∧ (m.takeWind c v).1.delay = none ∧ (m.takeWind c v).2 = .toAlert := by
  have h := takeWind_pending hd (.inl ⟨hs, hv⟩)
  simp [h, endDelay, hs]

/-- The last value of CLEAR_PENDING's delay (R192). -/
theorem takeWind_clearPending_ends (hd : m.delay = some 1) (hs : m.state = .clearPending) (hv : (v : Int) ≤ c.windLevel) :
    (m.takeWind c v).1.delay = none ∧
      if (v : Int) ≤ c.windLevel - c.windHyst then
        (m.takeWind c v).1.state = .normal ∧ (m.takeWind c v).2 = .toNormal true
      else (m.takeWind c v).1.state = .alert ∧ (m.takeWind c v).2 = .none := by
  have h := takeWind_pending hd (.inr ⟨hs, hv⟩)
  by_cases hb : (v : Int) ≤ c.windLevel - c.windHyst
  · simp [h, endDelay, hs, hb, windKind_back hv hb]
  · simp [h, endDelay, hs, hb, windKind_band hv hb]

theorem takeWind_alert (hs : m.state = .alert) (hd : m.delay = none) :
    if (v : Int) ≤ c.windLevel ∧ (v : Int) ≤ c.windLevel - c.windHyst then
      (m.takeWind c v).1.state = .clearPending ∧ (m.takeWind c v).1.delay = some c.windDelay.toNat
    else (m.takeWind c v).1.state = .alert ∧ (m.takeWind c v).1.delay = none := by
  rw [takeWind_of_delay_none hd]
  split <;> rename_i hv
  · simp [take_eq, hs, windKind_back hv.1 hv.2]
  · have hk : windKind c v ≠ .back := by
      unfold windKind
      split
      · simp
      · rw [if_neg (fun hb => hv ⟨by omega, hb⟩)]; simp
    cases e : windKind c v <;> simp_all [take_eq]

theorem takeWind_clearPending_crossed (hs : m.state = .clearPending) (hv : c.windLevel < (v : Int)) :
    (m.takeWind c v).1.state = .alert ∧ (m.takeWind c v).1.delay = none ∧ (m.takeWind c v).2 = .none := by
  simp [takeWind, take_eq, hs, windKind_crossed hv]

/-- Only the end of ALERT_PENDING's delay enters ALERT with an event (R194). -/
theorem takeWind_ne_toAlert (hs : m.state ≠ .alertPending) (hd : m.delay = none ∨ m.state ≠ .normal) :
    (m.takeWind c v).2 ≠ .toAlert := by
  have ends : ∀ u : Monitor, u.state ≠ .alertPending → u.endDelay.2 ≠ .toAlert := fun u hu => by
    unfold endDelay
    split
    · contradiction
    · split <;> simp
    · simp
    · simp
  obtain ⟨hst, hev⟩ : (m.delay ≠ none → (m.take (windKind c v) c.windDelay.toNat).1.state ≠ .alertPending) ∧
      (m.take (windKind c v) c.windDelay.toNat).2 ≠ .toAlert := by
    rw [take_eq]
    cases e : m.state <;> cases k : windKind c v <;> simp_all
  unfold takeWind
  simp only []
  split
  · next h1 _ =>
    split
    · exact ends _ (hst (by simp [h1]))
    · exact hev
  · exact hev

end Monitor

/-! ### The event of the WIND monitor (R194, R195) -/

/-- What the event of the WIND monitor brings: nothing, both fall flags, or both rise flags and the halt of R73. -/
theorem State.windEvent_spec (s : State) (e : MonitorEvent) :
    (s.windEvent e).offDrive = s.offDrive ∧ (s.windEvent e).mfs.windows = s.mfs.windows ∧
      (s.windEvent e).mfs.windSpeed = s.mfs.windSpeed ∧ (s.windEvent e).mfs.wind = s.mfs.wind ∧
      (e = .none → s.windEvent e = s) ∧
      (e ≠ .toAlert → (s.windEvent e).smc = s.smc ∧ (s.windEvent e).om = s.om) ∧
      (∀ x, e = .toNormal x → ∀ p, ((s.windEvent e).mfs.flags.get p).windFall = true) ∧
      (e = .toAlert → (∀ p, ((s.windEvent e).mfs.flags.get p).windRise = true) ∧
        HaltsIn [.unlocking, .raising] s (s.windEvent e)) := by
  cases e with
  | none => exact ⟨rfl, rfl, rfl, rfl, fun _ => rfl, fun _ => ⟨rfl, rfl⟩, by simp, by simp⟩
  | toNormal x =>
    exact ⟨rfl, rfl, rfl, rfl, by simp, fun _ => ⟨rfl, rfl⟩, fun _ _ p => by cases p <;> rfl, by simp⟩
  | toAlert =>
    obtain ⟨u, hu⟩ : ∃ u, u = s.onMfs fun m => m.flagBoth fun f => { f with windRise := true } := ⟨_, rfl⟩
    have he : s.windEvent .toAlert = u.haltIn [.unlocking, .raising] := by rw [hu]; rfl
    have hoff := u.haltIn_offDrive (l := [.unlocking, .raising]) (by decide)
    have hmfs : ({ (u.haltIn [.unlocking, .raising]).mfs with faults := Mfs.reset.faults, firstTrip := none } : Mfs) =
        { u.mfs with faults := Mfs.reset.faults, firstTrip := none } :=
      congrArg (·.2.2.2.2.1) (u.haltIn_offSpan [.unlocking, .raising])
    simp only [Mfs.mk.injEq] at hmfs
    obtain ⟨hw, hsp, -, hwind, -, hfl, -⟩ := hmfs
    rw [he, hoff, hw, hsp, hwind, hfl]
    refine ⟨by rw [hu]; rfl, by rw [hu]; rfl, by rw [hu]; rfl, by rw [hu]; rfl, by simp, by simp, by simp, fun _ => ⟨?_, ?_⟩⟩
    · intro p
      rw [hu]
      cases p <;> rfl
    · exact State.haltIn_haltsIn (by decide) (by rw [hu]; exact ⟨rfl, fun _ => rfl⟩) (by rw [hu]; rfl) (by rw [hu]; rfl)
        (by rw [hu]; rfl)

/-- The sum of R189, with each missing count taken as the newest. -/
theorem windowSum_addWindow_nil (n : Nat) : windowSum (addWindow [] n) = 3 * n := by
  simp [windowSum, addWindow]; omega

theorem windowSum_addWindow_one (x n : Nat) : windowSum (addWindow [x] n) = x + 2 * n := by
  simp [windowSum, addWindow]; omega

theorem windowSum_addWindow_two (x y n : Nat) : windowSum (addWindow [x, y] n) = x + y + n := by
  simp [windowSum, addWindow]; omega

theorem windowSum_addWindow_full (x : Nat) {l : List Nat} (h : l.length = 2) (n : Nat) :
    windowSum (addWindow (x :: l) n) = l.sum + n := by
  simp [windowSum, addWindow, h]

/-- A timer that runs is there. -/
theorem Timer.not_isNone {t : Timer} (h : t.isSome = true) : ¬ t.isNone = true := by
  cases t with
  | none => cases h
  | some => exact Bool.false_ne_true

/-- A window's end, up to the WIND monitor's event (R6, R189). -/
theorem State.windowEnd_eq (s : State) (h : s.iq.windowTimer.isSome = true) {v : Nat}
    (hv : windSpeedOf s.act (addWindow s.mfs.windows s.iq.anemometer) = v) :
    s.windowEnd =
      State.windEvent
        { s with
          iq := { s.iq with anemometer := 0, windowTimer := some 2880000 }
          mfs := { s.mfs with windows := addWindow s.mfs.windows s.iq.anemometer, windSpeed := some v,
                              wind := (s.mfs.wind.takeWind s.act v).1 } }
        (s.mfs.wind.takeWind s.act v).2 := by
  subst hv
  unfold State.windowEnd
  rw [if_neg (Timer.not_isNone h)]
  rfl

/-- Settles O35: a window's end is the monitor's event on the state that holds the new count and speed; R192's tables give the
monitor, and the event gives the flags and the halt. -/
theorem windCountsSpeedAndAlert : Obligations.WindCountsSpeedAndAlert := by
  intro s htimer
  refine ⟨?_, fun v hv hlen => ?_⟩
  · show Host.Outcome.next _ = _
    rw [if_neg (Timer.not_isNone htimer)]
    rfl
  have hspeed : windSpeedOf s.act (addWindow s.mfs.windows s.iq.anemometer) = v := by
    rw [hv, windSpeedOf]
    congr 3
    split <;> rename_i hw <;> rw [hw]
    · exact windowSum_addWindow_nil _
    · exact windowSum_addWindow_one _ _
    · exact windowSum_addWindow_two _ _ _
    · next x l h1 h2 =>
      have hl : l.length = 2 := by
        rw [hw] at hlen
        rcases l with _ | ⟨y, _ | ⟨z, l⟩⟩
        · exact (h1 rfl).elim
        · exact (h2 y rfl).elim
        · simp only [List.length_cons] at hlen ⊢; omega
      exact windowSum_addWindow_full x hl _
  have hend := s.windowEnd_eq htimer hspeed
  obtain ⟨u, hu⟩ : ∃ u : State, u =
      { s with
        iq := { s.iq with anemometer := 0, windowTimer := some 2880000 }
        mfs := { s.mfs with windows := addWindow s.mfs.windows s.iq.anemometer, windSpeed := some v,
                            wind := (s.mfs.wind.takeWind s.act v).1 } } := ⟨_, rfl⟩
  rw [← hu] at hend
  obtain ⟨hoff, hwin, hws, hwind, hnone, hquiet, hfall, hrise⟩ := u.windEvent_spec (s.mfs.wind.takeWind s.act v).2
  rw [← hend] at hoff hwin hws hwind hnone hquiet hfall hrise
  have hframe := State.offDrive_eq hoff
  have hmon : s.windowEnd.mfs.wind = (s.mfs.wind.takeWind s.act v).1 := by rw [hwind, hu]
  have hdelay : s.mfs.wind.delay = some 1 → exec .windDelayEnd s = .next s.windowEnd := fun h => by
    show Host.Outcome.next _ = _
    rw [if_pos h]
  have hwindows : addWindow s.mfs.windows s.iq.anemometer =
      (if s.mfs.windows.length < 3 then s.mfs.windows else s.mfs.windows.tail) ++ [s.iq.anemometer] := by
    unfold addWindow
    split <;> simp
  have hiq : s.windowEnd.iq = { s.iq with anemometer := 0, windowTimer := some 2880000 } := by rw [hframe, hu]
  have hflags : u.mfs.flags = s.mfs.flags := by rw [hu]
  refine ⟨⟨_, rfl, ?_, hiq, by rw [hws, hu], by rw [hwin, hu]; exact hwindows, fun hs hd => ?_, fun hs hv => ?_, fun k hk h2 => ?_,
    fun hs hd => ?_, fun hs hv => ?_, fun hs hd => ?_⟩, fun hd => ⟨fun hs hv => ?_, fun hs hv => ?_⟩⟩
  · rw [hframe, hu]
  · rw [hmon]
    split
    · next hv => exact Monitor.takeWind_normal_crossed hs hd hv
    · next hv => exact Monitor.takeWind_normal hs hd (by omega)
  · obtain ⟨hst, he⟩ := Monitor.takeWind_alertPending_falls (c := s.act) hs hv
    exact ⟨by rw [hmon]; exact hst, hfall _ he⟩
  · rw [hmon]
    refine ⟨fun hs hv => ?_, fun hs hv => ?_⟩
    · rw [← hs]; exact Monitor.takeWind_goesOn hk h2 (.inl ⟨hs, hv⟩)
    · rw [← hs]; exact Monitor.takeWind_goesOn hk h2 (.inr ⟨hs, hv⟩)
  · rw [hmon]
    exact Monitor.takeWind_alert hs hd
  · obtain ⟨hst, hdl, he⟩ := Monitor.takeWind_clearPending_crossed (c := s.act) hs hv
    exact ⟨by rw [hmon]; exact hst, by rw [hmon]; exact hdl, by rw [hnone he]; exact hflags⟩
  · obtain ⟨h1, h2⟩ := hquiet (Monitor.takeWind_ne_toAlert hs hd)
    exact ⟨by rw [h1, hu], by rw [h2, hu]⟩
  · obtain ⟨hst, hdl, he⟩ := Monitor.takeWind_alertPending_ends (c := s.act) hd hs hv
    obtain ⟨hr, hh⟩ := hrise he
    refine ⟨_, hdelay hd, by rw [hframe, hu], by rw [hmon]; exact hst, by rw [hmon]; exact hdl, by rw [hws, hu], hr, ?_⟩
    subst hu
    exact hh
  · obtain ⟨hdl, hst⟩ := Monitor.takeWind_clearPending_ends (c := s.act) hd hs hv
    have hne : (s.mfs.wind.takeWind s.act v).2 ≠ .toAlert := by
      split at hst <;> rw [hst.2] <;> simp
    obtain ⟨h1, h2⟩ := hquiet hne
    refine ⟨_, hdelay hd, by rw [hframe, h1, h2, hu], by rw [hmon]; exact hdl, by rw [hws, hu], ?_⟩
    rw [hmon]
    split at hst
    · next hb => rw [if_pos hb]; exact ⟨hst.1, hfall _ hst.2⟩
    · next hb => rw [if_neg hb]; exact ⟨hst.1, by rw [hnone hst.2]; exact hflags⟩

end Sys2Proof.Machine
end

section
/-! The levels of the lines and the drive period boundary (R11, R12, R14, R18, R26, R61). -/

namespace Sys2Proof.Machine

/-! ### The levels of the lines (R11, R12, R14) -/

theorem rank_eq_one_iff (f : Fin 40) : rank f = 1 ↔ f.val ≤ 7 := by
  unfold rank
  split
  · simp_all
  · simp only [*, iff_false]
    repeat' split
    all_goals decide

/-- A line is active while its winner's effective state is on. -/
theorem Om.lineActive_eq_any (o : Om) (l : Fin 48) : o.lineActive l = o.winner[l].any o.effective := by
  unfold Om.lineActive
  split <;> simp_all

/-! ### A drive period boundary (R12, R61) -/

@[simp] theorem State.setBrake_offDrive (s : State) (t : Tower) : (s.setBrake t).offDrive = s.offDrive := rfl

/-- The boundary's examination of one tower: SETTING_BRAKE from RAMPING_DOWN at a live duty of 0, and the rest left. -/
theorem State.examineTower_spec (s : State) (t : Tower) :
    (∃ tw, (s.examineTower t).smc = { s.smc with towers := tw }) ∧ (s.examineTower t).offDrive = s.offDrive ∧
      (∀ w, ((s.examineTower t).om.speed.get w).live = (s.om.speed.get w).live) ∧
      (if (s.tower t).phase = .rampingDown ∧ (s.om.speed.get t).live = 0 then
        ((s.examineTower t).tower t).phase = .settingBrake ∧
          ((s.examineTower t).tower t).brakeTimer = some (2880 * s.act.tbrk.toNat) ∧
          (s.examineTower t).cmd (towerFn t 2) = false ∧ ((s.examineTower t).om.speed.get t).staged = 0
      else s.examineTower t = s) ∧
      ∀ w, t ≠ w → (s.examineTower t).tower w = s.tower w ∧ (s.examineTower t).cmd (towerFn w 2) = s.cmd (towerFn w 2) ∧
        (s.examineTower t).om.speed.get w = s.om.speed.get w := by
  by_cases h : (s.tower t).phase = .rampingDown ∧ (s.om.speed.get t).live = 0
  · have he : s.examineTower t = s.setBrake t := by simp [State.examineTower, h]
    obtain ⟨hb, hc, ho⟩ := s.setBrake_spec t
    rw [he, if_pos h]
    refine ⟨⟨_, (s.setBrake_moves t).smc⟩, rfl, fun w => ?_, ⟨?_, hb, hc, ?_⟩, fun w hw => ⟨(ho w hw).1, (ho w hw).2, ?_⟩⟩
    · by_cases e : t = w
      · subst e; simp [State.setBrake]
      · simp [State.setBrake, e]
    · rw [(s.setBrake_moves t).phase, if_pos rfl]
    · simp [State.setBrake]
    · simp [State.setBrake, hw]
  · have he : s.examineTower t = s := by
      unfold State.examineTower
      rw [if_neg (by simpa using h)]
    rw [he, if_neg h]
    exact ⟨⟨_, rfl⟩, rfl, fun _ => rfl, rfl, fun _ _ => ⟨rfl, rfl, rfl⟩⟩

/-- The transfer copies each staged duty, or 0 under the latch, into the live duty, and changes nothing else. -/
theorem Om.transfer_speed (o : Om) (w : Tower) :
    (o.transfer.speed.get w) = { o.speed.get w with live := if o.latch then 0 else (o.speed.get w).staged } := by
  cases w <;> rfl

/-- What a boundary does to one tower, once both have been examined (R61). -/
def BoundaryTower (v : State) (tbrk : Int) (w : Tower) (u : State) : Prop :=
  (u.om.speed.get w).live = (v.om.speed.get w).live ∧
    if (v.tower w).phase = .rampingDown ∧ (v.om.speed.get w).live = 0 then
      (u.tower w).phase = .settingBrake ∧ (u.tower w).brakeTimer = some (2880 * tbrk.toNat) ∧
        u.cmd (towerFn w 2) = false ∧ (u.om.speed.get w).staged = 0
    else (u.tower w).phase = (v.tower w).phase ∧ u.cmd (towerFn w 2) = v.cmd (towerFn w 2)

theorem BoundaryTower.of_looks {v u t : State} {tbrk : Int} {w : Tower} (h : BoundaryTower v tbrk w u) (look : LooksAgain u t) :
    BoundaryTower v tbrk w t := by
  unfold BoundaryTower at h ⊢
  rwa [look.speed, look.phase, look.brakeTimer, look.cmd _ (towerFn_brake_ne_alarm w)]

theorem State.examineTowers_spec (v : State) (w : Tower) :
    BoundaryTower v v.act.tbrk w ((v.examineTower .a).examineTower .b) := by
  obtain ⟨-, hoff, halive, ha, hao⟩ := v.examineTower_spec .a
  obtain ⟨-, -, hblive, hb, hbo⟩ := (v.examineTower .a).examineTower_spec .b
  have hact : (v.examineTower .a).act = v.act := congrArg (·.cs.active) hoff
  refine ⟨(hblive w).trans (halive w), ?_⟩
  cases w with
  | a =>
    obtain ⟨h1, h2, h3⟩ := hbo .a (by decide)
    rw [h1, h2, h3]
    split <;> rename_i hq
    · rwa [if_pos hq] at ha
    · rw [if_neg hq] at ha
      rw [ha]; exact ⟨rfl, rfl⟩
  | b =>
    obtain ⟨h1, h2, h3⟩ := hao .b (by decide)
    rw [h1, h3, hact] at hb
    split <;> rename_i hq
    · rwa [if_pos hq] at hb
    · rw [if_neg hq] at hb
      rw [hb, h1, h2]; exact ⟨rfl, rfl⟩

/-- A drive period boundary, up to the start of the scan. -/
theorem State.periodBoundary_eq (s : State) (h : s.smc.periodTimer.isSome = true) :
    s.periodBoundary =
      (((({ s with smc := { s.smc with periodTimer := some (2880 * s.act.tp.toNat) }, om := s.om.transfer } : State).examineTower
        .a).examineTower .b).compare).startScan := by
  unfold State.periodBoundary
  rw [if_neg (Timer.not_isNone h)]
  rfl

/-- Settles O38: the lines' levels are R11's by the cases of a winner; a boundary is the transfer, the examination of both towers
and the start of a scan. -/
theorem boundaryTransfersDutiesAndStartsScan : Obligations.BoundaryTransfersDutiesAndStartsScan := by
  refine ⟨fun s l => ?_, fun s => ⟨fun htimer => ?_, fun w hw => ?_⟩⟩
  · have pulse : ∀ v : Speed, v.level = match v.carrierTimer with
        | none => false
        | some r => decide (1000 ≤ v.carrier ∨ (2880 - r) * 1000 < v.carrier * 2880) := fun v => by
      unfold Speed.level
      cases v.carrierTimer with
      | none => rfl
      | some r => exact (Bool.or_comm ..).trans (Bool.decide_or ..).symm
    rw [Om.energised, Om.lineActive_eq_any]
    congr 3
    funext f
    simp only [Om.effective, Bool.and_eq_true, decide_eq_true_eq, rank_eq_one_iff, and_comm (a := s.om.latch = true), pulse]
    rfl
  · obtain ⟨v, hv⟩ : ∃ v : State, v = { s with smc := { s.smc with periodTimer := some (2880 * s.act.tp.toNat) },
                                               om := s.om.transfer } := ⟨_, rfl⟩
    have heq := s.periodBoundary_eq htimer
    rw [← hv] at heq
    obtain ⟨u, hu⟩ : ∃ u, u = (v.examineTower .a).examineTower .b := ⟨_, rfl⟩
    have towers := v.examineTowers_spec
    rw [← hu] at heq towers
    obtain ⟨tw, hsmc⟩ : ∃ tw, u.smc = { v.smc with towers := tw } := by
      obtain ⟨⟨x, hx⟩, -⟩ := v.examineTower_spec .a
      obtain ⟨⟨y, hy⟩, -⟩ := (v.examineTower .a).examineTower_spec .b
      exact ⟨y, by rw [hu, hy, hx]⟩
    have hoff : u.offDrive = v.offDrive := by
      rw [hu, (State.examineTower_spec _ .b).2.1, (State.examineTower_spec _ .a).2.1]
    have look := u.compare_looks
    have hframe := State.offDrive_eq (look.offDrive.trans hoff)
    have hmu : u.compare.mu = s.mu := by rw [hframe, hv]
    have hact : u.compare.act = s.act := by rw [hframe, hv]; rfl
    refine ⟨_, rfl, ?_⟩
    rw [heq]
    refine ⟨?_, ?_, ?_, ?_, rfl, ?_, ?_, ?_, fun w => ?_⟩
    · exact (congrArg Smc.periodTimer look.smc).trans (by rw [hsmc, hv])
    · exact congrArg some hact
    · exact (show u.compare.mu.set = s.mu.set by rw [hmu])
    · exact (show u.compare.mu.seq = s.mu.seq by rw [hmu])
    · show (if u.compare.mu.waterChanged then _ else _) = _
      rw [hmu]
    · rw [hv] at hframe
      exact congrArg (fun x : State => { x with mu := u.compare.startScan.mu }) hframe
    · exact look.motion.trans (by rw [hsmc, hv])
    · obtain ⟨hlive, hcase⟩ := (towers w).of_looks look
      have hl : (v.om.speed.get w).live = if s.om.latch then 0 else (s.om.speed.get w).staged := by
        rw [hv]; exact congrArg Speed.live (s.om.transfer_speed w)
      have htw : v.tower w = s.tower w := by rw [hv]; rfl
      have hcmd : v.cmd (towerFn w 2) = s.cmd (towerFn w 2) := by rw [hv]; rfl
      have hva : v.act = s.act := by rw [hv]; rfl
      rw [htw, hcmd, hva] at hcase
      refine ⟨hlive.trans hl, ?_⟩
      split <;> rename_i hq
      · rwa [if_pos ⟨hq.1, hlive.symm.trans hq.2⟩] at hcase
      · rwa [if_neg fun h => hq ⟨h.1, hlive.trans h.2⟩] at hcase
  · show Host.Outcome.next _ = _
    rw [if_neg (Timer.not_isNone hw)]
    rfl

end Sys2Proof.Machine
end

section
/-! SUPPORT. What PAU's operations leave alone, said once for each operation. -/

namespace Sys2Proof.Machine

/-! ### A state but for the channel -/

/-- A state with PAU, the heads' run records and the commands blanked, and the commands that are not a lamp's or the horn's: what PAU's
own operations leave, the aspects that they hand to PG included. -/
def State.offChannel (s : State) : State × (Fin 40 → Bool) :=
  ({ s with pau := Pau.reset, pg := { s.pg with heads := Pg.reset.heads }, om := { s.om with command := Om.reset.command } },
    fun f => if 24 ≤ f.val ∧ f.val ≤ 38 then false else s.cmd f)

@[simp] theorem offChannel_ite {c : Prop} [Decidable c] (a b : State) :
    (if c then a else b).offChannel = if c then a.offChannel else b.offChannel := by split <;> rfl

theorem foldl_offChannel {α : Type} (f : State → α → State) (h : ∀ s x, (f s x).offChannel = s.offChannel) (l : List α)
    (s : State) : (l.foldl f s).offChannel = s.offChannel := foldl_keeps f h l s

section Readings

variable {s t : State} (h : t.offChannel = s.offChannel)
include h

theorem State.offChannel_smc : t.smc = s.smc := congrArg (·.1.smc) h

theorem State.offChannel_mfs : t.mfs = s.mfs := congrArg (·.1.mfs) h

theorem State.offChannel_speed : t.om.speed = s.om.speed := congrArg (·.1.om.speed) h

theorem State.offChannel_cmd (f : Fin 40) (hf : f.val < 24 ∨ 38 < f.val) : t.cmd f = s.cmd f := by
  have hv := congrFun (congrArg (·.2) h) f
  have hn : ¬ (24 ≤ f.val ∧ f.val ≤ 38) := by omega
  simpa only [State.offChannel, if_neg hn] using hv

end Readings

@[simp] theorem State.onPau_offChannel (s : State) (f : Pau → Pau) : (s.onPau f).offChannel = s.offChannel := rfl
@[simp] theorem State.onOpening_offChannel (s : State) (f : Opening → Opening) : (s.onOpening f).offChannel = s.offChannel := rfl
@[simp] theorem State.setPassage_offChannel (s : State) (i : Fin 16) (p : Passage) :
    (s.setPassage i p).offChannel = s.offChannel := rfl
@[simp] theorem State.setRun_offChannel (s : State) (h : Head) (r : RunRec) : (s.setRun h r).offChannel = s.offChannel := rfl

@[simp] theorem State.lightStep_offChannel (s : State) (h : Head) (p : PatternStep) :
    (s.lightStep h p).offChannel = s.offChannel := by
  obtain ⟨v, hv, hf⟩ := s.lightStep_eq h p
  rw [hv]
  refine Prod.ext rfl (funext fun f => ?_)
  simp only [State.offChannel]
  split
  · rfl
  · exact hf f (by omega)

@[simp] theorem State.showStep_offChannel (s : State) (h : Head) (r : RunRec) : (s.showStep h r).offChannel = s.offChannel := by
  simp [State.showStep]

@[simp] theorem State.startAspect_offChannel (s : State) (h : Head) (a : Aspect) :
    (s.startAspect h a).offChannel = s.offChannel := by
  simp [State.startAspect]

@[simp] theorem State.requestAspect_offChannel (s : State) (h : Head) (a : Aspect) :
    (s.requestAspect h a).offChannel = s.offChannel := by
  unfold State.requestAspect
  simp only []
  repeat' split
  all_goals simp

@[simp] theorem State.requestAdmit_offChannel (s : State) : s.requestAdmit.offChannel = s.offChannel := by
  simp [State.requestAdmit]

@[simp] theorem State.handAspect_offChannel (s : State) (d : Dir) : (s.handAspect d).offChannel = s.offChannel := by
  simp [State.handAspect]

@[simp] theorem State.decideAspects_offChannel (s : State) : s.decideAspects.offChannel = s.offChannel := by
  simp [State.decideAspects]

@[simp] theorem State.admitMember_offChannel (d : Dir) (s : State) (h : Handle 16) :
    (State.admitMember d s h).offChannel = s.offChannel := by
  unfold State.admitMember
  split <;> simp

@[simp] theorem State.admissionTest_offChannel (s : State) : s.admissionTest.offChannel = s.offChannel := by
  unfold State.admissionTest
  repeat' split
  all_goals simp [foldl_offChannel]

@[simp] theorem State.settleDirection_offChannel (s : State) : s.settleDirection.offChannel = s.offChannel := by
  unfold State.settleDirection
  split <;> simp

@[simp] theorem State.backToGrouped_offChannel (s : State) (h : Handle 16) : (s.backToGrouped h).offChannel = s.offChannel := by
  unfold State.backToGrouped
  split <;> simp

@[simp] theorem State.backToFiled_offChannel (s : State) (h : Handle 16) : (s.backToFiled h).offChannel = s.offChannel := by
  unfold State.backToFiled
  split <;> simp

@[simp] theorem State.callBack_offChannel (s : State) (test : Passage → Bool) : (s.callBack test).offChannel = s.offChannel := by
  simp [State.callBack, foldl_offChannel]

@[simp] theorem State.finishingTest_offChannel (s : State) : s.finishingTest.offChannel = s.offChannel := by
  simp [State.finishingTest]

@[simp] theorem State.enterClosing_offChannel (s : State) : s.enterClosing.offChannel = s.offChannel := by
  simp [State.enterClosing, foldl_offChannel]

@[simp] theorem State.closeIfSpent_offChannel (s : State) : s.closeIfSpent.offChannel = s.offChannel := by
  simp [State.closeIfSpent]

@[simp] theorem State.budgetSpent_offChannel (s : State) : s.budgetSpent.offChannel = s.offChannel := by
  simp [State.budgetSpent, foldl_offChannel]

@[simp] theorem State.holdingLeft_offChannel (s : State) : s.holdingLeft.offChannel = s.offChannel := by
  simp [State.holdingLeft]

@[simp] theorem State.marineStopPlaced_offChannel (s : State) : s.marineStopPlaced.offChannel = s.offChannel := by
  simp [State.marineStopPlaced]

end Sys2Proof.Machine
end

section
/-! SUPPORT. Condition reports and the trip of the span (R75, R197, R199, R200). -/

namespace Sys2Proof.Machine

/-! ### Reports (R197, R199, R200) -/

/-- A condition report that changes a fault's value is taken, and another changes nothing. -/
def State.reported (s : State) (f : Fin 37) (b : Bool) : State := if s.faultChanges f b then s.reportFault f b else s

/-- A report that changes nothing would give the value that stands. -/
theorem State.report_of_not_changes {s : State} {f : Fin 37} {b : Bool} (h : s.faultChanges f b = false) :
    (s.fault f).report b = s.fault f := by
  cases b <;> cases e : s.fault f <;> simp_all [State.faultChanges, State.faultEnters, State.faultLatches, FaultValue.report]

theorem State.reported_fault (s : State) (f g : Fin 37) (b : Bool) :
    (s.reported f b).fault g = if f = g then (s.fault f).report b else s.fault g := by
  unfold State.reported
  split <;> rename_i h
  · exact s.reportFault_fault f g b
  · split
    · next e => rw [report_of_not_changes (by simpa using h), e]
    · rfl

theorem State.reported_firstTrip (s : State) (f : Fin 37) (b : Bool) :
    (s.reported f b).mfs.firstTrip =
      if s.faultEnters f b && isTripFault f && s.mfs.firstTrip.isNone then some f else s.mfs.firstTrip := by
  unfold State.reported
  split <;> rename_i h
  · rfl
  · have he : s.faultEnters f b = false := by
      have hc : s.faultChanges f b = false := by simpa using h
      exact (Bool.or_eq_false_iff.1 hc).1
    rw [he]; rfl

/-- A report reaches one fault, the first trip fault and the summary alarm. -/
theorem State.reported_rest (s : State) (f : Fin 37) (b : Bool) :
    s.reported f b =
      { s with om := { s.om with command := (s.reported f b).om.command },
               mfs := { s.mfs with faults := (s.reported f b).mfs.faults, firstTrip := (s.reported f b).mfs.firstTrip } } := by
  unfold State.reported
  split
  · rfl
  · rfl

/-- A report that enters has the alarm follow the faults. -/
theorem State.reported_alarm {s : State} {f : Fin 37} {b : Bool} (h : s.faultEnters f b = true) :
    (s.reported f b).cmd 39 = (s.reported f b).mfs.alarm := by
  have hc : s.faultChanges f b = true := by simp [State.faultChanges, h]
  rw [State.reported, if_pos hc, State.reportFault_cmd, if_pos rfl]

/-! ### A trip (R75) -/

/-- A state with OM, SMC, PG, PAU and MFS blanked. -/
def State.offLive (s : State) : State :=
  { s with om := Om.reset, smc := Smc.reset, pg := Pg.reset, pau := Pau.reset, mfs := Mfs.reset }

theorem State.offLive_eq {s t : State} (h : t.offLive = s.offLive) :
    t = { s with om := t.om, smc := t.smc, pg := t.pg, pau := t.pau, mfs := t.mfs } := by
  simp only [State.offLive, State.mk.injEq] at h
  obtain ⟨h1, h2, h3, h4, -, h6, -, h8, -, -, h11, -, h13⟩ := h
  cases t
  simp_all

/-- From `s` to `t` the span has tripped: everything of it is off and at rest, and of the rest of the part at most the channel has
been called back and the comparisons looked at. -/
structure Tripped (s t : State) : Prop where
  motion : t.smc.motion = .tripped
  target : t.smc.target = none
  out : t.smc.out = 0
  phase : ∀ w, (t.tower w).phase = .atRest
  off : t.spanIsOff
  heightOver : t.smc.heightOver = s.smc.heightOver
  fault : ∀ f : Fin 37, f.val < 6 ∨ 9 < f.val → t.fault f = s.fault f
  firstTrip : t.mfs.firstTrip = s.mfs.firstTrip
  alarm : s.cmd 39 = s.mfs.alarm → t.cmd 39 = t.mfs.alarm
  rest : t = { s with om := t.om, smc := t.smc, pg := t.pg, pau := t.pau, mfs := t.mfs }
  drive : s.smc.motion ≠ .holding → t = { s with om := t.om, smc := t.smc, mfs := t.mfs }

/-- Commands turned off. -/
theorem foldl_setCmd_false (l : List (Fin 40)) (s : State) :
    (∀ f, (l.foldl (fun s f => s.setCmd f false) s).cmd f = if f ∈ l then false else s.cmd f) ∧
      l.foldl (fun s f => s.setCmd f false) s =
        { s with om := { s.om with command := (l.foldl (fun s f => s.setCmd f false) s).om.command } } := by
  induction l generalizing s with
  | nil => exact ⟨fun f => by simp, rfl⟩
  | cons x l ih =>
    obtain ⟨hc, hr⟩ := ih (s.setCmd x false)
    refine ⟨fun f => ?_, ?_⟩
    · rw [List.foldl_cons, hc, State.setCmd_cmd]
      by_cases hx : x = f <;> by_cases hf : f ∈ l <;> simp [hx, hf, eq_comm]
    · rw [List.foldl_cons]
      exact hr

/-- From `s` to `t` at most commands but the alarm, duties and SMC's records are changed, and the overtravel report stands. -/
structure DriveKept (s t : State) : Prop where
  off : t.offDrive = s.offDrive
  mfs : t.mfs = s.mfs
  heightOver : t.smc.heightOver = s.smc.heightOver
  alarm : t.cmd 39 = s.cmd 39

theorem DriveKept.trans {s t u : State} (h : DriveKept s t) (k : DriveKept t u) : DriveKept s u :=
  ⟨k.off.trans h.off, k.mfs.trans h.mfs, k.heightOver.trans h.heightOver, k.alarm.trans h.alarm⟩

theorem State.releaseDirection_kept (s : State) (t : Tower) : DriveKept s (s.releaseDirection t) := by
  have h0 : towerFn t 0 ≠ 39 := by cases t <;> decide
  have h1 : towerFn t 1 ≠ 39 := by cases t <;> decide
  unfold State.releaseDirection
  simp only []
  split
  · exact ⟨rfl, rfl, rfl, by simp [h0, h1]⟩
  · split
    · exact ⟨rfl, rfl, rfl, by simp [h0, h1]⟩
    · exact ⟨rfl, rfl, rfl, rfl⟩

theorem State.zeroSpeed_kept (s : State) : DriveKept s s.zeroSpeed := ⟨rfl, rfl, rfl, rfl⟩

/-- The state of a trip before the call-back of the channel and the comparisons. -/
def State.tripBase (s : State) : State :=
  (smcCommands.foldl (fun s f => s.setCmd f false) ((s.releaseDirection .a).releaseDirection .b).zeroSpeed).onSmc fun m =>
    { m with motion := .tripped, stop := .none, target := none, lockTimer := none, seatTimer := none,
             attendance := .stopped, towers := { a := m.towers.a.park, b := m.towers.b.park } }

theorem State.trip_eq {s : State} (h : s.smc.motion ≠ .tripped) :
    s.trip = (if s.smc.motion = .holding then s.tripBase.holdingLeft else s.tripBase).compare := by
  rw [State.trip, if_neg h]
  rfl

/-- A trip takes every command of the span and both duties away, and parks the towers. -/
theorem State.tripBase_stops (s : State) :
    DriveKept s s.tripBase ∧ s.tripBase.smc.motion = .tripped ∧ s.tripBase.smc.target = none ∧ s.tripBase.smc.out = 0 ∧
      (∀ w, (s.tripBase.tower w).phase = .atRest) ∧ s.tripBase.om.still ∧ ∀ f ∈ smcCommands, s.tripBase.cmd f = false := by
  obtain ⟨v, hv⟩ : ∃ v, v = ((s.releaseDirection .a).releaseDirection .b).zeroSpeed := ⟨_, rfl⟩
  have hkept : DriveKept s v := by
    rw [hv]
    exact ((s.releaseDirection_kept .a).trans (State.releaseDirection_kept _ .b)).trans (State.zeroSpeed_kept _)
  have hout : v.smc.out = 0 := by rw [hv]; rfl
  have hstill : v.om.still := by rw [hv]; exact Om.zeroDuties_still _
  obtain ⟨hcmd, hrest⟩ := foldl_setCmd_false smcCommands v
  rw [State.tripBase, ← hv]
  generalize smcCommands.foldl (fun s f => s.setCmd f false) v = w at hcmd hrest
  clear hv
  have h39 : ¬ (39 : Fin 40) ∈ smcCommands := by decide
  have hw : DriveKept v w :=
    ⟨(congrArg State.offDrive hrest :), (congrArg State.mfs hrest :), congrArg (·.smc.heightOver) hrest,
      (hcmd 39).trans (if_neg h39)⟩
  obtain ⟨hoff, hmfs, hheight, halarm⟩ := hkept.trans hw
  refine ⟨⟨hoff, hmfs, hheight, halarm⟩, rfl, rfl, (congrArg (·.smc.out) hrest).trans hout, fun x => ?_, fun x => ?_,
    fun f hf => (hcmd f).trans (if_pos hf)⟩
  · cases x <;> rfl
  · have hspeed : w.om.speed = v.om.speed := congrArg (·.om.speed) hrest
    show (w.om.speed.get x).staged = 0 ∧ (w.om.speed.get x).live = 0
    rw [hspeed]
    exact hstill x

theorem State.trip_tripped {s : State} (h : s.smc.motion ≠ .tripped) : Tripped s s.trip := by
  have htrip := State.trip_eq h
  obtain ⟨⟨hoff, hmfs, hheight, halarm⟩, hmotion, htarget, hout, hphase, hstill, hcmd⟩ := s.tripBase_stops
  generalize s.tripBase = u at htrip hoff hmfs hheight halarm hmotion htarget hout hphase hstill hcmd
  obtain ⟨w, hw⟩ : ∃ w, w = if s.smc.motion = .holding then u.holdingLeft else u := ⟨_, rfl⟩
  have hchannel : w.offChannel = u.offChannel := by
    rw [hw]
    split
    · exact u.holdingLeft_offChannel
    · rfl
  rw [← hw] at htrip
  have hsmc := State.offChannel_smc hchannel
  have hwm : w.mfs = s.mfs := (State.offChannel_mfs hchannel).trans hmfs
  have htw : ∀ x, w.tower x = u.tower x := fun x => by simp only [State.tower, hsmc]
  have look := w.compare_looks
  rw [← htrip] at look
  have hfault : ∀ f, w.fault f = s.fault f := fun f => by simp only [State.fault, hwm]
  refine ⟨by rw [look.motion, hsmc, hmotion], by rw [look.target, hsmc, htarget], by rw [look.out, hsmc, hout],
    fun x => by rw [look.phase, htw, hphase], ⟨fun f hf h3 h7 => ?_, fun x => ?_⟩, ?_, fun f hf => by rw [look.fault f hf, hfault],
    ?_, fun ha => look.alarm ?_, ?_, fun hh => ?_⟩
  · have hmem : f ∈ smcCommands := by
      have : ∀ f : Fin 40, f.val ≤ 11 → f.val ≠ 3 → f.val ≠ 7 → f ∈ smcCommands := by decide
      exact this f hf h3 h7
    have h39 : f ≠ 39 := by rintro rfl; simp at hf
    rw [look.cmd f h39, State.offChannel_cmd hchannel f (by omega), hcmd f hmem]
  · rw [look.speed, State.offChannel_speed hchannel]
    exact hstill x
  · rw [look.smc, hsmc, hheight]
  · rw [← hwm]
    exact congrArg (·.mfs.firstTrip) look.rest
  · rw [State.offChannel_cmd hchannel 39 (by decide), halarm, ha, hwm]
  · exact State.offLive_eq (((congrArg State.offLive look.rest :).trans (congrArg (·.1.offLive) hchannel :)).trans
      (congrArg State.offLive hoff :))
  · have hwu : w = u := by rw [hw, if_neg hh]
    exact State.offDrive_eq (by rw [look.offDrive, hwu, hoff])

end Sys2Proof.Machine
end

section
/-! SUPPORT. What the road brings the span to do: halts at displaced gate functions alone (R73, R92, R102). -/

namespace Sys2Proof.Machine

/-! ### What the road asks of the span (R73, R102) -/

/-- What the span and the faults hold, and the displaced functions: the road reaches them by a GATE fault alone. -/
def State.spanSide (s : State) : Smc × Mfs × List (Fin 40) := (s.smc, s.mfs, s.om.displaced)

@[simp] theorem spanSide_ite {c : Prop} [Decidable c] (a b : State) :
    (if c then a else b).spanSide = if c then a.spanSide else b.spanSide := by split <;> rfl

theorem State.spanSide_of_offChannel {s t : State} (h : t.offChannel = s.offChannel) : t.spanSide = s.spanSide := by
  have hd : t.om.displaced = s.om.displaced := congrArg (·.1.om.displaced) h
  simp only [State.spanSide, State.offChannel_smc h, State.offChannel_mfs h, hd]

@[simp] theorem State.onRcs_spanSide (s : State) (f : Rcs → Rcs) : (s.onRcs f).spanSide = s.spanSide := rfl
@[simp] theorem State.setRoad_spanSide (s : State) (r : Road) : (s.setRoad r).spanSide = s.spanSide := rfl
@[simp] theorem State.setGate_spanSide (s : State) (g : Gate) (r : GateRec) : (s.setGate g r).spanSide = s.spanSide := rfl
@[simp] theorem State.setCmd_spanSide (s : State) (f : Fin 40) (b : Bool) : (s.setCmd f b).spanSide = s.spanSide := rfl
@[simp] theorem State.armClearing_spanSide (s : State) : s.armClearing.spanSide = s.spanSide := rfl
@[simp] theorem State.stopTravel_spanSide (s : State) : s.stopTravel.spanSide = s.spanSide := rfl
@[simp] theorem State.issueGate_spanSide (s : State) (g : Gate) : (s.issueGate g).spanSide = s.spanSide := rfl

@[simp] theorem State.requestAspect_spanSide (s : State) (h : Head) (a : Aspect) :
    (s.requestAspect h a).spanSide = s.spanSide :=
  State.spanSide_of_offChannel (s.requestAspect_offChannel h a)

@[simp] theorem State.setTraf_spanSide (s : State) (a : Aspect) : (s.setTraf a).spanSide = s.spanSide := by
  simp [State.setTraf]

@[simp] theorem State.issueGates_spanSide (s : State) : s.issueGates.spanSide = s.spanSide :=
  foldl_keeps _ State.issueGate_spanSide _ _

@[simp] theorem State.setCauses_spanSide (s : State) (f : Rcs → Rcs) : (s.setCauses f).spanSide = s.spanSide := by
  simp [State.setCauses]

@[simp] theorem State.noteGateFaults_spanSide (s : State) : s.noteGateFaults.spanSide = s.spanSide := by
  simp [State.noteGateFaults]

@[simp] theorem State.dropCommands_spanSide (s : State) : s.dropCommands.spanSide = s.spanSide := by
  simp [State.dropCommands]

@[simp] theorem State.moveGate_spanSide (s : State) (g : Gate) (c : GateCmd) : (s.moveGate g c).spanSide = s.spanSide := by
  simp [State.moveGate]

@[simp] theorem State.flagObstructed_spanSide (s : State) (g : Gate) (c : GateCmd) :
    (s.flagObstructed g c).spanSide = s.spanSide := by
  simp [State.flagObstructed]

/-- A GATE fault's pulse displaces nothing. -/
theorem State.pulseGate_displaced (s : State) (g : Gate) : (s.pulseGate g).om.displaced = s.om.displaced :=
  congrArg (·.1.2.2.2.2.displaced) (s.pulseGate_offRoad g)

section
variable {β : Type} {V : State → β} (hV : ∀ s t : State, t.spanSide = s.spanSide → V t = V s)
  (hp : ∀ (s : State) (g : Gate), s.om.displaced ≠ [] → V (s.pulseGate g) = V s)
include hV hp

/-- A drive reaches the span by the pulses of gates whose functions are displaced alone (R92). -/
theorem State.driveGates_keeps (s : State) (l : List (Gate × GateCmd)) : V (s.driveGates l) = V s := by
  have pulses : ∀ (b : List (Gate × GateCmd)) (u : State), (b ≠ [] → u.om.displaced ≠ []) →
      V (b.foldl (fun s x => s.pulseGate x.1) u) = V u := by
    intro b
    induction b with
    | nil => exact fun _ _ => rfl
    | cons x b ih =>
      intro u hu
      have hd := hu (List.cons_ne_nil _ _)
      rw [List.foldl_cons, ih _ fun _ => by rw [State.pulseGate_displaced]; exact hd, hp _ _ hd]
  have hside : ∀ u : State, (l.foldl (fun s x => s.moveGate x.1 (s.driveTarget x.1 x.2)) u).spanSide = u.spanSide :=
    foldl_keeps _ (fun s x => s.moveGate_spanSide _ _) l
  simp only [State.driveGates]
  rw [pulses, hV _ _ (hside _), hV _ _ (foldl_keeps _ (fun s x => s.flagObstructed_spanSide _ _) l s)]
  intro hb
  obtain ⟨x, hx⟩ := List.exists_mem_of_ne_nil _ hb
  have hdis : (l.foldl (fun s x => s.flagObstructed x.1 x.2) s).om.displaced ≠ [] := fun e => by
    simp [State.driveBlocked, State.isDisplaced, e] at hx
  have hd : (State.spanSide _).2.2 = _ := congrArg (·.2.2) (hside (l.foldl (fun s x => s.flagObstructed x.1 x.2) s))
  exact fun e => hdis (hd.symm.trans e)

theorem State.driveStep_keeps (s : State) : V s.driveStep = V s := State.driveGates_keeps hV hp _ _

theorem State.nextStep_keeps {s t : State} (h : s.nextStep = some t) : V t = V s := by
  have drive : ∀ f, V (s.onRcs f).driveStep = V s := fun f =>
    (State.driveStep_keeps hV hp _).trans (hV _ _ rfl)
  unfold State.nextStep at h
  repeat' split at h
  all_goals cases h
  · exact hV _ _ rfl
  · exact drive _
  · exact drive fun m => { m with road := .barrierLowering }
  · exact hV _ _ (by simp)
  · exact drive _
  · exact drive _
  · exact hV _ _ (by simp)

theorem State.advance_keeps (s : State) : V s.advance = V s := by
  have steps : ∀ (n : Nat) (u : State), V (State.advanceSteps n u) = V u := by
    intro n
    induction n with
    | zero => exact fun _ => rfl
    | succ n ih =>
      intro u
      unfold State.advanceSteps
      split
      · rfl
      · split
        · rfl
        · next h => rw [ih, State.nextStep_keeps hV hp h]
  exact steps 6 s

theorem State.enterEntryLowering_keeps (s : State) : V s.enterEntryLowering = V s := by
  rw [State.enterEntryLowering, State.advance_keeps hV hp, State.driveStep_keeps hV hp]
  exact hV _ _ (by simp)

theorem State.headsChecked_keeps (s : State) : V s.headsChecked = V s := by
  unfold State.headsChecked
  split
  · exact State.enterEntryLowering_keeps hV hp s
  · rfl

theorem State.restartStep_keeps (s : State) : V s.restartStep = V s := by
  unfold State.restartStep
  split
  · rw [State.advance_keeps hV hp, State.headsChecked_keeps hV hp, State.driveStep_keeps hV hp]
  · rfl

/-- A change of causes reaches the span by the pulses of the restart alone. -/
theorem State.changeCauses_keeps (s : State) (f : Rcs → Rcs) : V (s.changeCauses f) = V s := by
  simp only [State.changeCauses]
  split
  · rw [State.restartStep_keeps hV hp]
    exact hV _ _ (by simp)
  · exact hV _ _ (by simp)

end

/-- With no function displaced a change of causes leaves the span and the faults as they stand. -/
theorem State.changeCauses_spanSide {s : State} (hd : s.om.displaced = []) (f : Rcs → Rcs) :
    (s.changeCauses f).spanSide = s.spanSide := by
  have h := State.changeCauses_keeps (V := fun t => if t.om.displaced = [] then some t.spanSide else none)
    (fun u t h => by
      have : t.om.displaced = u.om.displaced := congrArg (·.2.2) h
      simp only [this, h])
    (fun u g hu => by simp only [State.pulseGate_displaced, if_neg hu]) s f
  rw [if_pos hd] at h
  split at h
  · exact Option.some.inj h
  · cases h

/-! ### The trip faults as the road leaves them -/

/-- Whether the span is tripped, the condition trip faults and the first trip fault. -/
def State.tripSide (s : State) : Bool × (Fin 37 → FaultValue) × Option (Fin 37) :=
  (decide (s.smc.motion = .tripped), fun f => if f.val < 6 then s.fault f else .clear, s.mfs.firstTrip)

theorem State.tripSide_of_spanSide {s t : State} (h : t.spanSide = s.spanSide) : t.tripSide = s.tripSide := by
  have hs : t.smc = s.smc := congrArg (·.1) h
  have hm : t.mfs = s.mfs := congrArg (·.2.1) h
  simp only [State.tripSide, State.fault, hs, hm]

theorem State.tripSide_eq {s t : State} (hm : t.smc.motion = .tripped ↔ s.smc.motion = .tripped)
    (hf : ∀ f : Fin 37, f.val < 6 → t.fault f = s.fault f) (hft : t.mfs.firstTrip = s.mfs.firstTrip) :
    t.tripSide = s.tripSide := by
  have hfun : (fun f : Fin 37 => if f.val < 6 then t.fault f else .clear) = fun f => if f.val < 6 then s.fault f else .clear :=
    funext fun f => by
      split
      · exact hf f ‹_›
      · rfl
  simp only [State.tripSide, hm, hfun, hft]

theorem LooksAgain.tripSide {s t : State} (h : LooksAgain s t) : t.tripSide = s.tripSide :=
  State.tripSide_eq (by rw [h.motion]) (fun f hf => h.fault f (Or.inl hf)) (congrArg (·.mfs.firstTrip) h.rest)

/-- SMC's own changes leave the trip faults. -/
theorem State.tripSide_of_mfs {s t : State} (h : t.mfs = s.mfs) (hs : s.smc.motion ≠ .tripped) (ht : t.smc.motion ≠ .tripped) :
    t.tripSide = s.tripSide := by
  simp [State.tripSide, State.fault, h, hs, ht]

theorem State.haltUnlocking_tripSide (s : State) (hs : s.smc.motion ≠ .tripped) : s.haltUnlocking.tripSide = s.tripSide := by
  refine State.tripSide_of_mfs ?_ hs ?_
  · unfold State.haltUnlocking
    simp only []
    split <;> rfl
  · rw [s.haltUnlocking_spec.1]
    split <;> simp

/-- A halt of the span neither trips it nor releases a trip. -/
theorem State.halt_tripSide (s : State) : s.halt.tripSide = s.tripSide := by
  have moving : s.smc.motion.moving = true → (s.beginStop .halt).tripSide = s.tripSide := fun hm => by
    have hs : s.smc.motion ≠ .tripped := fun e => by rw [e] at hm; cases hm
    obtain ⟨u, hstop, -, hmfs, ⟨tw, hsmc⟩, -⟩ := s.halt_stops
    have hrest : u.checkRest = if u.bothAtRest then u.enterHalted else u := by simp [State.checkRest, hsmc, hm]
    rw [hstop, (State.compare_looks _).tripSide, hrest]
    split
    · exact State.tripSide_of_mfs hmfs hs (by simp [State.enterHalted])
    · exact State.tripSide_of_mfs hmfs hs (by rw [hsmc]; exact hs)
  unfold State.halt
  split <;> rename_i hm
  case h_1 | h_2 | h_3 =>
    split
    case h_1 | h_2 => exact moving (by rw [hm]; rfl)
    all_goals rfl
  case h_4 =>
    rw [State.tripSide_of_spanSide (State.spanSide_of_offChannel s.enterHalted.holdingLeft_offChannel)]
    exact State.tripSide_of_mfs rfl (by simp [hm]) (by simp [State.enterHalted])
  case h_5 => exact s.haltUnlocking_tripSide (by simp [hm])
  case h_6 => exact State.tripSide_of_mfs rfl (by simp [hm]) (by simp [State.haltLocking])
  all_goals rfl

theorem State.haltIn_tripSide (s : State) (l : List Motion) : (s.haltIn l).tripSide = s.tripSide := by
  unfold State.haltIn
  split
  · exact s.halt_tripSide
  · rfl

/-- A GATE fault's report is none of a trip fault, and at most halts the span. -/
theorem State.reportGate_tripSide (s : State) (g : Gate) (b : Bool) : (s.reportGate g b).tripSide = s.tripSide := by
  have hg : 12 ≤ (gateFault g).val := by simp [gateFault]
  have hreport : (s.reportFault (gateFault g) b).tripSide = s.tripSide := by
    have hf : ∀ f : Fin 37, f.val < 6 → (s.reportFault (gateFault g) b).fault f = s.fault f := fun f hf => by
      rw [State.reportFault_fault, if_neg (by omega)]
    have hft : (s.reportFault (gateFault g) b).mfs.firstTrip = s.mfs.firstTrip := by
      have hn : isTripFault (gateFault g) = false := by simp [isTripFault]; omega
      have hr : (s.reportFault (gateFault g) b).mfs.firstTrip =
          if s.faultEnters (gateFault g) b && isTripFault (gateFault g) && s.mfs.firstTrip.isNone then some (gateFault g)
          else s.mfs.firstTrip := rfl
      rw [hr, hn]; simp
    exact State.tripSide_eq (Iff.of_eq rfl) hf hft
  have hchange : (if s.faultChanges (gateFault g) b then (s.reportFault (gateFault g) b).noteGateFaults else s).tripSide =
      s.tripSide := by
    split
    · rw [State.tripSide_of_spanSide (State.noteGateFaults_spanSide _), hreport]
    · rfl
  have enters : ∀ (c : Prop) [Decidable c] (u : State), u.tripSide = s.tripSide →
      (if c then u.smcGateFault else u).tripSide = s.tripSide := fun c _ u hu => by
    split
    · exact (u.haltIn_tripSide _).trans hu
    · exact hu
  exact enters _ _ hchange

/-- Whatever a change of causes restarts, it neither trips the span nor releases a trip, and no condition trip fault changes. -/
theorem State.changeCauses_tripSide (s : State) (f : Rcs → Rcs) : (s.changeCauses f).tripSide = s.tripSide :=
  State.changeCauses_keeps (fun _ _ h => State.tripSide_of_spanSide h)
    (fun u g _ => by rw [State.pulseGate, State.reportGate_tripSide, State.reportGate_tripSide]) s f

end Sys2Proof.Machine
end

section
/-! The E-stop loop latches, zeroes the drives and trips (R14 to R16, R75, R76). -/

namespace Sys2Proof.Machine

/-! ### A trip fault's report (R76) -/

theorem State.mfs_alarm_of_fault {s : State} {f : Fin 37} (h : s.fault f ≠ .clear) : s.mfs.alarm = true := by
  rw [Mfs.alarm, List.any_eq_true]
  exact ⟨s.fault f, by simp [State.fault], by simpa using h⟩

/-- ESTOP and OVERTRAVEL trip in every motion state (R75, R78). -/
theorem tripsIn_always {f : Fin 37} (hf : f.val < 3) (m : Motion) : tripsIn f m = true := by
  simp only [tripsIn, isTripFault]
  rw [if_neg (by simp; omega)]
  simp; omega

/-- From `s` to `t` the fault `f` has become ACTIVE and the span has tripped, or was tripped. -/
structure TripTaken (f : Fin 37) (s t : State) : Prop where
  motion : t.smc.motion = .tripped
  stops : s.smc.motion ≠ .tripped → t.spanIsOff ∧ (∀ w, (t.tower w).phase = .atRest) ∧ t.smc.target = none ∧ t.smc.out = 0
  heightOver : t.smc.heightOver = s.smc.heightOver
  still : s.om.still → t.om.still
  fault : ∀ g : Fin 37, g.val < 6 → t.fault g = if f = g then .active else s.fault g
  firstTrip : t.mfs.firstTrip = if s.mfs.firstTrip = none then some f else s.mfs.firstTrip
  alarm : t.cmd 39 = true
  live : t.offLive = s.offLive

theorem State.tripReport_eq {f : Fin 37} (hf : f.val < 3) (s : State) (b : Bool) :
    s.tripReport f b = if s.faultEnters f b = true then (s.reported f b).trip else s.reported f b := by
  simp only [State.tripReport, tripsIn_always hf, Bool.and_true, State.reported]

theorem State.reported_offLive (s : State) (f : Fin 37) (b : Bool) : (s.reported f b).offLive = s.offLive :=
  (congrArg State.offLive (s.reported_rest f b) :)

theorem State.reported_eq (s : State) (f : Fin 37) (b : Bool) :
    s.reported f b = { s with om := (s.reported f b).om, mfs := (s.reported f b).mfs } := by
  unfold State.reported
  split <;> rfl

theorem State.tripReport_tripTaken {f : Fin 37} (hf : f.val < 3) {s : State} {b : Bool} (h : s.faultEnters f b = true) :
    TripTaken f s (s.tripReport f b) := by
  have hb : b = true := by
    cases b
    · simp [State.faultEnters] at h
    · rfl
  subst hb
  rw [State.tripReport_eq hf, if_pos h]
  obtain ⟨v, hv⟩ : ∃ v, v = s.reported f true := ⟨_, rfl⟩
  have hsmc : v.smc = s.smc := by rw [hv]; exact (congrArg State.smc (s.reported_rest f true) :)
  have hstill : v.om.speed = s.om.speed := by rw [hv]; exact (congrArg (·.om.speed) (s.reported_rest f true) :)
  have hfault : ∀ g, v.fault g = if f = g then .active else s.fault g := fun g => by
    rw [hv, State.reported_fault]; rfl
  have hft : v.mfs.firstTrip = if s.mfs.firstTrip = none then some f else s.mfs.firstTrip := by
    have ht : isTripFault f = true := by simp [isTripFault]; omega
    rw [hv, State.reported_firstTrip, h, ht]
    simp
  have halarm : v.cmd 39 = v.mfs.alarm := by rw [hv]; exact State.reported_alarm h
  have hlive : v.offLive = s.offLive := by rw [hv]; exact s.reported_offLive f true
  rw [← hv]
  have alarmed : ∀ t : State, t.fault f = .active → t.mfs.alarm = true := fun t ht =>
    State.mfs_alarm_of_fault (f := f) (by rw [ht]; decide)
  by_cases hm : v.smc.motion = .tripped
  · rw [State.trip, if_pos hm]
    exact ⟨hm, fun hn => absurd (hsmc ▸ hm) hn, by rw [hsmc], fun hs w => by rw [hstill]; exact hs w, fun g _ => hfault g, hft,
      halarm.trans (alarmed v (by rw [hfault, if_pos rfl])), hlive⟩
  · have ht := State.trip_tripped hm
    refine ⟨ht.motion, fun _ => ⟨ht.off, ht.phase, ht.target, ht.out⟩, by rw [ht.heightOver, hsmc], fun _ => ht.off.2,
      fun g hg => by rw [ht.fault g (Or.inl hg), hfault], by rw [ht.firstTrip, hft], ?_, ?_⟩
    · rw [ht.alarm halarm]
      exact alarmed _ (by rw [ht.fault f (Or.inl (by omega)), hfault, if_pos rfl])
    · exact (congrArg State.offLive ht.rest :).trans hlive

/-- Another report of a trip fault is noted alone. -/
theorem State.tripReport_of_not_enters {f : Fin 37} (hf : f.val < 3) {s : State} {b : Bool} (h : s.faultEnters f b = false) :
    s.tripReport f b = s.reported f b := by
  rw [State.tripReport_eq hf, h]
  rfl

/-- The value of a fault after its report, whether or not the report trips. -/
theorem State.tripReport_fault {f : Fin 37} (hf : f.val < 3) (s : State) (b : Bool) (g : Fin 37) (hg : g.val < 6) :
    (s.tripReport f b).fault g = if f = g then (s.fault f).report b else s.fault g := by
  cases h : s.faultEnters f b with
  | true =>
    rw [(State.tripReport_tripTaken hf h).fault g hg]
    cases b
    · simp [State.faultEnters] at h
    · rfl
  | false => rw [State.tripReport_of_not_enters hf h, State.reported_fault]

/-! ### The E-stop loop (R14 to R16) -/

section Readings
variable {s t : State} (h : t.offSpan = s.offSpan)
include h

theorem State.offSpan_latch : t.om.latch = s.om.latch := congrArg (·.2.2.2.2.2.latch) h
theorem State.offSpan_loopClosed : t.om.loopClosed = s.om.loopClosed := congrArg (·.2.2.2.2.2.loopClosed) h
theorem State.offSpan_displaced : t.om.displaced = s.om.displaced := congrArg (·.2.2.2.2.2.displaced) h

end Readings

section Readings
variable {s t : State} (h : t.stores = s.stores)
include h

theorem State.stores_cs : t.cs = s.cs := congrArg (·.2.1) h
theorem State.stores_iq : t.iq = s.iq := congrArg (·.2.2.1) h
theorem State.stores_line (l : Fin 48) : t.line l = s.line l := by simp only [State.line, State.stores_iq h]
theorem State.stores_isQualified : t.isQualified = s.isQualified := by simp only [State.isQualified, State.stores_iq h]
theorem State.stores_configured : t.configured = s.configured := by simp only [State.configured, State.stores_cs h]

end Readings

/-- While the latch is set the drive functions are off (R14). -/
theorem Om.effective_of_latch {o : Om} (h : o.latch = true) {f : Fin 40} (hf : f.val ≤ 7) : o.effective f = false := by
  rw [Om.effective, h, if_pos (by simp [rank_eq_one_iff, hf])]

/-- The line of a drive function stands at its inactive level while the latch is set (R11). -/
theorem Om.energised_of_latch {o : Om} (h : o.latch = true) {l : Fin 48} {f : Fin 40} (hw : o.winner[l] = some f)
    (hf : f.val ≤ 7) : o.energised l = o.inverted[l] := by
  rw [Om.energised, Om.lineActive_eq_any, hw, Option.any_some, Om.effective_of_latch h hf, Bool.false_bne]

/-- The opening of the loop in CONFIGURED: the latch sets with both duties at 0, and ESTOP is reported present. -/
theorem State.loopOpens_configured {s : State} (hc : s.configured = true) (hl : s.om.latch = false) :
    s.loopOpens =
      (({ s with om := { s.om.zeroDuties with loopClosed := false, latch := true } } : State).tripReport 0 true).compare := by
  have h1 : (s.onOm fun o => { o with loopClosed := false }).configured = true := hc
  have h2 : (s.onOm fun o => { o with loopClosed := false }).setLatch =
      { s with om := { s.om.zeroDuties with loopClosed := false, latch := true } } := by
    rw [State.setLatch, if_neg (by simp [State.onOm, hl])]
    rfl
  have h3 : ({ s with om := { s.om.zeroDuties with loopClosed := false, latch := true } } : State).configured = true := hc
  rw [State.loopOpens]
  simp only [h1, if_true, h2]
  rw [State.reportEstop, if_pos h3]
  rfl

/-- The delivery of line 0's event (R1). -/
theorem State.deliverLine_zero (s : State) :
    s.deliverLine 0 = (s.changeCauses fun m => { m with causeLoop := !s.line 0 }).reportEstop := rfl

/-- R14, R15, R75: the opening of the loop. -/
theorem State.loopOpens_trips {s : State} (hc : s.configured = true) (hl : s.om.latch = false) (hf : s.fault 0 ≠ .active) :
    s.loopOpens.offLive = s.offLive ∧ s.loopOpens.om.loopClosed = false ∧ s.loopOpens.om.latch = true ∧
      s.loopOpens.fault 0 = .active ∧ s.loopOpens.smc.motion = .tripped ∧ s.loopOpens.cmd 39 = true ∧ s.loopOpens.om.still := by
  rw [State.loopOpens_configured hc hl]
  generalize hu : ({ s with om := { s.om.zeroDuties with loopClosed := false, latch := true } } : State) = u
  have hlive : u.offLive = s.offLive := by rw [← hu]; rfl
  have hfault : u.fault 0 = s.fault 0 := by rw [← hu]; rfl
  have hlatch : u.om.latch = true := by rw [← hu]
  have hclosed : u.om.loopClosed = false := by rw [← hu]
  have hstill : u.om.still := by rw [← hu]; exact Om.zeroDuties_still _
  have ht := State.tripReport_tripTaken (f := 0) (b := true) (by decide) (s := u) (by simp [State.faultEnters, hfault, hf])
  have hoff := (State.compare_offSpan _).trans (u.tripReport_offSpan 0 true)
  have look := (u.tripReport 0 true).compare_looks
  have active : (u.tripReport 0 true).compare.fault 0 = .active := by
    rw [look.fault 0 (by decide), ht.fault 0 (by decide), if_pos rfl]
  have alarm : (u.tripReport 0 true).compare.cmd 39 = true := by
    have hn : (u.tripReport 0 true).fault 0 ≠ .clear := by rw [ht.fault 0 (by decide), if_pos rfl]; decide
    rw [look.alarm (by rw [ht.alarm, State.mfs_alarm_of_fault hn])]
    exact State.mfs_alarm_of_fault (f := 0) (by rw [active]; decide)
  refine ⟨(congrArg State.offLive look.rest :).trans (ht.live.trans hlive), (State.offSpan_loopClosed hoff).trans hclosed,
    (State.offSpan_latch hoff).trans hlatch, active, look.motion.trans ht.motion, alarm, fun w => ?_⟩
  rw [look.speed]
  exact ht.still hstill w

/-- R15: the closing of the loop reports ESTOP gone. -/
theorem State.loopCloses_configured {s : State} (hc : s.configured = true) (h : s.iq.qualified = none ∨ s.line 0 = true) :
    s.loopCloses = (s.onOm fun o => { o with loopClosed := true }).reported 0 false := by
  have h1 : (s.onOm fun o => { o with loopClosed := true }).configured = true := hc
  have h2 : (s.onOm fun o => { o with loopClosed := true }).isEstop = false := by
    have hq : (s.isQualified && !s.line 0) = false := by
      obtain h | h := h <;> simp [State.isQualified, h]
    exact hq
  rw [State.loopCloses]
  simp only [h1, if_true]
  rw [State.reportEstop, if_pos h1, h2]
  exact State.tripReport_of_not_enters (by decide) rfl

/-- Line 0 qualifies (R3): ESTOP is reported as the terminal and the line show it, out of a state with the faults, the stores and the
latch of before. -/
theorem State.sample_of_qualifies_zero {s : State} {lines : BitVec 48} {level : Bool} (lamps : BitVec 15)
    (hc : s.configured = true) (h : s.qualifies lines 0 level) :
    ∃ u : State, s.sample lines lamps = u.tripReport 0 (!s.om.loopClosed || !level) ∧ u.om.latch = s.om.latch ∧
      u.om.loopClosed = s.om.loopClosed ∧ u.tripSide = s.tripSide ∧ (s.om.displaced = [] → SmcStands s u) := by
  obtain ⟨q, hq, -, hs⟩ := State.sample_of_qualifies lamps (by decide) (by decide) h
  generalize hv : (s.onIq fun i =>
    { i with samples := addSample i.samples (s.sampleColumn lines), qualified := some q, sensed := some lamps,
             samplingTimer := some 14400 }) = v at hs
  have look := v.compare_looks
  have hline : v.compare.line 0 = level := by rw [look.rest, ← hv]; exact hq
  have hqual : v.compare.isQualified = true := by rw [look.rest, ← hv]; rfl
  have hconf : v.compare.configured = true := by rw [look.rest, ← hv]; exact hc
  have hoff : v.compare.offSpan = s.offSpan := by rw [State.compare_offSpan, ← hv]; rfl
  have hside : v.compare.tripSide = s.tripSide := by rw [look.tripSide, ← hv]; rfl
  have hstands : SmcStands s v.compare := by
    have hsv : SmcStands s v := by rw [← hv]; exact ⟨rfl, fun _ => rfl⟩
    exact hsv.trans look.stands
  rw [State.deliverLine_zero] at hs
  generalize hu : (v.compare.changeCauses fun m => { m with causeLoop := !v.compare.line 0 }) = u at hs
  have hstores : u.stores = v.compare.stores := by rw [← hu, State.changeCauses_stores]
  have hroad : u.offRoad.1 = v.compare.offRoad.1 := by rw [← hu, State.changeCauses_offRoad]; rfl
  have hlatch : u.om.latch = v.compare.om.latch := congrArg (·.2.2.2.2.latch) hroad
  have hclosed : u.om.loopClosed = v.compare.om.loopClosed := congrArg (·.2.2.2.2.loopClosed) hroad
  have hest : u.isEstop = (!s.om.loopClosed || !level) := by
    rw [State.isEstop, State.stores_isQualified hstores, State.stores_line hstores, hclosed, State.offSpan_loopClosed hoff, hline,
      hqual, Bool.true_and]
  refine ⟨u, ?_, hlatch.trans (State.offSpan_latch hoff), hclosed.trans (State.offSpan_loopClosed hoff), ?_, fun hd => ?_⟩
  · rw [hs, State.reportEstop, if_pos (by rw [State.stores_configured hstores, hconf]), hest]
  · rw [← hu, State.changeCauses_tripSide, hside]
  · have hd' : v.compare.om.displaced = [] := (State.offSpan_displaced hoff).trans hd
    have hspan := State.changeCauses_spanSide hd' fun m => { m with causeLoop := !v.compare.line 0 }
    rw [hu] at hspan
    have hsmc : u.smc = v.compare.smc := congrArg (·.1) hspan
    exact hstands.trans ⟨by rw [hsmc], fun w => by simp only [State.tower, hsmc]⟩

theorem State.displaced_eq_nil {s : State} (h : ∀ f : Fin 40, s.isDisplaced f = false) : s.om.displaced = [] :=
  List.eq_nil_iff_forall_not_mem.2 fun f hf => by
    have := h f
    simp [State.isDisplaced, hf] at this

/-- Settles O37. -/
theorem estopLoopLatchesAndTrips : Obligations.EstopLoopLatchesAndTrips := by
  intro s
  refine ⟨fun hc hl hf => ⟨_, rfl, ?_⟩, fun hc hclear => ⟨_, rfl, ?_⟩, fun hc => ⟨?_, ?_⟩,
    fun lines lamps level hc hq => ⟨_, rfl, ?_⟩⟩
  · obtain ⟨hlive, hclosed, hlatch, hfault, hmotion, halarm, hstill⟩ := State.loopOpens_trips hc hl hf
    exact ⟨State.offLive_eq hlive, hclosed, hlatch, hfault, hmotion, halarm, fun f => Om.effective_of_latch hlatch,
      fun l f => Om.energised_of_latch hlatch, hstill⟩
  · rw [State.loopCloses_configured hc hclear]
    have hrest := State.reported_rest (s.onOm fun o => { o with loopClosed := true }) 0 false
    refine ⟨congrArg (·.om.loopClosed) hrest, congrArg (·.om.latch) hrest, ?_, ?_⟩
    · rw [State.reported_fault, if_pos rfl]
      show (s.fault 0).report false = _
      cases s.fault 0 <;> rfl
    · exact State.reported_eq (s.onOm fun o => { o with loopClosed := true }) 0 false
  · have h1 : (s.onOm fun o => { o with loopClosed := false }).configured = false := hc
    show Host.Outcome.next s.loopOpens = _
    rw [State.loopOpens]
    simp only [h1, Bool.false_eq_true, if_false]
    rfl
  · have h1 : (s.onOm fun o => { o with loopClosed := true }).configured = false := hc
    show Host.Outcome.next s.loopCloses = _
    rw [State.loopCloses]
    simp only [h1, Bool.false_eq_true, if_false]
    rfl
  · obtain ⟨u, hu, hlatch, hclosed, hside, hstands⟩ := State.sample_of_qualifies_zero lamps hc hq
    have hoff := u.tripReport_offSpan 0 (!s.om.loopClosed || !level)
    have hfault : u.fault 0 = s.fault 0 := congrFun (congrArg (·.2.1) hside) 0
    have hfirst : u.mfs.firstTrip = s.mfs.firstTrip := congrArg (·.2.2) hside
    have htripped : u.smc.motion = .tripped ↔ s.smc.motion = .tripped := by
      simpa [State.tripSide] using congrArg (·.1) hside
    rw [hu]
    refine ⟨(State.offSpan_latch hoff).trans hlatch, (State.offSpan_loopClosed hoff).trans hclosed, ?_, fun hp hn => ?_,
      fun hp hd => ?_⟩
    · rw [State.tripReport_fault (by decide) _ _ 0 (by decide), if_pos rfl, hfault]
    · have henters : u.faultEnters 0 (!s.om.loopClosed || !level) = true := by
        rw [hp]; simp [State.faultEnters, hfault, hn]
      have ht := State.tripReport_tripTaken (by decide) henters
      exact ⟨by rw [ht.firstTrip, hfirst], ht.motion, fun hm => ht.stops (mt htripped.1 hm)⟩
    · have hne : u.faultEnters 0 (!s.om.loopClosed || !level) = false := by
        obtain hp | hp := hp
        · rw [hp]; rfl
        · simp [State.faultEnters, hfault, hp]
      rw [State.tripReport_of_not_enters (by decide) hne]
      have hrest := u.reported_rest 0 (!s.om.loopClosed || !level)
      have hsmc : (u.reported 0 (!s.om.loopClosed || !level)).smc = u.smc := (congrArg State.smc hrest :)
      exact (hstands (State.displaced_eq_nil hd)).trans ⟨by rw [hsmc], fun w => by simp only [State.tower, hsmc]⟩

end Sys2Proof.Machine
end

section
/-! SUPPORT. What a line's event does to the gates' positions and the holds, and several lines' events in whatever order (R89, R179, R180). -/

namespace Sys2Proof.Machine

/-! ### What a line's event does to the gates' positions (R89) -/

/-- Where the gates are. -/
def State.poses (s : State) : Gate → GatePos := fun g => (s.gate g).pos

theorem State.poses_of_offRoad {s t : State} (h : t.offRoad = s.offRoad) : t.poses = s.poses := congrArg (·.2.1) h

theorem State.poses_of_rcs {s t : State} (h : t.rcs = s.rcs) : t.poses = s.poses := by
  funext g
  simp only [State.poses, State.gate, h]

theorem State.poses_of_offSpan {s t : State} (h : t.offSpan = s.offSpan) : t.poses = s.poses :=
  State.poses_of_rcs (congrArg (·.1) h)

theorem State.setGate_poses (s : State) (g : Gate) (p : GatePos) (x : Gate) :
    (s.setGate g { s.gate g with pos := p }).poses x = if g = x then p else s.poses x := by
  simp only [State.poses, State.gate, State.setGate, State.onRcs_rcs, PerGate.get_set]
  split <;> rfl

/-- The gate that a line proves (R1). -/
def provedGate (l : Fin 48) : Option Gate :=
  match l.val with
  | 15 | 16 => some .w1
  | 17 | 18 => some .w2
  | 19 | 20 => some .w3
  | 21 | 22 => some .w4
  | 23 | 24 => some .b1
  | 25 | 26 => some .b2
  | _ => none

theorem provedGate_eq_some : ∀ (g : Gate) (l : Fin 48), provedGate l = some g ↔ l = gateUpLine g ∨ l = gateDownLine g := by
  intro g
  cases g <;> decide

theorem State.changeCauses_poses (s : State) (b : Bool) : (s.changeCauses fun m => { m with causeLoop := b }).poses = s.poses :=
  congrArg (·.2.1) (s.changeCauses_offRoad _)

/-- RCS's part of a line's event writes the position of the gate that the line proves. -/
theorem State.rcsLine_poses (s : State) (l : Fin 48) (b : Bool) (x : Gate) :
    (s.rcsLine l b).poses x = if provedGate l = some x then s.provenPos x else s.poses x := by
  have proves : ∀ g : Gate, (s.provingEvent g).poses x = if some g = some x then s.provenPos x else s.poses x := fun g => by
    have h : (s.provingEvent g).poses = _ := congrArg (·.2.1) (s.provingEvent_offRoad g)
    rw [h]
    refine (s.setGate_poses g _ x).trans ?_
    by_cases e : g = x <;> simp [e]
  unfold State.rcsLine provedGate
  split <;> rename_i hl
  case h_1 => simp only [hl]; rw [State.changeCauses_poses]; rfl
  case h_2 | h_3 | h_4 | h_5 | h_6 | h_7 | h_8 | h_9 | h_10 | h_11 | h_12 | h_13 => simp only [hl]; exact proves _
  case h_14 | h_15 | h_16 | h_17 => simp only [hl]; exact congrFun (State.poses_of_offRoad (s.zoneEvent_offRoad _)) x
  case h_18 | h_19 => simp only [hl]; exact congrFun (State.poses_of_offRoad s.loopEvent_offRoad) x
  case h_20 | h_21 => simp only [hl]; exact congrFun (State.poses_of_offRoad (by simp)) x
  case h_22 => split <;> simp_all

theorem State.placeFixed_rcs (s : State) (i : Fin 4) : (s.placeFixed i).rcs = s.rcs := rfl

theorem State.retireFixed_rcs (s : State) (i : Fin 4) : (s.retireFixed i).rcs = s.rcs := by
  unfold State.retireFixed
  split <;> rfl

theorem State.setFixed_poses (s : State) (l : List (Fin 4)) (on : Bool) : (s.setFixed l on).poses = s.poses := by
  unfold State.setFixed
  split
  · rw [foldl_keeps (F := State.poses) _ fun s i => State.poses_of_offRoad (s.deliverPlaced_offRoad _ _),
      foldl_keeps (F := State.poses) _ fun s i => State.poses_of_rcs (s.placeFixed_rcs i)]
  · rw [foldl_keeps (F := State.poses) _ fun s i => State.poses_of_offRoad (s.deliverReleased_offRoad _),
      foldl_keeps (F := State.poses) _ fun s i => State.poses_of_rcs (s.retireFixed_rcs i)]

theorem State.htLine_poses (s : State) (l : Fin 48) (b : Bool) : (s.htLine l b).poses = s.poses := by
  unfold State.htLine
  split
  case h_4 => rfl
  all_goals exact s.setFixed_poses _ _

/-- What follows RCS and HT in a line's event: the beams, ESTOP and SMC. -/
def State.deliverRest (s : State) (l : Fin 48) (b : Bool) : State :=
  let s := if l = 33 then s.beamEvent .u b else if l = 34 then s.beamEvent .d b else s
  (if l = 0 then s.reportEstop else s).smcLine l b

theorem State.deliverLine_eq (s : State) (l : Fin 48) :
    s.deliverLine l = ((s.rcsLine l (s.line l)).htLine l (s.line l)).deliverRest l (s.line l) := rfl

theorem State.deliverRest_offSpan (s : State) (l : Fin 48) (b : Bool) : (s.deliverRest l b).offSpan = s.offSpan := by
  simp [State.deliverRest]

/-- A line's event writes the position of the gate that the line proves (R89). -/
theorem State.deliverLine_poses (s : State) (l : Fin 48) (x : Gate) :
    (s.deliverLine l).poses x = if provedGate l = some x then s.provenPos x else s.poses x := by
  rw [State.deliverLine_eq, State.poses_of_offSpan (State.deliverRest_offSpan _ _ _), State.htLine_poses, State.rcsLine_poses]

/-! ### What a line's event does to the holds (R179, R180) -/

/-- The line of a fixed slot. -/
def slotLine (i : Fin 12) : Fin 48 := if i = 0 then 43 else if i = 1 then 44 else 37

/-- The record of a fixed slot's line. -/
def lineHold (i : Fin 12) : Hold :=
  { owner := if i.val ≤ 1 then .panel else .maintenance
    kind := if i = 0 then .noRaise else if i = 1 then .noLower else if i = 2 then .noMotion else .keepClosed
    reason := 0, age := 0 }

/-- A fixed slot with its line at a level. -/
def Slot.follow (r : Slot Hold) (i : Fin 12) (on : Bool) : Slot Hold :=
  if on then { gen := r.gen, record := some (lineHold i) }
  else if r.record.isSome then { gen := (r.gen + 1) % 256, record := none } else r

theorem Slot.follow_follow (r : Slot Hold) (i : Fin 12) (on : Bool) : (r.follow i on).follow i on = r.follow i on := by
  cases on <;> cases h : r.record <;> simp [Slot.follow, h]

/-- From `s` to `t` the slots of a list follow a level, and nothing else of HT is changed. -/
structure Follows (l : List (Fin 12)) (on : Bool) (s t : State) : Prop where
  slot : ∀ i : Fin 12, t.ht.slots[i] = if i ∈ l then (s.ht.slots[i]).follow i on else s.ht.slots[i]
  pointer : t.ht.pointer = s.ht.pointer
  clock : t.ht.clock = s.ht.clock

theorem Follows.of_ht {l : List (Fin 12)} {on : Bool} {s t u : State} (h : Follows l on s t) (k : u.ht = t.ht) :
    Follows l on s u := ⟨fun i => by rw [k, h.slot], by rw [k, h.pointer], by rw [k, h.clock]⟩

theorem Follows.cons {l : List (Fin 12)} {on : Bool} {i : Fin 12} {s t u : State} (h : Follows [i] on s t)
    (k : Follows l on t u) : Follows (i :: l) on s u :=
  ⟨fun j => by
    rw [k.slot, h.slot]
    by_cases hj : j = i <;> by_cases hl : j ∈ l <;> simp [hj, hl, Slot.follow_follow],
    k.pointer.trans h.pointer, k.clock.trans h.clock⟩

theorem Follows.nil (on : Bool) (s : State) : Follows [] on s s := ⟨fun _ => rfl, rfl, rfl⟩

theorem State.placeFixed_follows (s : State) (i : Fin 4) : Follows [fixedIndex i] true s (s.placeFixed i) := by
  have hrec : ∀ i : Fin 4, ({ owner := (fixedSlot i).1, kind := (fixedSlot i).2, reason := 0, age := 0 } : Hold) =
      lineHold (fixedIndex i) := by decide
  refine ⟨fun j => ?_, rfl, rfl⟩
  simp only [State.placeFixed, State.onHt_ht, Ht.put, hrec, List.mem_singleton, Slot.follow, if_true]
  by_cases h : j = fixedIndex i
  · subst h; simp
  · have hv : (fixedIndex i).val ≠ j.val := fun e => h (Fin.ext e.symm)
    simp [h, hv]

theorem State.retireFixed_follows (s : State) (i : Fin 4) : Follows [fixedIndex i] false s (s.retireFixed i) := by
  unfold State.retireFixed
  split <;> rename_i hr
  · refine ⟨fun j => ?_, rfl, rfl⟩
    simp only [State.onHt_ht, Ht.retire, List.mem_singleton, Slot.follow]
    by_cases h : j = fixedIndex i
    · subst h
      have hr' : (s.ht.slots[(fixedIndex i).val]).record.isSome = true := hr
      simp [hr']
    · have hv : (fixedIndex i).val ≠ j.val := fun e => h (Fin.ext e.symm)
      simp [h, hv]
  · refine ⟨fun j => ?_, rfl, rfl⟩
    by_cases h : j = fixedIndex i
    · subst h
      rw [if_pos (List.mem_singleton.2 rfl), Slot.follow, if_neg Bool.false_ne_true, if_neg hr]
    · simp [h]

theorem foldl_follows {on : Bool} (f : State → Fin 4 → State) (h : ∀ s i, Follows [fixedIndex i] on s (f s i)) (l : List (Fin 4))
    (s : State) : Follows (l.map fixedIndex) on s (l.foldl f s) := by
  induction l generalizing s with
  | nil => exact .nil on s
  | cons i l ih => exact (h s i).cons (ih _)

theorem State.ht_of_offRoad {s t : State} (h : t.offRoad = s.offRoad) : t.ht = s.ht := congrArg (·.1.1) h

/-- The fixed slots of a list follow their lines. -/
theorem State.setFixed_follows (s : State) (l : List (Fin 4)) (on : Bool) : Follows (l.map fixedIndex) on s (s.setFixed l on) := by
  cases on
  · exact (foldl_follows _ State.retireFixed_follows l s).of_ht
      (foldl_keeps (F := State.ht) _ (fun s i => State.ht_of_offRoad (s.deliverReleased_offRoad _)) _ _)
  · exact (foldl_follows _ State.placeFixed_follows l s).of_ht
      (foldl_keeps (F := State.ht) _ (fun s i => State.ht_of_offRoad (s.deliverPlaced_offRoad _ _)) _ _)

/-- The slots whose line is `l`. -/
def lineSlots (l : Fin 48) : List (Fin 12) := (List.finRange 12).filter fun i => i.val < 4 && slotLine i = l

/-- HT's part of a line's event: the fixed slots of the line follow it. -/
theorem State.htLine_follows (s : State) (l : Fin 48) (b : Bool) : Follows (lineSlots l) b s (s.htLine l b) := by
  unfold State.htLine
  split <;> rename_i hl
  case h_1 =>
    have hs : lineSlots l = [(0 : Fin 4)].map fixedIndex := by rw [show l = 43 from Fin.ext hl]; decide
    exact hs ▸ s.setFixed_follows [0] b
  case h_2 =>
    have hs : lineSlots l = [(1 : Fin 4)].map fixedIndex := by rw [show l = 44 from Fin.ext hl]; decide
    exact hs ▸ s.setFixed_follows [1] b
  case h_3 =>
    have hs : lineSlots l = [(2 : Fin 4), 3].map fixedIndex := by rw [show l = 37 from Fin.ext hl]; decide
    exact hs ▸ s.setFixed_follows [2, 3] b
  case h_4 _ h43 h44 =>
    have none : ∀ l : Fin 48, l.val ≠ 43 → l.val ≠ 44 → l.val ≠ 37 → lineSlots l = [] := by decide
    rw [none l h43 h44 hl]
    exact .nil b s

theorem State.rcsLine_ht (s : State) (l : Fin 48) (b : Bool) : (s.rcsLine l b).ht = s.ht := by
  unfold State.rcsLine
  split
  case h_1 => exact (congrArg (·.1.1) (s.changeCauses_offRoad _) :)
  case h_2 | h_3 | h_4 | h_5 | h_6 | h_7 | h_8 | h_9 | h_10 | h_11 | h_12 | h_13 =>
    exact (congrArg (·.1.1) (s.provingEvent_offRoad _) :)
  all_goals exact State.ht_of_offRoad (by simp)

/-- A line's event has the fixed slots of the line follow it (R179, R180). -/
theorem State.deliverLine_follows (s : State) (l : Fin 48) : Follows (lineSlots l) (s.line l) s (s.deliverLine l) := by
  have h := (s.rcsLine l (s.line l)).htLine_follows l (s.line l)
  have hrest : (s.deliverLine l).ht = ((s.rcsLine l (s.line l)).htLine l (s.line l)).ht := by
    rw [State.deliverLine_eq]
    exact congrArg (·.2.1) (State.deliverRest_offSpan _ _ _)
  have hrcs := s.rcsLine_ht l (s.line l)
  exact ⟨fun i => by rw [hrest, h.slot, hrcs], by rw [hrest, h.pointer, hrcs], by rw [hrest, h.clock, hrcs]⟩

/-! ### The events of several lines, in whatever order -/

/-- A reading that the event of each line of a kind changes in one way, and that of another line leaves. -/
theorem foldl_deliverLine {β : Type} {F : State → β} {p : Fin 48 → Prop} [DecidablePred p] {e : β → β} {s : State}
    (he : ∀ x, e (e x) = e x)
    (hstep : ∀ (u : State) (l : Fin 48), u.stores = s.stores → F (u.deliverLine l) = if p l then e (F u) else F u)
    (ls : List (Fin 48)) (u : State) (hu : u.stores = s.stores) :
    F (ls.foldl State.deliverLine u) = if ∃ l ∈ ls, p l then e (F u) else F u := by
  induction ls generalizing u with
  | nil => simp
  | cons l ls ih =>
    rw [List.foldl_cons, ih _ ((u.deliverLine_stores l).trans hu), hstep u l hu]
    by_cases h : p l <;> by_cases hl : ∃ l ∈ ls, p l <;> simp_all

theorem inAnyOrder_deliverLine {β : Type} {F : State → β} {p : Fin 48 → Prop} [DecidablePred p] {e : β → β} {s : State}
    (hfree : ∀ (u : State) (k : Nat), F { u with free := k } = F u) (he : ∀ x, e (e x) = e x)
    (hstep : ∀ (u : State) (l : Fin 48), u.stores = s.stores → F (u.deliverLine l) = if p l then e (F u) else F u)
    (ls : List (Fin 48)) : F (s.inAnyOrder ls State.deliverLine) = if ∃ l ∈ ls, p l then e (F s) else F s := by
  have hperm := freeOrder_perm ls.length s.free ls (Nat.le_refl _)
  have hfold := foldl_deliverLine he hstep (freeOrder ls.length s.free ls).1
    { s with free := (freeOrder ls.length s.free ls).2 } rfl
  simp only [hfree, hperm.mem_iff] at hfold
  exact hfold

end Sys2Proof.Machine
end

section
/-! SUPPORT. A sampling instant: its history, its majority and its events (R2, R7). -/

namespace Sys2Proof.Machine

/-! ### A sampling instant (R2, R7) -/

/-- The new samples held, before any event is delivered. -/
def State.sampled (s : State) (lines : BitVec 48) (lamps : BitVec 15) : State :=
  s.onIq fun q =>
    { q with samples := addSample s.iq.samples (s.sampleColumn lines),
             qualified := qualify (addSample s.iq.samples (s.sampleColumn lines)), sensed := some lamps,
             samplingTimer := some 14400 }

section
variable {s : State} (ht : s.iq.samplingTimer.isSome = true) (lines : BitVec 48) (lamps : BitVec 15)
include ht

/-- A sampling instant, by the levels qualified before and after it. -/
theorem State.sample_eq :
    s.sample lines lamps =
      match s.iq.qualified, qualify (addSample s.iq.samples (s.sampleColumn lines)) with
      | some a, some b => ((s.sampled lines lamps).compare).inAnyOrder (changedLines a b) State.deliverLine
      | none, some _ => (s.sampled lines lamps).qualificationComplete
      | _, none => s.sampled lines lamps := by
  have hn : s.iq.samplingTimer.isNone = false := by simpa using ht
  rw [State.sample, hn]
  rfl

/-- What follows the samples changes no stored sample (R2). -/
theorem State.sample_stores : (s.sample lines lamps).stores = (s.sampled lines lamps).stores := by
  rw [State.sample_eq ht]
  split
  · rw [inAnyOrder_stores _ State.deliverLine_stores, State.compare_stores]
  · exact State.qualificationComplete_stores _
  · rfl

end

/-- Two samples and a third make a full history, whose majority is qualified (R2). -/
theorem addSample_third {l : List (BitVec 48)} {a b : BitVec 48} (h : l = [a, b] ∨ ∃ o, l = [o, a, b]) (c : BitVec 48) :
    addSample l c = [a, b, c] := by
  obtain rfl | ⟨o, rfl⟩ := h <;> rfl

theorem mem_changedLines {a b : BitVec 48} {l : Fin 48} (h45 : l.val < 45) (h35 : l.val ≠ 35) :
    l ∈ changedLines a b ↔ a.getLsb l ≠ b.getLsb l := by
  simp [changedLines, h45, h35]

theorem majority_getLsb (a b c : BitVec 48) (l : Fin 48) :
    (majority a b c).getLsb l = ((a.getLsb l && b.getLsb l) || (b.getLsb l && c.getLsb l) || (a.getLsb l && c.getLsb l)) := by
  simp [majority, BitVec.getLsb]

/-- Before the third sample nothing is qualified (R4). -/
theorem State.sample_early {s : State} (ht : s.iq.samplingTimer.isSome = true) (lines : BitVec 48) (lamps : BitVec 15)
    (h : s.iq.samples.length < 2) (hq : s.iq.qualified = none) :
    qualify (addSample s.iq.samples (s.sampleColumn lines)) = none ∧
      (addSample s.iq.samples (s.sampleColumn lines)).length = s.iq.samples.length + 1 ∧
      s.sample lines lamps = s.sampled lines lamps := by
  have hnone : qualify (addSample s.iq.samples (s.sampleColumn lines)) = none := by
    rw [addSample, if_pos (by omega)]
    match s.iq.samples, h with
    | [], _ => rfl
    | [_], _ => rfl
  refine ⟨hnone, ?_, ?_⟩
  · rw [addSample, if_pos (by omega), List.length_append]; rfl
  · rw [State.sample_eq ht, hq, hnone]

/-! ### The events of a sampling instant, in whatever order -/

theorem State.line_of_qualified {w : State} {q' : BitVec 48} (hw : w.iq.qualified = some q') (l : Fin 48) :
    w.line l = q'.getLsb l := by simp only [State.line, hw]

/-- After the events each gate of which a proving line has changed is where its lines show (R89). -/
theorem State.deliverLines_poses (w : State) (q q' : BitVec 48) (x : Gate) :
    (w.inAnyOrder (changedLines q q') State.deliverLine).poses x =
      if q.getLsb (gateUpLine x) = q'.getLsb (gateUpLine x) ∧ q.getLsb (gateDownLine x) = q'.getLsb (gateDownLine x) then
        w.poses x
      else w.provenPos x := by
  have hstep : ∀ (u : State) (l : Fin 48), u.stores = w.stores →
      (u.deliverLine l).poses x = if provedGate l = some x then w.provenPos x else u.poses x := fun u l hu => by
    rw [State.deliverLine_poses]
    simp only [State.provenPos, State.stores_line hu]
  have hlines : ∀ g, (gateUpLine g).val < 45 ∧ (gateUpLine g).val ≠ 35 ∧ (gateDownLine g).val < 45 ∧ (gateDownLine g).val ≠ 35 := by
    intro g
    cases g <;> decide
  obtain ⟨hu45, hu35, hd45, hd35⟩ := hlines x
  have hchanged : (∃ l ∈ changedLines q q', provedGate l = some x) ↔
      ¬ (q.getLsb (gateUpLine x) = q'.getLsb (gateUpLine x) ∧ q.getLsb (gateDownLine x) = q'.getLsb (gateDownLine x)) := by
    simp only [provedGate_eq_some, and_or_left, exists_or, exists_eq_right, mem_changedLines hu45 hu35, mem_changedLines hd45 hd35]
    tauto
  rw [inAnyOrder_deliverLine (F := fun u => u.poses x) (p := fun l => provedGate l = some x) (e := fun _ => w.provenPos x)
    (fun _ _ => rfl) (fun _ => rfl) hstep]
  simp only [hchanged, ite_not]

/-- After the events each fixed slot whose line has changed follows it (R179, R180). -/
theorem State.deliverLines_slots {w : State} {q' : BitVec 48} (hw : w.iq.qualified = some q') (q : BitVec 48) (i : Fin 12) :
    (w.inAnyOrder (changedLines q q') State.deliverLine).ht.slots[i] =
      if 4 ≤ i.val ∨ q.getLsb (slotLine i) = q'.getLsb (slotLine i) then w.ht.slots[i]
      else (w.ht.slots[i]).follow i (q'.getLsb (slotLine i)) := by
  have hmem : ∀ l, i ∈ lineSlots l ↔ i.val < 4 ∧ slotLine i = l := fun l => by simp [lineSlots]
  have hstep : ∀ (u : State) (l : Fin 48), u.stores = w.stores →
      (u.deliverLine l).ht.slots[i] =
        if i.val < 4 ∧ slotLine i = l then (u.ht.slots[i]).follow i (q'.getLsb (slotLine i)) else u.ht.slots[i] := fun u l hu => by
    rw [(u.deliverLine_follows l).slot i]
    simp only [hmem, State.stores_line hu, State.line_of_qualified hw]
    split
    · next h => rw [h.2]
    · rfl
  have hline : (slotLine i).val < 45 ∧ (slotLine i).val ≠ 35 := by
    have h : ∀ i : Fin 12, (slotLine i).val < 45 ∧ (slotLine i).val ≠ 35 := by decide
    exact h i
  have hchanged : (∃ l ∈ changedLines q q', i.val < 4 ∧ slotLine i = l) ↔
      ¬ (4 ≤ i.val ∨ q.getLsb (slotLine i) = q'.getLsb (slotLine i)) := by
    constructor
    · rintro ⟨l, hl, hi, rfl⟩
      rw [mem_changedLines hline.1 hline.2] at hl
      exact not_or.2 ⟨by omega, hl⟩
    · intro h
      rw [not_or] at h
      exact ⟨_, (mem_changedLines hline.1 hline.2).2 h.2, by omega, rfl⟩
  rw [inAnyOrder_deliverLine (F := fun u => u.ht.slots[i]) (p := fun l => i.val < 4 ∧ slotLine i = l)
    (e := fun r => r.follow i (q'.getLsb (slotLine i))) (fun _ _ => rfl) (fun _ => Slot.follow_follow _ _ _) hstep]
  simp only [hchanged, ite_not]

theorem State.deliverLines_clock (w : State) (ls : List (Fin 48)) :
    (w.inAnyOrder ls State.deliverLine).ht.pointer = w.ht.pointer ∧ (w.inAnyOrder ls State.deliverLine).ht.clock = w.ht.clock := by
  have keeps := State.inAnyOrder_keeps (fun t => t.ht.pointer = w.ht.pointer ∧ t.ht.clock = w.ht.clock) State.deliverLine ls w
    (fun l _ u hu => ⟨(u.deliverLine_follows l).pointer.trans hu.1, (u.deliverLine_follows l).clock.trans hu.2⟩)
    fun _ => ⟨rfl, rfl⟩
  exact keeps

end Sys2Proof.Machine
end

section
/-! A sampling instant qualifies the level of two samples of three; the panel's and the maintenance key's lines halt the span (R2, R73, R74). -/

namespace Sys2Proof.Machine

/-! ### The panel's and the maintenance key's lines (R73, R74, R179, R180) -/

/-- A state with IQ, OM, SMC, HT and MFS blanked: what a panel line's event leaves. -/
def State.offPanel (s : State) : State :=
  { s with iq := Iq.reset, om := Om.reset, smc := Smc.reset, ht := Ht.reset, mfs := Mfs.reset }

theorem State.offPanel_eq {s t : State} (h : t.offPanel = s.offPanel) :
    t = { s with iq := t.iq, om := t.om, smc := t.smc, ht := t.ht, mfs := t.mfs } := by
  simp only [State.offPanel, State.mk.injEq] at h
  obtain ⟨h1, h2, h3, -, -, h6, -, h8, h9, h10, -, -, h13⟩ := h
  cases t
  simp_all

theorem State.offPanel_of_offDrive {s t : State} (h : t.offDrive = s.offDrive) : t.offPanel = s.offPanel :=
  (congrArg State.offPanel h :)

theorem State.deliverLine_43 {w : State} (h : w.line 43 = true) :
    w.deliverLine 43 = (w.placeFixed 0).haltIn [.unlocking, .raising] := by
  rw [State.deliverLine_eq, h]
  rfl

theorem State.deliverLine_44 {w : State} (h : w.line 44 = true) : w.deliverLine 44 = (w.placeFixed 1).quickStop := by
  rw [State.deliverLine_eq, h]
  rfl

theorem State.deliverLine_37 {w : State} (h : w.line 37 = true) :
    w.deliverLine 37 =
      ((((w.placeFixed 2).placeFixed 3).haltIn [.unlocking, .raising]).quickStop).keepClosedPlaced := by
  rw [State.deliverLine_eq, h]
  rfl

/-- A sampling instant that qualifies a line on: its event is delivered in a state whose span and settings stand, and which differs
from `s` in IQ's samples and in what the comparisons write. -/
theorem State.sample_of_qualifies_on {s : State} {lines : BitVec 48} {l : Fin 48} (lamps : BitVec 15) (hl : l.val < 45)
    (h35 : l.val ≠ 35) (h1 : l ≠ 1) (h6 : l ≠ 6) (h : s.qualifies lines l true) :
    ∃ w : State, s.sample lines lamps = w.deliverLine l ∧ w.line l = true ∧ w.line 1 = s.line 1 ∧ w.line 6 = s.line 6 ∧
      SmcStands s w ∧ w.act = s.act ∧ w.pau = s.pau ∧ w.offPanel = s.offPanel := by
  obtain ⟨q, hq, hother, hs⟩ := State.sample_of_qualifies lamps hl h35 h
  generalize hv : (s.onIq fun i =>
    { i with samples := addSample i.samples (s.sampleColumn lines), qualified := some q, sensed := some lamps,
             samplingTimer := some 14400 }) = v at hs
  have look := v.compare_looks
  have hqv : v.compare.iq.qualified = some q := by rw [look.rest, ← hv]; rfl
  have hline := State.line_of_qualified hqv
  have hstands : SmcStands s v := by rw [← hv]; exact ⟨rfl, fun _ => rfl⟩
  refine ⟨v.compare, hs, (hline l).trans hq, (hline 1).trans (hother 1 h1.symm), (hline 6).trans (hother 6 h6.symm),
    hstands.trans look.stands, ?_, ?_, ?_⟩
  · rw [look.rest, ← hv]; rfl
  · rw [look.pau, ← hv]; rfl
  · rw [State.offPanel_of_offDrive look.offDrive, ← hv]; rfl

/-- What of the span, the channel and the commands SMC's laws speak of. -/
def State.spanReads (s : State) : Smc × Pau × PerTower Speed × (Fin 40 → Bool) :=
  (s.smc, s.pau, s.om.speed, fun f => if f.val < 12 then s.cmd f else false)

theorem State.setCmd_spanReads (s : State) {f : Fin 40} (b : Bool) (h : 12 ≤ f.val) : (s.setCmd f b).spanReads = s.spanReads := by
  refine congrArg (fun x => (_, _, _, x)) (funext fun g => ?_)
  split
  · have hfg : f ≠ g := by rintro rfl; omega
    rw [State.setCmd_cmd, if_neg hfg]
  · rfl

theorem State.issueGate_spanReads (s : State) (g : Gate) : (s.issueGate g).spanReads = s.spanReads := by
  simp only [State.issueGate]
  rw [State.setCmd_spanReads _ _ (by simp [gateUpFn]; omega), State.setCmd_spanReads _ _ (by simp [gateDownFn])]

/-- A KEEP_CLOSED hold reaches neither the span nor the channel (R101). -/
theorem State.keepClosedPlaced_spanReads (s : State) : s.keepClosedPlaced.spanReads = s.spanReads := by
  unfold State.keepClosedPlaced
  split
  · rw [State.issueGates, foldl_keeps (F := State.spanReads) _ State.issueGate_spanReads]; rfl
  · rfl

section
variable {s t u : State} (h : u.spanReads = t.spanReads)
include h

theorem State.spanReads_smc : u.smc = t.smc := congrArg (·.1) h
theorem State.spanReads_tower (w : Tower) : u.tower w = t.tower w := by simp only [State.tower, State.spanReads_smc h]
theorem State.spanReads_pau : u.pau = t.pau := congrArg (·.2.1) h
theorem State.spanReads_speed : u.om.speed = t.om.speed := congrArg (·.2.2.1) h

theorem State.spanReads_cmd {f : Fin 40} (hf : f.val < 12) : u.cmd f = t.cmd f := by
  simpa [State.spanReads, hf] using congrFun (congrArg (·.2.2.2) h) f

theorem HaltsIn.of_spanReads {l : List Motion} (hl : Motion.holding ∉ l) (k : HaltsIn l s t) : HaltsIn l s u := by
  refine ⟨fun hh => absurd hh.2 hl, fun hn => ?_⟩
  simpa only [State.spanReads_smc h, State.spanReads_tower h, State.spanReads_pau h, HaltTaken, SmcStands,
    State.spanReads_cmd h (f := 8) (by decide), State.spanReads_cmd h (f := 9) (by decide),
    State.spanReads_cmd h (f := 10) (by decide), State.spanReads_cmd h (f := 11) (by decide)] using k.2 hn

theorem QuickStopsFor.of_spanReads (k : QuickStopsFor s t) : QuickStopsFor s u := by
  have hb : ∀ w, u.cmd (towerFn w 2) = t.cmd (towerFn w 2) := fun w => State.spanReads_cmd h (by cases w <;> decide)
  simpa only [QuickStopsFor, State.spanReads_smc h, State.spanReads_tower h, State.spanReads_speed h, SmcStands, hb] using k

end

/-- After a halt in UNLOCKING or RAISING there is nothing for a quick stop to take (R73, R74). -/
theorem HaltsIn.motion_ne {s t : State} (h : HaltsIn [.unlocking, .raising] s t)
    (hm : s.smc.motion = .unlocking ∨ s.smc.motion = .raising) : ¬ (t.smc.motion = .lowering ∨ t.smc.motion = .seating) := by
  obtain ⟨-, ht⟩ := h.2 fun hh => by simp at hh
  obtain hm | hm := hm
  · simp only [hm] at ht
    obtain ⟨⟨ht, -⟩, -⟩ := ht
    rw [ht]
    split <;> simp
  · simp only [hm] at ht
    rw [if_pos (by simp)] at ht
    split at ht
    · obtain ⟨-, -, -, ht⟩ := ht
      split at ht
      · simp [ht.1]
      · simp [ht.1, hm]
    · rw [ht.motion, hm]; simp

/-- Placing a fixed record leaves the span. -/
theorem SmcStands.placeFixed {s w : State} (h : SmcStands s w) (i : Fin 4) : SmcStands s (w.placeFixed i) := h

/-- A NO_RAISE from the panel (R73, R179). -/
theorem State.sample_line43 {s : State} {lines : BitVec 48} (lamps : BitVec 15) (h : s.qualifies lines 43 true) :
    HaltsIn [.unlocking, .raising] s (s.sample lines lamps) ∧ (s.sample lines lamps).offPanel = s.offPanel := by
  obtain ⟨w, hs, hl, h1, h6, hstands, -, hpau, hoff⟩ :=
    State.sample_of_qualifies_on lamps (by decide) (by decide) (by decide) (by decide) h
  have hhold : Motion.holding ∉ [Motion.unlocking, .raising] := by decide
  rw [hs, State.deliverLine_43 hl]
  exact ⟨State.haltIn_haltsIn hhold (hstands.placeFixed 0) hpau h1 h6,
    (State.offPanel_of_offDrive (State.haltIn_offDrive _ hhold)).trans hoff⟩

/-- A NO_LOWER from the panel (R74, R179). -/
theorem State.sample_line44 {s : State} {lines : BitVec 48} (lamps : BitVec 15) (h : s.qualifies lines 44 true) :
    QuickStopsFor s (s.sample lines lamps) ∧ (s.sample lines lamps).offPanel = s.offPanel := by
  obtain ⟨w, hs, hl, -, -, hstands, hact, -, hoff⟩ :=
    State.sample_of_qualifies_on lamps (by decide) (by decide) (by decide) (by decide) h
  rw [hs, State.deliverLine_44 hl]
  exact ⟨State.quickStop_quickStopsFor (hstands.placeFixed 1) hact,
    (State.offPanel_of_offDrive (State.quickStop_offDrive _)).trans hoff⟩

/-- A NO_MOTION from the maintenance key (R73, R74, R180). -/
theorem State.sample_line37 {s : State} {lines : BitVec 48} (lamps : BitVec 15) (h : s.qualifies lines 37 true) :
    if s.smc.motion = .unlocking ∨ s.smc.motion = .raising then HaltsIn [.unlocking, .raising] s (s.sample lines lamps)
    else QuickStopsFor s (s.sample lines lamps) := by
  obtain ⟨w, hs, hl, h1, h6, hstands, hact, hpau, -⟩ :=
    State.sample_of_qualifies_on lamps (by decide) (by decide) (by decide) (by decide) h
  have hhold : Motion.holding ∉ [Motion.unlocking, .raising] := by decide
  have hplaced : SmcStands s ((w.placeFixed 2).placeFixed 3) := (hstands.placeFixed 2).placeFixed 3
  rw [hs, State.deliverLine_37 hl]
  split <;> rename_i hm
  · have hhalt := State.haltIn_haltsIn hhold hplaced hpau h1 h6
    rw [State.quickStop, if_neg fun hq => hhalt.motion_ne hm hq.1]
    exact hhalt.of_spanReads (State.keepClosedPlaced_spanReads _) hhold
  · have hno : ((w.placeFixed 2).placeFixed 3).haltIn [.unlocking, .raising] = (w.placeFixed 2).placeFixed 3 := by
      simp [State.haltIn, hplaced.motion, not_or.1 hm]
    rw [hno]
    exact (State.quickStop_quickStopsFor hplaced hact).of_spanReads (State.keepClosedPlaced_spanReads _)

/-! ### The majority (R2) -/

theorem State.provenPos_eq (s : State) (g : Gate) :
    s.provenPos g =
      if s.line (gateUpLine g) = true then (if s.line (gateDownLine g) = true then .unknown else .up)
      else if s.line (gateDownLine g) = true then .down else .moving := by
  cases hu : s.line (gateUpLine g) <;> cases hd : s.line (gateDownLine g) <;> simp [State.provenPos, hu, hd]

/-- A full history qualifies the level of two samples of three (R2). -/
theorem State.sampled_third {s : State} {a b : BitVec 48} (h : s.iq.samples = [a, b] ∨ ∃ o, s.iq.samples = [o, a, b])
    (lines : BitVec 48) (lamps : BitVec 15) :
    (s.sampled lines lamps).iq =
      { s.iq with samples := [a, b, s.sampleColumn lines], qualified := some (majority a b (s.sampleColumn lines)),
                  sensed := some lamps, samplingTimer := some 14400 } := by
  rw [State.sampled, State.onIq_iq, addSample_third h]
  rfl

/-- A sampling instant after qualification complete delivers the changed lines' events (R3). -/
theorem State.sample_again {s : State} (ht : s.iq.samplingTimer.isSome = true) {a b q : BitVec 48}
    (h : s.iq.samples = [a, b] ∨ ∃ o, s.iq.samples = [o, a, b]) (hq : s.iq.qualified = some q) (lines : BitVec 48)
    (lamps : BitVec 15) :
    s.sample lines lamps =
      ((s.sampled lines lamps).compare).inAnyOrder (changedLines q (majority a b (s.sampleColumn lines))) State.deliverLine := by
  rw [State.sample_eq ht, hq, addSample_third h]
  rfl

/-- Settles O33. -/
theorem samplingTakesTheMajority : Obligations.SamplingTakesTheMajority := by
  intro s lines lamps ht
  refine ⟨fun hn hq => ⟨_, rfl, ?_⟩, fun a b h => ⟨_, rfl, ?_⟩, fun a b q h hq => ⟨_, rfl, ?_⟩,
    fun h => ⟨_, rfl, (State.sample_line43 lamps h).1, State.offPanel_eq (State.sample_line43 lamps h).2⟩,
    fun h => ⟨_, rfl, (State.sample_line44 lamps h).1, State.offPanel_eq (State.sample_line44 lamps h).2⟩,
    fun h => ⟨_, rfl, State.sample_line37 lamps h⟩⟩
  · obtain ⟨hnone, hlen, hs⟩ := State.sample_early ht lines lamps hn hq
    rw [hs]
    exact ⟨rfl, hlen, hnone, rfl, rfl⟩
  · have hstores := State.sample_stores ht lines lamps
    have hiq := (State.stores_iq hstores).trans (State.sampled_third h lines lamps)
    refine ⟨s.sampleColumn lines, majority a b (s.sampleColumn lines), by rw [hiq], by rw [hiq], fun l h0 h35 => ?_, ?_,
      majority_getLsb a b _, by rw [hiq], by rw [hiq], (State.stores_cs hstores :), (congrArg (·.2.2.2.1) hstores :),
      (congrArg (·.2.2.2.2) hstores :)⟩
    · rw [State.sampleColumn_getLsb, State.sampleOf, if_neg h0, if_neg h35]
    · rw [State.sampleColumn_getLsb, State.sampleOf, if_pos rfl]
  · have hs := State.sample_again ht h hq lines lamps
    have hwq : (s.sampled lines lamps).compare.iq.qualified = some (majority a b (s.sampleColumn lines)) := by
      rw [State.stores_iq (State.compare_stores _), State.sampled_third h]
    have hoff : (s.sampled lines lamps).compare.offSpan = s.offSpan := State.compare_offSpan _
    generalize majority a b (s.sampleColumn lines) = q' at hs hwq
    generalize (s.sampled lines lamps).compare = w at hs hwq hoff
    have hht : w.ht = s.ht := congrArg (·.2.1) hoff
    have hline : ∀ l, (s.sample lines lamps).line l = w.line l := fun l => by
      rw [hs]
      exact State.stores_line (inAnyOrder_stores _ State.deliverLine_stores _ _) l
    have hwline := State.line_of_qualified hwq
    obtain ⟨hpointer, hclock⟩ := w.deliverLines_clock (changedLines q q')
    refine ⟨fun g => ?_, by rw [hs, hpointer, hht], by rw [hs, hclock, hht], fun i => ?_⟩
    · have hposes := w.deliverLines_poses q q' g
      rw [State.poses_of_offSpan hoff, State.provenPos_eq, ← hwline, ← hwline] at hposes
      simp only [hline]
      rw [hs]
      exact hposes
    · have hslots := State.deliverLines_slots hwq q i
      rw [hht, ← hwline] at hslots
      simp only [hline]
      rw [hs]
      exact hslots

end Sys2Proof.Machine
end

section
/-! SUPPORT. OM's and SMC's first levels, in either order (R15, R58, R78). -/

namespace Sys2Proof.Machine

/-! ### OM's and SMC's first levels (R15, R58, R78) -/

/-- What OM's and SMC's first levels decide. -/
structure Levels where
  motion : Motion
  estop : FaultValue
  overtravel : FaultValue
  heightOver : Bool

def State.levels (s : State) : Levels := ⟨s.smc.motion, s.fault 0, s.fault 2, s.smc.heightOver⟩

theorem LooksAgain.levels {s t : State} (h : LooksAgain s t) : t.levels = s.levels := by
  have hh : t.smc.heightOver = s.smc.heightOver := by rw [h.smc]
  simp only [State.levels, h.motion, h.fault 0 (by decide), h.fault 2 (by decide), hh]

/-- Whether a report of `f` trips the span: the condition is there and the fault not yet ACTIVE. -/
theorem State.tripReport_motion {f : Fin 37} (hf : f.val < 3) (s : State) (b : Bool) :
    (s.tripReport f b).smc.motion = if b = true ∧ s.fault f ≠ .active then .tripped else s.smc.motion := by
  cases h : s.faultEnters f b with
  | true =>
    have hc : b = true ∧ s.fault f ≠ .active := by simpa [State.faultEnters] using h
    rw [(State.tripReport_tripTaken hf h).motion, if_pos hc]
  | false =>
    have hc : ¬ (b = true ∧ s.fault f ≠ .active) := by simpa [State.faultEnters] using h
    rw [State.tripReport_of_not_enters hf h, if_neg hc, State.reported_eq]

theorem State.tripReport_heightOver {f : Fin 37} (hf : f.val < 3) (s : State) (b : Bool) :
    (s.tripReport f b).smc.heightOver = s.smc.heightOver := by
  have hr : (s.reported f b).smc = s.smc := (congrArg State.smc (s.reported_rest f b) :)
  cases h : s.faultEnters f b with
  | true => exact (State.tripReport_tripTaken hf h).heightOver
  | false => rw [State.tripReport_of_not_enters hf h, hr]

/-- ESTOP's report. -/
theorem State.tripReport_estop_levels (s : State) (b : Bool) :
    (s.tripReport 0 b).levels =
      { s.levels with
        motion := if b = true ∧ s.fault 0 ≠ .active then .tripped else s.smc.motion, estop := (s.fault 0).report b } := by
  have h0 := State.tripReport_fault (f := 0) (by decide) s b 0 (by decide)
  have h2 := State.tripReport_fault (f := 0) (by decide) s b 2 (by decide)
  rw [if_pos rfl] at h0
  rw [if_neg (by decide)] at h2
  simp only [State.levels, State.tripReport_motion (f := 0) (by decide), State.tripReport_heightOver (f := 0) (by decide), h0, h2]

/-- OVERTRAVEL's report. -/
theorem State.tripReport_overtravel_levels (s : State) (b : Bool) :
    (s.tripReport 2 b).levels =
      { s.levels with
        motion := if b = true ∧ s.fault 2 ≠ .active then .tripped else s.smc.motion, overtravel := (s.fault 2).report b } := by
  have h0 := State.tripReport_fault (f := 2) (by decide) s b 0 (by decide)
  have h2 := State.tripReport_fault (f := 2) (by decide) s b 2 (by decide)
  rw [if_neg (by decide)] at h0
  rw [if_pos rfl] at h2
  simp only [State.levels, State.tripReport_motion (f := 2) (by decide), State.tripReport_heightOver (f := 2) (by decide), h0, h2]

/-- The motion state that INITIAL is left for, by the latest set (R58). -/
def State.firstMotion (s : State) : Motion :=
  match s.mu.set.bind (·.heights) with
  | none => .initial
  | some h =>
    if h.hA ≤ s.act.ztol ∧ h.hB ≤ s.act.ztol ∧ s.line 1 = true ∧ s.line 6 = true then
      (if s.line 12 = true ∧ s.line 14 = true then .seatedLocked else .seated)
    else .halted

theorem State.firstMotion_of_stores {s t : State} (h : t.stores = s.stores) : t.firstMotion = s.firstMotion := by
  have hmu : t.mu = s.mu := congrArg (·.2.2.2.1) h
  have hact : t.act = s.act := congrArg (·.2.1.active) h
  simp only [State.firstMotion, hmu, hact, State.stores_line h]

theorem State.firstMotion_rests (s : State) :
    s.firstMotion = .initial ∨ s.firstMotion = .seatedLocked ∨ s.firstMotion = .seated ∨ s.firstMotion = .halted := by
  unfold State.firstMotion
  split
  · simp
  · repeat' split
    all_goals simp

theorem State.leaveInitial_levels {s : State} (hq : s.isQualified = true) :
    s.leaveInitial.levels =
      { s.levels with motion := if s.smc.motion = .initial then s.firstMotion else s.smc.motion } := by
  by_cases hm : s.smc.motion = .initial
  · rw [if_pos hm]
    cases hh : s.heights with
    | none =>
      have hfirst : s.firstMotion = .initial := by simp only [State.firstMotion, show s.mu.set.bind (·.heights) = none from hh]
      rw [State.leaveInitial, if_neg (by simp [hh]), hfirst, ← hm]
      rfl
    | some h =>
      have hseats : s.onSeats = true ↔ h.hA ≤ s.act.ztol ∧ h.hB ≤ s.act.ztol ∧ s.line 1 = true ∧ s.line 6 = true := by
        have h1 : s.seatsMade = true ↔ s.line 1 = true ∧ s.line 6 = true := Bool.and_eq_true_iff
        simp [State.onSeats, hh, h1, and_assoc]
      have hdriven : s.bothDriven = true ↔ s.line 12 = true ∧ s.line 14 = true := Bool.and_eq_true_iff
      have hfirst : s.firstMotion = if s.onSeats then (if s.bothDriven then .seatedLocked else .seated) else .halted := by
        simp only [State.firstMotion, show s.mu.set.bind (·.heights) = some h from hh, hseats, hdriven]
      rw [State.leaveInitial, if_pos (by simp [hm, hq, hh]), hfirst]
      rfl
  · rw [if_neg hm, State.leaveInitial, if_neg (by simp [hm])]
    rfl

/-- OM's first levels (R15). -/
theorem State.takeFirstLevels_om {s : State} (hc : s.configured = true) (hq : s.isQualified = true) :
    (s.takeFirstLevels .om).levels =
      { s.levels with
        motion := if (!s.om.loopClosed || !s.line 0) = true ∧ s.fault 0 ≠ .active then .tripped else s.smc.motion,
        estop := (s.fault 0).report (!s.om.loopClosed || !s.line 0) } := by
  have he : s.isEstop = (!s.om.loopClosed || !s.line 0) := by rw [State.isEstop, hq, Bool.true_and]
  rw [State.takeFirstLevels, State.reportEstop, if_pos hc, he, State.tripReport_estop_levels]

/-- SMC's first levels (R58, R78). -/
theorem State.takeFirstLevels_smc {s : State} (hq : s.isQualified = true) :
    (s.takeFirstLevels .smc).levels =
      { s.levels with
        motion :=
          if (s.smc.heightOver || !s.line 2 || !s.line 7) = true ∧ s.fault 2 ≠ .active then .tripped
          else if s.smc.motion = .initial then s.firstMotion else s.smc.motion,
        overtravel := (s.fault 2).report (s.smc.heightOver || !s.line 2 || !s.line 7) } := by
  have look := s.compare_looks
  have hl := look.levels
  have hstores := s.compare_stores
  have hheight : s.compare.smc.heightOver = s.smc.heightOver := congrArg Levels.heightOver hl
  have ho : s.compare.isOvertravel = (s.smc.heightOver || !s.line 2 || !s.line 7) := by
    simp only [State.isOvertravel, State.limitReached, State.stores_isQualified hstores, State.stores_line hstores, hheight, hq,
      Bool.true_and, Bool.or_assoc]
  have hrep := State.tripReport_overtravel_levels s.compare (s.smc.heightOver || !s.line 2 || !s.line 7)
  rw [hl, look.motion, look.fault 2 (by decide)] at hrep
  rw [State.takeFirstLevels, State.reportOvertravel, ho]
  generalize hv : s.compare.tripReport 2 (s.smc.heightOver || !s.line 2 || !s.line 7) = v at hrep
  have hvs : v.stores = s.stores := by rw [← hv, State.tripReport_stores, hstores]
  have hvm := congrArg Levels.motion hrep
  rw [State.leaveInitial_levels ((State.stores_isQualified hvs).trans hq), State.firstMotion_of_stores hvs, hrep]
  change v.smc.motion = _ at hvm
  rw [hvm]
  split
  · rfl
  · rfl

theorem State.takeFirstLevels_offSpan (s : State) (x : FirstLevels) : (s.takeFirstLevels x).offSpan = s.offSpan := by
  cases x with
  | om => exact s.reportEstop_offSpan
  | smc =>
    simp only [State.takeFirstLevels, State.leaveInitial_offSpan, State.reportOvertravel_offSpan, State.compare_offSpan]

/-- The levels as both reports and the motion state leave them. -/
def State.decided (s : State) : Levels where
  motion :=
    if ((!s.om.loopClosed || !s.line 0) = true ∧ s.fault 0 ≠ .active) ∨
        ((s.smc.heightOver || !s.line 2 || !s.line 7) = true ∧ s.fault 2 ≠ .active) then .tripped
    else s.firstMotion
  estop := (s.fault 0).report (!s.om.loopClosed || !s.line 0)
  overtravel := (s.fault 2).report (s.smc.heightOver || !s.line 2 || !s.line 7)
  heightOver := s.smc.heightOver

section
variable {s : State} (hc : s.configured = true) (hq : s.isQualified = true) (hm : s.smc.motion = .initial)
include hc hq hm

theorem State.firstLevels_om_smc : ((s.takeFirstLevels .om).takeFirstLevels .smc).levels = s.decided := by
  have h := State.takeFirstLevels_om hc hq
  have hstores := s.takeFirstLevels_stores .om
  generalize s.takeFirstLevels .om = v at h hstores
  rw [State.takeFirstLevels_smc ((State.stores_isQualified hstores).trans hq), State.firstMotion_of_stores hstores]
  simp only [State.stores_line hstores]
  simp only [State.levels, Levels.mk.injEq] at h
  obtain ⟨hmotion, hestop, hover, hheight⟩ := h
  simp only [State.levels, hmotion, hestop, hover, hheight, hm, State.decided, Levels.mk.injEq, and_true]
  by_cases h2 : (s.smc.heightOver || !s.line 2 || !s.line 7) = true ∧ s.fault 2 ≠ .active
  · rw [if_pos h2, if_pos (Or.inr h2)]
  · by_cases h0 : (!s.om.loopClosed || !s.line 0) = true ∧ s.fault 0 ≠ .active
    · rw [if_neg h2, if_pos h0, if_neg (by simp), if_pos (Or.inl h0)]
    · rw [if_neg h2, if_neg h0, if_pos rfl, if_neg (not_or.2 ⟨h0, h2⟩)]

theorem State.firstLevels_smc_om : ((s.takeFirstLevels .smc).takeFirstLevels .om).levels = s.decided := by
  have h := State.takeFirstLevels_smc hq
  have hstores := s.takeFirstLevels_stores .smc
  have hclosed := State.offSpan_loopClosed (s.takeFirstLevels_offSpan .smc)
  generalize s.takeFirstLevels .smc = v at h hstores hclosed
  rw [State.takeFirstLevels_om ((State.stores_configured hstores).trans hc) ((State.stores_isQualified hstores).trans hq)]
  simp only [State.stores_line hstores, hclosed]
  simp only [State.levels, Levels.mk.injEq] at h
  obtain ⟨hmotion, hestop, hover, hheight⟩ := h
  simp only [State.levels, hmotion, hestop, hover, hheight, hm, State.decided, Levels.mk.injEq, and_true]
  by_cases h0 : (!s.om.loopClosed || !s.line 0) = true ∧ s.fault 0 ≠ .active
  · rw [if_pos h0, if_pos (Or.inl h0)]
  · by_cases h2 : (s.smc.heightOver || !s.line 2 || !s.line 7) = true ∧ s.fault 2 ≠ .active
    · rw [if_neg h0, if_pos h2, if_pos (Or.inr h2)]
    · rw [if_neg h0, if_neg h2, if_pos trivial, if_neg (not_or.2 ⟨h0, h2⟩)]

/-- OM's and SMC's first levels, in either order: a trip where one of the conditions is new, and else INITIAL is left. -/
theorem State.firstLevels : (s.inAnyOrder [FirstLevels.om, .smc] State.takeFirstLevels).levels = s.decided := by
  have hperm := freeOrder_perm 2 s.free [FirstLevels.om, .smc] (by decide)
  unfold State.inAnyOrder
  obtain h | h := List.perm_pair.1 hperm
  · simp only [List.length_cons, List.length_nil, Nat.zero_add, Nat.reduceAdd, h]
    exact State.firstLevels_om_smc (s := { s with free := _ }) hc hq hm
  · simp only [List.length_cons, List.length_nil, Nat.zero_add, Nat.reduceAdd, h]
    exact State.firstLevels_smc_om (s := { s with free := _ }) hc hq hm

end

end Sys2Proof.Machine
end

section
/-! Qualification complete takes the first levels (R4, R102, R109, R179, R180). -/

namespace Sys2Proof.Machine

/-! ### RCS's first levels (R102, R109) -/

/-- Every gate takes the position that its lines show. -/
def State.firstPoses (s : State) : State := Gate.all.foldl (fun s g => s.setGate g { s.gate g with pos := s.provenPos g }) s

/-- The gates' positions are written, and nothing else. -/
theorem foldl_firstPoses (l : List Gate) (s : State) :
    (∃ v, l.foldl (fun s g => s.setGate g { s.gate g with pos := s.provenPos g }) s = s.onRcs fun m => { m with gates := v }) ∧
      ∀ x, (l.foldl (fun s g => s.setGate g { s.gate g with pos := s.provenPos g }) s).poses x =
        if x ∈ l then s.provenPos x else s.poses x := by
  induction l generalizing s with
  | nil => exact ⟨⟨s.rcs.gates, rfl⟩, fun x => by simp⟩
  | cons g l ih =>
    obtain ⟨⟨v, hv⟩, hp⟩ := ih (s.setGate g { s.gate g with pos := s.provenPos g })
    refine ⟨⟨v, hv⟩, fun x => (hp x).trans ?_⟩
    rw [State.setGate_poses, show (s.setGate g { s.gate g with pos := s.provenPos g }).provenPos x = s.provenPos x from rfl]
    by_cases hx : x = g
    · subst hx; simp
    · simp [hx, Ne.symm hx]

theorem State.firstPoses_eq (s : State) : ∃ v, s.firstPoses = s.onRcs fun m => { m with gates := v } :=
  (foldl_firstPoses Gate.all s).1

theorem State.firstPoses_poses (s : State) (x : Gate) : s.firstPoses.poses x = s.provenPos x :=
  ((foldl_firstPoses Gate.all s).2 x).trans (if_pos (by cases x <;> decide))

/-- The road, its causes and its budget clock. -/
def State.roadSide (s : State) : Road × Bool × Bool × Bool × Timer :=
  (s.rcs.road, s.rcs.causeGate, s.rcs.causeLoop, s.rcs.causeSupply, s.rcs.budgetTimer)

theorem State.issueGates_rcs (s : State) : s.issueGates.rcs = s.rcs :=
  foldl_keeps (F := State.rcs) State.issueGate (fun _ _ => rfl) Gate.all s

theorem State.setCauses_roadSide (s : State) (f : Rcs → Rcs) : (s.setCauses f).roadSide = (s.onRcs f).roadSide := by
  simp only [State.setCauses]
  split
  · simp only [State.roadSide, State.issueGates_rcs]; rfl
  · rfl

/-- Where the road has no step under way nothing restarts (R104). -/
theorem State.restartStep_at_rest {s : State} (h : s.rcs.road = .recovery ∨ s.rcs.road = .sealed) : s.restartStep = s := by
  have hsteps : s.stepGates = [] := by obtain h | h := h <;> simp [State.stepGates, Machine.stepGates, h]
  have hdrive : s.driveStep = s := by rw [State.driveStep, hsteps]; rfl
  have hheads : s.headsChecked = s := by
    rw [State.headsChecked, if_neg]
    obtain h | h := h <;> simp [h]
  have hnext : s.nextStep = none := by obtain h | h := h <;> simp [State.nextStep, h]
  have hadvance : s.advance = s := by
    simp only [State.advance, State.advanceSteps, hnext]
    split <;> rfl
  rw [State.restartStep]
  split
  · rw [hdrive, hheads, hadvance]
  · rfl

theorem State.changeCauses_at_rest {s : State} (h : s.rcs.road = .recovery ∨ s.rcs.road = .sealed) (b : Bool) :
    (s.changeCauses fun m => { m with causeLoop := b }) = s.setCauses fun m => { m with causeLoop := b } := by
  have hr : (s.setCauses fun m => { m with causeLoop := b }).rcs.road = s.rcs.road :=
    congrArg (·.1) (s.setCauses_roadSide _)
  simp only [State.changeCauses]
  split
  · exact State.restartStep_at_rest (by rw [hr]; exact h)
  · rfl

/-- The loop open suspends RCS, so nothing restarts. -/
theorem State.changeCauses_loop_open (s : State) :
    (s.changeCauses fun m => { m with causeLoop := true }) = s.setCauses fun m => { m with causeLoop := true } := by
  have hr : (s.setCauses fun m => { m with causeLoop := true }).rcs.causeLoop = true :=
    congrArg (·.2.2.1) (s.setCauses_roadSide _)
  simp only [State.changeCauses]
  rw [if_neg (by simp [Rcs.suspended, hr])]

/-- The recovery decision (R109). -/
def State.recovered (s : State) : State :=
  if s.rcs.road = .recovery && Gate.all.all (fun g => (s.gate g).pos = .down) then s.startBudget.setRoad .sealed else s

theorem State.recovered_eq (s : State) :
    s.recovered =
      if s.rcs.road = .recovery ∧ ∀ g ∈ Gate.all, s.poses g = .down then
        s.onRcs fun m => { m with road := .sealed, budgetTimer := some 2880000 }
      else s := by
  have hcond : (s.rcs.road = .recovery && Gate.all.all fun g => (s.gate g).pos = .down) = true ↔
      s.rcs.road = .recovery ∧ ∀ g ∈ Gate.all, s.poses g = .down := by
    simp [State.poses]
  rw [State.recovered]
  by_cases h : s.rcs.road = .recovery ∧ ∀ g ∈ Gate.all, s.poses g = .down
  · rw [if_pos h, if_pos (hcond.2 h), State.startBudget, if_pos (by simp [h.1])]
    rfl
  · rw [if_neg h, if_neg (mt hcond.1 h)]

theorem State.rcsQualified_eq (s : State) :
    s.rcsQualified = s.firstPoses.recovered.changeCauses fun m => { m with causeLoop := !s.line 0 } := by
  have hline : s.firstPoses.recovered.line 0 = s.line 0 := by
    obtain ⟨v, hv⟩ := s.firstPoses_eq
    rw [hv, State.recovered_eq]
    split <;> rfl
  rw [← hline]
  rfl

/-- What RCS's first levels make of the road (R102, R109). -/
theorem State.rcsQualified_road (s : State) :
    s.rcsQualified.ht = s.ht ∧ (∀ g, s.rcsQualified.poses g = s.provenPos g) ∧ s.rcsQualified.rcs.causeLoop = !s.line 0 ∧
      (s.rcs.road ≠ .recovery → s.line 0 = false → s.rcsQualified.rcs.road = s.rcs.road) ∧
      (s.rcs.road = .recovery →
        s.rcsQualified.rcs.causeGate = s.rcs.causeGate ∧ s.rcsQualified.rcs.causeSupply = s.rcs.causeSupply ∧
        s.rcsQualified.spanSide = s.spanSide ∧
        if ∀ g ∈ Gate.all, s.rcsQualified.poses g = .down then
          s.rcsQualified.rcs.road = .sealed ∧ s.rcsQualified.rcs.budgetTimer = some 2880000
        else s.rcsQualified.rcs.road = .recovery) := by
  obtain ⟨v, hv⟩ := s.firstPoses_eq
  have hproven := s.firstPoses_poses
  have hq := s.rcsQualified_eq
  have hr := s.firstPoses.recovered_eq
  generalize s.firstPoses = u at hv hproven hq hr
  have hroad : u.rcs.road = s.rcs.road := by rw [hv]; rfl
  rw [hroad] at hr
  generalize u.recovered = w at hq hr
  have hwht : w.ht = s.ht := by
    rw [hr, hv]
    split <;> rfl
  have hwposes : w.poses = u.poses := by
    rw [hr]
    split <;> rfl
  have hoff := w.changeCauses_offRoad fun m => { m with causeLoop := !s.line 0 }
  rw [← hq] at hoff
  have hposes : ∀ g, s.rcsQualified.poses g = s.provenPos g := fun g => by
    rw [← hproven, ← hwposes]
    exact congrFun (congrArg (·.2.1) hoff) g
  refine ⟨(congrArg (·.1.1) hoff :).trans hwht, hposes, congrArg (·.2.2.1) hoff, fun hn hl => ?_, fun hrec => ?_⟩
  · rw [hq, hl, Bool.not_false, State.changeCauses_loop_open]
    rw [if_neg fun h => hn h.1] at hr
    exact (congrArg (·.1) (w.setCauses_roadSide _) :).trans (by rw [hr]; exact hroad)
  · have hwroad : w.rcs.road = .recovery ∨ w.rcs.road = .sealed := by
      rw [hr]
      split
      · exact Or.inr rfl
      · exact Or.inl (hroad.trans hrec)
    rw [State.changeCauses_at_rest hwroad] at hq
    have hside := w.setCauses_roadSide fun m => { m with causeLoop := !s.line 0 }
    have hspan := w.setCauses_spanSide fun m => { m with causeLoop := !s.line 0 }
    rw [← hq] at hside hspan
    have hwspan : w.spanSide = s.spanSide := by
      rw [hr, hv]
      split <;> rfl
    have hgate : w.rcs.causeGate = s.rcs.causeGate ∧ w.rcs.causeSupply = s.rcs.causeSupply := by
      rw [hr, hv]
      split <;> exact ⟨rfl, rfl⟩
    refine ⟨(congrArg (·.2.1) hside :).trans hgate.1, (congrArg (·.2.2.2.1) hside :).trans hgate.2, hspan.trans hwspan, ?_⟩
    have hroad' : s.rcsQualified.rcs.road = w.rcs.road := congrArg (·.1) hside
    have hbudget : s.rcsQualified.rcs.budgetTimer = w.rcs.budgetTimer := congrArg (·.2.2.2.2) hside
    have hdown : (∀ g ∈ Gate.all, s.rcsQualified.poses g = .down) ↔ s.rcs.road = .recovery ∧ ∀ g ∈ Gate.all, u.poses g = .down := by
      simp only [hposes, hproven, hrec, true_and]
    rw [hroad', hbudget]
    by_cases hd : s.rcs.road = .recovery ∧ ∀ g ∈ Gate.all, u.poses g = .down
    · rw [if_pos hd] at hr
      rw [if_pos (hdown.2 hd), hr]
      exact ⟨rfl, rfl⟩
    · rw [if_neg hd] at hr
      rw [if_neg (mt hdown.1 hd), hr]
      exact hroad.trans hrec

/-! ### HT's first levels (R179, R180) -/

theorem State.roadSide_of_rcs {s t : State} (h : t.rcs = s.rcs) : t.roadSide = s.roadSide := by simp only [State.roadSide, h]

theorem State.keepClosedPlaced_roadSide (s : State) : s.keepClosedPlaced.roadSide = s.roadSide := by
  unfold State.keepClosedPlaced
  split
  · rw [State.roadSide_of_rcs (State.issueGates_rcs _)]; rfl
  · rfl

theorem State.smcHoldPlaced_rcs (s : State) (k : HoldKind) : (s.smcHoldPlaced k).rcs = s.rcs :=
  congrArg (·.1) (s.smcHoldPlaced_offSpan k)

theorem State.deliverPlaced_fixed_roadSide (s : State) (i : Fin 4) :
    (s.deliverPlaced (fixedSlot i).2 false).roadSide = s.roadSide := by
  match i with
  | 0 | 1 | 2 => exact State.roadSide_of_rcs (s.smcHoldPlaced_rcs _)
  | 3 => exact s.keepClosedPlaced_roadSide

theorem State.setFixed_roadSide (s : State) (l : List (Fin 4)) : (s.setFixed l true).roadSide = s.roadSide := by
  rw [State.setFixed, if_pos rfl, foldl_keeps (F := State.roadSide) _ State.deliverPlaced_fixed_roadSide,
    foldl_keeps (F := State.roadSide) _ fun u i => State.roadSide_of_rcs (u.placeFixed_rcs i)]

/-- Neither a halt of UNLOCKING and RAISING nor a quick stop has anything to take. -/
def Motion.stays (m : Motion) : Prop := m ≠ .unlocking ∧ m ≠ .raising ∧ m ≠ .lowering ∧ m ≠ .seating

/-- A placement reaches the span in a motion state that a hold stops alone (R73, R74). -/
theorem State.deliverPlaced_fixed_spanSide {s : State} (h : s.smc.motion.stays) (i : Fin 4) :
    (s.deliverPlaced (fixedSlot i).2 false).smc = s.smc ∧ (s.deliverPlaced (fixedSlot i).2 false).mfs = s.mfs := by
  obtain ⟨h1, h2, h3, h4⟩ := h
  have hhalt : s.haltIn [.unlocking, .raising] = s := by simp [State.haltIn, h1, h2]
  have hquick : s.quickStop = s := by rw [State.quickStop, if_neg (by simp [h3, h4])]
  match i with
  | 0 => exact ⟨congrArg State.smc hhalt, congrArg State.mfs hhalt⟩
  | 1 => exact ⟨congrArg State.smc hquick, congrArg State.mfs hquick⟩
  | 2 =>
    have hboth : s.deliverPlaced (fixedSlot 2).2 false = s := by
      show (s.haltIn [.unlocking, .raising]).quickStop = s
      rw [hhalt, hquick]
    exact ⟨congrArg State.smc hboth, congrArg State.mfs hboth⟩
  | 3 =>
    have hspan : s.keepClosedPlaced.spanSide = s.spanSide := by
      unfold State.keepClosedPlaced
      split
      · simp
      · rfl
    exact ⟨congrArg (·.1) hspan, congrArg (·.2.1) hspan⟩

theorem State.setFixed_span {s : State} (h : s.smc.motion.stays) (l : List (Fin 4)) :
    (s.setFixed l true).smc = s.smc ∧ (s.setFixed l true).mfs = s.mfs := by
  have deliver : ∀ (l : List (Fin 4)) (u : State), u.smc.motion.stays →
      (l.foldl (fun s i => s.deliverPlaced (fixedSlot i).2 false) u).smc = u.smc ∧
        (l.foldl (fun s i => s.deliverPlaced (fixedSlot i).2 false) u).mfs = u.mfs := by
    intro l
    induction l with
    | nil => exact fun _ _ => ⟨rfl, rfl⟩
    | cons i l ih =>
      intro u hu
      obtain ⟨h1, h2⟩ := State.deliverPlaced_fixed_spanSide hu i
      obtain ⟨k1, k2⟩ := ih _ (by rw [h1]; exact hu)
      exact ⟨k1.trans h1, k2.trans h2⟩
  have hsmc : (l.foldl State.placeFixed s).smc = s.smc := foldl_keeps (F := State.smc) State.placeFixed (fun _ _ => rfl) l s
  have hmfs : (l.foldl State.placeFixed s).mfs = s.mfs := foldl_keeps (F := State.mfs) State.placeFixed (fun _ _ => rfl) l s
  obtain ⟨k1, k2⟩ := deliver l _ (by rw [hsmc]; exact h)
  rw [State.setFixed, if_pos rfl]
  exact ⟨k1.trans hsmc, k2.trans hmfs⟩

/-- Fixed records placed where their line is energised. -/
theorem State.ite_setFixed {s : State} (l : List (Fin 4)) (c : Bool) :
    let t := if c = true then s.setFixed l true else s
    (∀ i : Fin 12, t.ht.slots[i] = if i ∈ l.map fixedIndex ∧ c = true then (s.ht.slots[i]).follow i true else s.ht.slots[i]) ∧
      t.poses = s.poses ∧ t.roadSide = s.roadSide ∧ t.stores = s.stores ∧
      (s.smc.motion.stays → t.smc = s.smc ∧ t.mfs = s.mfs) := by
  cases c
  · exact ⟨fun i => by simp, rfl, rfl, rfl, fun _ => ⟨rfl, rfl⟩⟩
  · refine ⟨fun i => ?_, s.setFixed_poses l true, s.setFixed_roadSide l, s.setFixed_stores l true, fun h => State.setFixed_span h l⟩
    simpa using (s.setFixed_follows l true).slot i

theorem State.htQualified_spec (s : State) :
    (∀ i : Fin 12, i.val < 4 → s.htQualified.ht.slots[i] =
      if s.line (slotLine i) = true then (s.ht.slots[i]).follow i true else s.ht.slots[i]) ∧
      s.htQualified.poses = s.poses ∧ s.htQualified.roadSide = s.roadSide ∧
      (s.smc.motion.stays → s.htQualified.smc = s.smc ∧ s.htQualified.mfs = s.mfs) := by
  obtain ⟨a, ha⟩ : ∃ a, a = if s.line 43 = true then s.setFixed [0] true else s := ⟨_, rfl⟩
  obtain ⟨b, hb⟩ : ∃ b, b = if a.line 44 = true then a.setFixed [1] true else a := ⟨_, rfl⟩
  have ht : s.htQualified = if b.line 37 = true then b.setFixed [2, 3] true else b := by
    rw [hb, ha]; rfl
  obtain ⟨aslot, aposes, aroad, astores, aspan⟩ := s.ite_setFixed [0] (s.line 43)
  rw [← ha] at aslot aposes aroad astores aspan
  obtain ⟨bslot, bposes, broad, bstores, bspan⟩ := a.ite_setFixed [1] (a.line 44)
  rw [← hb] at bslot bposes broad bstores bspan
  obtain ⟨tslot, tposes, troad, -, tspan⟩ := b.ite_setFixed [2, 3] (b.line 37)
  rw [← ht] at tslot tposes troad tspan
  refine ⟨fun i hi => ?_, (tposes.trans bposes).trans aposes, (troad.trans broad).trans aroad, fun h => ?_⟩
  · rw [tslot, bslot, aslot, State.stores_line bstores, State.stores_line astores, State.stores_line astores]
    have hcase : ∀ i : Fin 12, i.val < 4 → i = 0 ∨ i = 1 ∨ i = 2 ∨ i = 3 := by decide
    obtain rfl | rfl | rfl | rfl := hcase i hi <;> simp [fixedIndex, slotLine]
  · obtain ⟨as, am⟩ := aspan h
    obtain ⟨bs, bm⟩ := bspan (by rw [as]; exact h)
    obtain ⟨ts, tm⟩ := tspan (by rw [bs, as]; exact h)
    exact ⟨(ts.trans bs).trans as, (tm.trans bm).trans am⟩

/-! ### The third sampling instant after the entry (R4) -/

theorem Motion.stays_of_rests {m : Motion}
    (h : m = .tripped ∨ m = .initial ∨ m = .seatedLocked ∨ m = .seated ∨ m = .halted) : m.stays := by
  obtain rfl | rfl | rfl | rfl | rfl := h <;> simp [Motion.stays]

/-- A report leaves a fault ACTIVE that was not where the condition is there. -/
theorem report_enters (v : FaultValue) (b : Bool) : (v.report b = .active ∧ v ≠ .active) ↔ (b = true ∧ v ≠ .active) := by
  cases b <;> cases v <;> simp [FaultValue.report]

section
variable (u : State)

/-- The road and the holds after qualification complete (R102, R109, R179, R180). -/
theorem State.qualificationComplete_road :
    (∀ g, u.qualificationComplete.poses g = u.provenPos g) ∧ u.qualificationComplete.rcs.causeLoop = !u.line 0 ∧
      (u.rcs.road ≠ .recovery → u.line 0 = false → u.qualificationComplete.rcs.road = u.rcs.road) ∧
      (u.rcs.road = .recovery →
        u.qualificationComplete.rcs.causeGate = u.rcs.causeGate ∧ u.qualificationComplete.rcs.causeSupply = u.rcs.causeSupply ∧
        if ∀ g ∈ Gate.all, u.qualificationComplete.poses g = .down then
          u.qualificationComplete.rcs.road = .sealed ∧ u.qualificationComplete.rcs.budgetTimer = some 2880000
        else u.qualificationComplete.rcs.road = .recovery) ∧
      ∀ i : Fin 12, i.val < 4 → u.qualificationComplete.ht.slots[i] =
        if u.line (slotLine i) = true then (u.ht.slots[i]).follow i true else u.ht.slots[i] := by
  have hoff := inAnyOrder_offSpan _ State.takeFirstLevels_offSpan [FirstLevels.om, .smc] u
  have hstores := inAnyOrder_stores _ State.takeFirstLevels_stores [FirstLevels.om, .smc] u
  rw [State.qualificationComplete]
  generalize u.inAnyOrder [FirstLevels.om, .smc] State.takeFirstLevels = v at hoff hstores
  have hrcs : v.rcs = u.rcs := congrArg (·.1) hoff
  have hht : v.ht = u.ht := congrArg (·.2.1) hoff
  obtain ⟨rht, rposes, rloop, rstands, rrecovery⟩ := v.rcsQualified_road
  obtain ⟨tslots, tposes, troad, -⟩ := v.rcsQualified.htQualified_spec
  have hroad : v.rcsQualified.htQualified.rcs.road = v.rcsQualified.rcs.road := congrArg (·.1) troad
  have hgate : v.rcsQualified.htQualified.rcs.causeGate = v.rcsQualified.rcs.causeGate := congrArg (·.2.1) troad
  have hloop : v.rcsQualified.htQualified.rcs.causeLoop = v.rcsQualified.rcs.causeLoop := congrArg (·.2.2.1) troad
  have hsupply : v.rcsQualified.htQualified.rcs.causeSupply = v.rcsQualified.rcs.causeSupply := congrArg (·.2.2.2.1) troad
  have hbudget : v.rcsQualified.htQualified.rcs.budgetTimer = v.rcsQualified.rcs.budgetTimer := congrArg (·.2.2.2.2) troad
  refine ⟨fun g => ?_, ?_, fun hn hl => ?_, fun hrec => ?_, fun i hi => ?_⟩
  · rw [tposes, rposes, State.provenPos_eq, State.provenPos_eq, State.stores_line hstores, State.stores_line hstores]
  · rw [hloop, rloop, State.stores_line hstores]
  · rw [hroad, rstands (by rwa [hrcs]) (by rwa [State.stores_line hstores]), hrcs]
  · obtain ⟨h1, h2, -, h3⟩ := rrecovery (by rwa [hrcs])
    rw [hgate, hsupply, hroad, hbudget, tposes, h1, h2, hrcs]
    exact ⟨rfl, rfl, h3⟩
  · rw [tslots i hi, rht, hht, State.stores_line (State.rcsQualified_stores v), State.stores_line hstores]

/-- The span after qualification complete, out of INITIAL (R15, R58, R78). -/
theorem State.qualificationComplete_levels (hq : u.isQualified = true) (hc : u.configured = true) (hrec : u.rcs.road = .recovery)
    (hm : u.smc.motion = .initial) : u.qualificationComplete.levels = u.decided := by
  have hoff := inAnyOrder_offSpan _ State.takeFirstLevels_offSpan [FirstLevels.om, .smc] u
  have hlevels := State.firstLevels hc hq hm
  rw [State.qualificationComplete]
  generalize u.inAnyOrder [FirstLevels.om, .smc] State.takeFirstLevels = v at hoff hlevels
  have hrcs : v.rcs = u.rcs := congrArg (·.1) hoff
  obtain ⟨-, -, -, -, rrecovery⟩ := v.rcsQualified_road
  obtain ⟨-, -, rspan, -⟩ := rrecovery (by rw [hrcs]; exact hrec)
  obtain ⟨-, -, -, tspan⟩ := v.rcsQualified.htQualified_spec
  have rsmc : v.rcsQualified.smc = v.smc := congrArg (·.1) rspan
  have rmfs : v.rcsQualified.mfs = v.mfs := congrArg (·.2.1) rspan
  have hmotion : v.smc.motion = u.decided.motion := congrArg Levels.motion hlevels
  have hstays : v.smc.motion.stays := by
    rw [hmotion, State.decided]
    refine Motion.stays_of_rests ?_
    simp only []
    split
    · exact Or.inl rfl
    · exact Or.inr u.firstMotion_rests
  obtain ⟨tsmc, tmfs⟩ := tspan (by rw [rsmc]; exact hstays)
  rw [← hlevels]
  simp only [State.levels, State.fault, tsmc, tmfs, rsmc, rmfs]

end

/-- Settles O34. -/
theorem qualificationCompleteTakesFirstLevels : Obligations.QualificationCompleteTakesFirstLevels := by
  intro s lines lamps a b htimer hsamples hnone hslots
  refine ⟨_, rfl, ?_⟩
  have hs : s.sample lines lamps = (s.sampled lines lamps).qualificationComplete := by
    rw [State.sample_eq htimer, hnone, addSample_third (Or.inl hsamples)]
    rfl
  have hqual : (s.sampled lines lamps).isQualified = true := by
    rw [State.isQualified, State.sampled_third (Or.inl hsamples)]
    rfl
  have hstores := State.sample_stores htimer lines lamps
  obtain ⟨hposes, hloop, hstands, hrecovery, hholds⟩ := (s.sampled lines lamps).qualificationComplete_road
  have hlevels := (s.sampled lines lamps).qualificationComplete_levels hqual
  rw [← hs] at hposes hloop hstands hrecovery hholds hlevels
  have hline := State.stores_line hstores
  have hslot : ∀ i : Fin 12, i.val < 4 → (s.sample lines lamps).ht.slots[i] =
      { gen := (s.ht.slots[i]).gen,
        record := if (s.sample lines lamps).line (slotLine i) = true then some (lineHold i) else none } := fun i hi => by
    have hrec := hslots i hi
    rw [hholds i hi, hline]
    split
    · rfl
    · show s.ht.slots[i] = _
      rw [← hrec]
  refine ⟨(congrArg (·.1) hstores :), (State.stores_cs hstores :), (congrArg (·.2.2.2.1) hstores :),
    (congrArg (·.2.2.2.2) hstores :), fun g => ?_, hloop.trans (by rw [hline]), fun hn hl => hstands hn (by rw [← hline]; exact hl), hrecovery,
    fun hc hrec hm => ?_, hslot 0 (by decide), hslot 1 (by decide), hslot 2 (by decide), hslot 3 (by decide)⟩
  · simp only [hline]
    rw [← State.provenPos_eq]
    exact hposes g
  · have h := hlevels hc hrec hm
    simp only [State.levels, State.decided, ← hline, Levels.mk.injEq] at h
    obtain ⟨hmotion, hestop, hover, -⟩ := h
    have hfault0 : (s.sample lines lamps).fault 0 =
        (s.fault 0).report (!s.om.loopClosed || !(s.sample lines lamps).line 0) := hestop
    have hfault2 : (s.sample lines lamps).fault 2 =
        (s.fault 2).report (s.smc.heightOver || !(s.sample lines lamps).line 2 || !(s.sample lines lamps).line 7) := hover
    refine ⟨hfault0, hfault2, hmotion.trans ?_⟩
    simp only [hfault0, hfault2, report_enters, State.firstMotion, hline]
    rfl

end Sys2Proof.Machine
end

section
/-! SUPPORT. What PAU's operations make of the records and the opening: the call-back, the admission test and the aspects
(R158, R160 to R162, R165). -/

namespace Sys2Proof.Machine

/-! ### What the channel is decided from -/

/-- What the admission test and the aspects are decided from. -/
def State.channelReads (s : State) :
    Opening × List (Handle 16) × Vector (Slot Passage) 16 × Mu × Settings × Ht × Nat × PerHead Bool × Motion :=
  (s.pau.opening, s.pau.queue, s.pau.slots, s.mu, s.act, s.ht, s.rcs.budget, s.pg.impaired, s.smc.motion)

section Readings
variable {s t : State} (h : t.channelReads = s.channelReads)
include h

theorem State.channelReads_opening : t.pau.opening = s.pau.opening := congrArg (·.1) h
theorem State.channelReads_queue : t.pau.queue = s.pau.queue := congrArg (·.2.1) h
theorem State.channelReads_slots : t.pau.slots = s.pau.slots := congrArg (·.2.2.1) h
theorem State.channelReads_mu : t.mu = s.mu := congrArg (·.2.2.2.1) h
theorem State.channelReads_act : t.act = s.act := congrArg (·.2.2.2.2.1) h
theorem State.channelReads_impaired : t.pg.impaired = s.pg.impaired := congrArg (·.2.2.2.2.2.2.2.1) h
theorem State.channelReads_motion : t.smc.motion = s.smc.motion := congrArg (·.2.2.2.2.2.2.2.2) h

theorem State.channelReads_hasHold (k : HoldKind) : t.hasHold k = s.hasHold k := by
  have hht : t.ht = s.ht := congrArg (·.2.2.2.2.2.1) h
  simp only [State.hasHold, hht]

theorem State.channelReads_passage (x : Handle 16) : t.passage x = s.passage x := by
  simp only [State.passage, State.channelReads_slots h]

theorem State.channelReads_openClearance : t.openClearance = s.openClearance := by
  have hb : t.rcs.budget = s.rcs.budget := congrArg (·.2.2.2.2.2.2.1) h
  simp only [State.openClearance, State.channelReads_opening h, State.channelReads_hasHold h, State.channelReads_mu h, hb]

theorem State.channelReads_canGo : t.canGo = s.canGo := by
  funext test x
  simp only [State.canGo, State.channelReads_opening h, State.channelReads_passage h, State.channelReads_openClearance h,
    State.channelReads_act h]

theorem State.channelReads_givenDirection : t.givenDirection = s.givenDirection := by
  have hp : t.passage = s.passage := funext (State.channelReads_passage h)
  simp only [State.givenDirection, State.channelReads_opening h, State.channelReads_queue h, State.channelReads_canGo h,
    State.channelReads_impaired h, hp]

theorem State.channelReads_admitted : t.admitted = s.admitted := by
  simp only [State.admitted, State.channelReads_opening h, State.channelReads_givenDirection h, State.channelReads_canGo h,
    State.channelReads_impaired h]

theorem State.channelReads_aspectFor (d : Dir) : t.aspectFor d = s.aspectFor d := by
  simp only [State.aspectFor, State.channelReads_opening h, State.channelReads_passage h, State.channelReads_mu h,
    State.channelReads_act h, State.channelReads_hasHold h, State.channelReads_impaired h, State.channelReads_motion h]

theorem AdmissionTested.of_channelReads {u : State} (k : AdmissionTested t u) : AdmissionTested s u := by
  simpa only [AdmissionTested, State.channelReads_opening h, State.channelReads_queue h, State.channelReads_slots h,
    State.channelReads_givenDirection h, State.channelReads_admitted h] using k

end Readings

/-! ### What is read of PAU alone -/

theorem CalledBack.of_pau {s t s' t' : State} {test : Passage → Bool} (h : CalledBack s t test) (hs : s'.pau = s.pau)
    (ht : t'.pau = t.pau) : CalledBack s' t' test := by
  simpa only [CalledBack, State.calledBack, State.passage, hs, ht] using h

theorem AdmissionTested.of_pau {s t t' : State} (h : AdmissionTested s t) (ht : t'.pau = t.pau) : AdmissionTested s t' := by
  simpa only [AdmissionTested, ht] using h

/-! ### Records marked with a state -/

/-- From `s` to `t` the records whose handles pass `p` are marked with the state `x`; the handles and the filing queue stand. -/
def Marked (p : Handle 16 → Prop) [DecidablePred p] (x : PassState) (s t : State) : Prop :=
  t.pau.queue = s.pau.queue ∧
    ∀ i : Fin 16,
      t.pau.slots[i] =
        { gen := (s.pau.slots[i]).gen,
          record := (s.pau.slots[i]).record.map fun r =>
            if p { slot := i, gen := (s.pau.slots[i]).gen } then { r with state := x } else r }

namespace Marked

variable {p q : Handle 16 → Prop} [DecidablePred p] [DecidablePred q] {x : PassState} {s t u : State}

/-- The record that a handle names afterwards. -/
theorem passage (h : Marked p x s t) (k : Handle 16) :
    t.passage k = (s.passage k).map fun r => if p k then { r with state := x } else r := by
  obtain ⟨i, g⟩ := k
  unfold State.passage
  simp only [h.2 i]
  by_cases hg : (s.pau.slots[i]).gen = g
  · subst hg
    rw [if_pos rfl, if_pos rfl]
  · rw [if_neg hg, if_neg hg, Option.map_none]

theorem isSome (h : Marked p x s t) (k : Handle 16) : (t.passage k).isSome = (s.passage k).isSome := by
  rw [h.passage, Option.isSome_map]

/-- A test of records that no mark changes reads the same. -/
theorem any_eq (h : Marked p x s t) (test : Passage → Bool) (k : Handle 16)
    (ht : ∀ r, s.passage k = some r → p k → test { r with state := x } = test r) :
    (t.passage k).any test = (s.passage k).any test := by
  rw [h.passage, Option.any_map]
  cases hr : s.passage k with
  | none => rfl
  | some r =>
    simp only [Option.any_some]
    split
    · next hp => exact ht r hr hp
    · rfl

theorem refl (h : ∀ k, ¬ p k) : Marked p x s s := by
  refine ⟨rfl, fun i => ?_⟩
  simp only [if_neg (h _), Option.map_id']

/-- Two marks of one state. -/
theorem mark_mark (a b : Prop) [Decidable a] [Decidable b] (x : PassState) (r : Passage) :
    (let m := if a then { r with state := x } else r; if b then { m with state := x } else m) =
      if a ∨ b then { r with state := x } else r := by
  by_cases ha : a
  · simp [ha]
  · simp [ha]

theorem trans (h : Marked p x s t) (k : Marked q x t u) : Marked (fun y => p y ∨ q y) x s u := by
  refine ⟨k.1.trans h.1, fun i => ?_⟩
  rw [k.2 i, h.2 i]
  simp only [Option.map_map, Slot.mk.injEq, true_and]
  exact congrArg (fun f => (s.pau.slots[i]).record.map f) (funext fun r => mark_mark _ _ x r)

theorem congr (h : Marked p x s t) (hpq : ∀ k, p k ↔ q k) : Marked q x s t := by
  refine ⟨h.1, fun i => ?_⟩
  rw [h.2 i]
  simp only [hpq]

/-- The opening does not matter. -/
theorem of_eq (h : Marked p x s t) (hs : u.pau.slots = t.pau.slots) (hq : u.pau.queue = t.pau.queue) : Marked p x s u := by
  unfold Marked at h ⊢
  rw [hs, hq]
  exact h

end Marked

/-- Marking the record that one handle names. -/
theorem State.setPassage_marked {s : State} {h : Handle 16} {r : Passage} (hr : s.passage h = some r) (x : PassState) :
    Marked (· = h) x s (s.setPassage h.slot { r with state := x }) := by
  have hg : (s.pau.slots[h.slot]).gen = h.gen ∧ (s.pau.slots[h.slot]).record = some r := by
    unfold State.passage at hr
    split at hr
    · next hg => exact ⟨hg, hr⟩
    · cases hr
  obtain ⟨hgen, hrec⟩ := hg
  refine ⟨rfl, fun i => ?_⟩
  simp only [State.setPassage, State.onPau_pau, Pau.setRecord, Fin.getElem_fin, Vector.getElem_set]
  by_cases hi : h.slot = i
  · subst hi
    simp only [Fin.getElem_fin] at hgen hrec
    simp [hgen, hrec]
  · have hv : ¬ h.slot.val = i.val := fun e => hi (Fin.ext e)
    have hk : ¬ ({ slot := i, gen := (s.pau.slots[i]).gen } : Handle 16) = h := fun e => hi (by rw [← e])
    simp only [Fin.getElem_fin] at hk
    simp [hv, hk]

/-! ### The call-back (R158, R161, R162, R164) -/

theorem State.backToGrouped_eq (s : State) (h : Handle 16) :
    s.backToGrouped h = { s with pau := (s.backToGrouped h).pau } := by
  unfold State.backToGrouped
  split <;> rfl

/-- The members of a list that are all there return to GROUPED and leave the admission queues. -/
theorem foldl_backToGrouped (l : List (Handle 16)) (s : State) (hl : ∀ h ∈ l, (s.passage h).isSome = true) :
    l.foldl State.backToGrouped s = { s with pau := (l.foldl State.backToGrouped s).pau } ∧
      Marked (· ∈ l) .grouped s (l.foldl State.backToGrouped s) ∧
      (l.foldl State.backToGrouped s).pau.opening =
        { s.pau.opening with
          queueUp := s.pau.opening.queueUp.filter (· ∉ l), queueDown := s.pau.opening.queueDown.filter (· ∉ l) } := by
  induction l generalizing s with
  | nil => exact ⟨rfl, .refl (by simp), by simp⟩
  | cons h l ih =>
    obtain ⟨r, hr⟩ := Option.isSome_iff_exists.1 (hl h List.mem_cons_self)
    have hone : s.backToGrouped h =
        (s.setPassage h.slot { r with state := .grouped }).onOpening fun o =>
          { o with queueUp := o.queueUp.filter (· ≠ h), queueDown := o.queueDown.filter (· ≠ h) } := by
      rw [State.backToGrouped, hr]
    have hmark : Marked (· = h) .grouped s (s.backToGrouped h) := by
      rw [hone]
      exact (State.setPassage_marked hr .grouped).of_eq rfl rfl
    obtain ⟨hrest, hmarked, hopen⟩ := ih (s.backToGrouped h) fun k hk => by
      rw [hmark.isSome]; exact hl k (List.mem_cons_of_mem _ hk)
    rw [List.foldl_cons]
    refine ⟨?_, (hmark.trans hmarked).congr fun k => by simp, ?_⟩
    · rw [hrest, s.backToGrouped_eq h]
    · rw [hopen, hone]
      simp [State.onOpening, State.setPassage, Pau.setRecord, List.filter_filter, Bool.and_comm]

/-- A queue left empty gives the channel back. -/
theorem State.settleDirection_eq (s : State) :
    ∃ u : State,
      u = { s with
            pau :=
              { s.pau with
                opening :=
                  { s.pau.opening with
                    active := heldBy s.pau.opening.active s.pau.opening.queueUp s.pau.opening.queueDown } } } ∧
        s.settleDirection =
          if s.pau.opening.active.isSome ∧ u.pau.opening.active = none ∧ s.pau.opening.state = .admitting then
            u.admissionTest
          else u := by
  refine ⟨_, rfl, ?_⟩
  unfold State.settleDirection
  cases ha : s.opening.active with
  | none =>
    have ha' : s.pau.opening.active = none := ha
    simp only [ha', heldBy, Option.isSome_none, Bool.false_eq_true, false_and, if_false]
    rw [← ha']
  | some d =>
    have ha' : s.pau.opening.active = some d := ha
    have empty : (s.opening.queueOf d).isEmpty = true ↔
        heldBy (some d) s.pau.opening.queueUp s.pau.opening.queueDown = none := by
      cases d <;> simp [heldBy, Opening.queueOf, State.opening]
    simp only [ha', Option.isSome_some, true_and, ← empty]
    by_cases he : (s.opening.queueOf d).isEmpty = true
    · rw [if_pos he, empty.1 he]
      simp only [he, true_and]
      rfl
    · have hheld : heldBy (some d) s.pau.opening.queueUp s.pau.opening.queueDown = some d := by
        cases d <;> simp [heldBy, Opening.queueOf, State.opening] at he ⊢ <;> exact he
      rw [if_neg he, if_neg (fun h => he h.1), hheld, ← ha']

/-- A call-back is that of `CalledBack`, and, where a queue left empty gives the channel back while ADMITTING, an admission test. -/
theorem State.callBack_calledBack (s : State) (test : Passage → Bool) :
    ∃ u : State, u = { s with pau := u.pau } ∧ CalledBack s u test ∧
      (s.callBack test = u ∨ s.pau.opening.state = .admitting ∧ s.callBack test = u.admissionTest) := by
  have hmem : ∀ h, h ∈ (s.membersIn .admitted).filter (fun h => (s.passage h).any test) ↔ s.calledBack test h = true := by
    intro h
    simp only [State.membersIn, State.inState, State.calledBack, List.mem_filter, List.contains_iff_mem, Bool.and_eq_true]
    cases s.passage h <;> simp [and_assoc]
  have hsome : ∀ h ∈ (s.membersIn .admitted).filter (fun h => (s.passage h).any test), (s.passage h).isSome = true := by
    intro h hh
    cases e : s.passage h with
    | none => simp [e] at hh
    | some r => rfl
  obtain ⟨hrest, hmarked, hopen⟩ := foldl_backToGrouped _ s hsome
  have hcall : s.callBack test =
      (((s.membersIn .admitted).filter fun h => (s.passage h).any test).foldl State.backToGrouped s).settleDirection := rfl
  generalize ((s.membersIn .admitted).filter fun h => (s.passage h).any test).foldl State.backToGrouped s = v
    at hrest hmarked hopen hcall
  simp only [hmem] at hopen
  obtain ⟨u, hu, hsettle⟩ := v.settleDirection_eq
  have hstate : v.pau.opening.state = s.pau.opening.state := by rw [hopen]
  have hm : Marked (fun h => s.calledBack test h = true) .grouped s u :=
    (hmarked.congr hmem).of_eq (by rw [hu]) (by rw [hu])
  refine ⟨u, by rw [hu, hrest], ⟨?_, hm⟩, ?_⟩
  · rw [hu]
    simp only [hopen]
    simp
  · rw [hcall, hsettle]
    split
    · next h => exact .inr ⟨hstate ▸ h.2.2, rfl⟩
    · exact .inl rfl

end Sys2Proof.Machine
end

section
/-! SUPPORT. The admission test (R160, R161), the decided aspects (R165), and PAU's measurement set (R162, R163). -/

namespace Sys2Proof.Machine

/-! ### The best candidate (R160) -/

theorem Class.ctorIdx_le_two (k : Machine.Class) : k.ctorIdx ≤ 2 := by cases k <;> decide

/-- Of handles in filing order the best is the first of the lowest class rank. -/
theorem State.bestOf_eq (s : State) (l : List (Handle 16)) (hl : ∀ h ∈ l, s.rankOf h ≤ 2) :
    s.bestOf l =
      (l.filter (s.rankOf · = 0) ++ l.filter (s.rankOf · = 1) ++ l.filter (s.rankOf · = 2)).head? := by
  cases l with
  | nil => rfl
  | cons b t =>
    simp only [State.bestOf]
    induction t generalizing b with
    | nil =>
      have hb := hl b List.mem_cons_self
      obtain h | h | h : s.rankOf b = 0 ∨ s.rankOf b = 1 ∨ s.rankOf b = 2 := by omega
      all_goals simp [h]
    | cons x t ih =>
      have hb := hl b List.mem_cons_self
      have hx := hl x (by simp)
      rw [List.foldl_cons, ih _ fun h hh => by
        obtain rfl | hh := List.mem_cons.1 hh
        · split
          · exact hx
          · exact hb
        · exact hl h (by simp [hh])]
      -- of the first two the one of lower rank stays, and the other stands behind it in the classes' order
      obtain h | h | h : s.rankOf b = 0 ∨ s.rankOf b = 1 ∨ s.rankOf b = 2 := by omega
      all_goals
        obtain k | k | k : s.rankOf x = 0 ∨ s.rankOf x = 1 ∨ s.rankOf x = 2 := by omega
        all_goals simp [h, k, List.head?_append]

/-! ### The admission test (R160, R161) -/

theorem State.admitClearance_eq (s : State) : s.admitClearance = s.openClearance := by
  unfold State.admitClearance State.openClearance
  rw [show s.pau.opening = s.opening from rfl]
  exact if_congr (by simp [and_assoc]) rfl rfl

theorem dirHead_eq (d : Dir) : dirHead d = faces d := by cases d <;> rfl

/-- Without an open clearance nobody can go. -/
theorem State.canGo_of_none {s : State} (h : s.openClearance = none) (test : Passage → Bool) :
    s.canGo test = fun _ => false := by
  funext k
  simp [State.canGo, h]

/-- Under an open clearance those can go whose need it meets. -/
theorem State.canGo_of_some {s : State} {c : Int} (h : s.openClearance = some c) (test : Passage → Bool) (k : Handle 16) :
    s.canGo test k = (s.fits c k && (s.passage k).any test) := by
  unfold State.canGo State.fits
  rw [h]
  cases s.passage k <;> simp [State.opening, Bool.and_assoc]

/-- A handle that can go names a GROUPED record that passes the test. -/
theorem State.canGo_grouped {s : State} {test : Passage → Bool} {k : Handle 16} (h : s.canGo test k = true) :
    ∃ r, s.passage k = some r ∧ r.state = .grouped ∧ test r = true := by
  cases hr : s.passage k with
  | none => simp [State.canGo, hr] at h
  | some r =>
    simp only [State.canGo, hr, Option.any_some, Bool.and_eq_true, decide_eq_true_eq] at h
    exact ⟨r, rfl, h.2.1.1, h.2.2⟩

/-- The direction choice is that of the best candidate (R160). -/
theorem State.chooseDirection_eq {s : State} {c : Int} (h : s.openClearance = some c) (ha : s.pau.opening.active = none) :
    s.chooseDirection c = s.givenDirection := by
  have rank : ∀ {k r}, s.passage k = some r → s.rankOf k = r.cls.ctorIdx := fun {k r} hr => by
    simp [State.rankOf, hr]
  have class_iff : ∀ (n : Nat) (k : Machine.Class), k.ctorIdx = n → ∀ x,
      (decide (s.rankOf x = n) && (s.fits c x && (s.passage x).any fun p => !s.dirImpaired p.dir)) =
        s.canGo (fun r => r.cls = k && !s.pg.impaired.get (faces r.dir)) x := by
    intro n k hk x
    rw [State.canGo_of_some h]
    cases hr : s.passage x with
    | none => simp
    | some r =>
      have hcls : r.cls.ctorIdx = k.ctorIdx ↔ r.cls = k := by
        cases r.cls <;> cases k <;> decide
      simp only [Option.any_some, rank hr, ← hk, hcls, State.dirImpaired, dirHead_eq]
      cases s.fits c x <;> simp
  have hle : ∀ x ∈ s.pau.queue.filter (fun h => s.fits c h && (s.passage h).any fun p => !s.dirImpaired p.dir),
      s.rankOf x ≤ 2 := by
    intro x hx
    cases hr : s.passage x with
    | none => simp [hr] at hx
    | some r => rw [rank hr]; exact Class.ctorIdx_le_two _
  unfold State.chooseDirection State.givenDirection
  simp only [ha, s.bestOf_eq _ hle, List.filter_filter, class_iff 0 .emergency rfl, class_iff 1 .commercial rfl,
    class_iff 2 .routine rfl]
  rw [Option.map_bind]
  rfl

/-- Members that are all there are ADMITTED and join the tail of their direction's queue. -/
theorem foldl_admitMember (d : Dir) (l : List (Handle 16)) (s : State) (hl : ∀ h ∈ l, (s.passage h).isSome = true) :
    l.foldl (State.admitMember d) s = { s with pau := (l.foldl (State.admitMember d) s).pau } ∧
      Marked (· ∈ l) .admitted s (l.foldl (State.admitMember d) s) ∧
      (l.foldl (State.admitMember d) s).pau.opening =
        s.pau.opening.setQueue d (s.pau.opening.queueOf d ++ l) := by
  induction l generalizing s with
  | nil => exact ⟨rfl, .refl (by simp), by cases d <;> simp [Opening.setQueue, Opening.queueOf]⟩
  | cons h l ih =>
    obtain ⟨r, hr⟩ := Option.isSome_iff_exists.1 (hl h List.mem_cons_self)
    have hone : State.admitMember d s h =
        (s.setPassage h.slot { r with state := .admitted }).onOpening fun o => o.setQueue d (o.queueOf d ++ [h]) := by
      rw [State.admitMember, hr]
    have hmark : Marked (· = h) .admitted s (State.admitMember d s h) := by
      rw [hone]
      exact (State.setPassage_marked hr .admitted).of_eq rfl rfl
    obtain ⟨hrest, hmarked, hopen⟩ := ih (State.admitMember d s h) fun k hk => by
      rw [hmark.isSome]; exact hl k (List.mem_cons_of_mem _ hk)
    rw [List.foldl_cons]
    refine ⟨?_, (hmark.trans hmarked).congr fun k => by simp, ?_⟩
    · rw [hrest, hone]
      rfl
    · rw [hopen, hone]
      cases d <;> simp [State.onOpening, State.setPassage, Pau.setRecord, Opening.setQueue, Opening.queueOf]

theorem State.active_of_givenDirection_none {s : State} (h : s.givenDirection = none) : s.pau.opening.active = none := by
  cases ha : s.pau.opening.active with
  | none => rfl
  | some d => simp [State.givenDirection, ha] at h

/-- An admission test without an open clearance or without a candidate changes nothing (R160). -/
theorem State.admissionTest_idle {s : State} (h : s.openClearance = none ∨ s.givenDirection = none) :
    s.admissionTest = s ∧ s.admitted = [] ∧ s.givenDirection = s.pau.opening.active := by
  unfold State.admissionTest
  rw [State.admitClearance_eq]
  cases hc : s.openClearance with
  | none =>
    have hg : s.givenDirection = s.pau.opening.active := by
      unfold State.givenDirection
      cases ha : s.pau.opening.active with
      | none => simp only [State.canGo_of_none hc, List.filter_false]; rfl
      | some d => rfl
    refine ⟨rfl, ?_, hg⟩
    unfold State.admitted
    split <;> simp [State.canGo_of_none hc]
  | some c =>
    have hg := h.resolve_left (by simp [hc])
    have ha := State.active_of_givenDirection_none hg
    have ha' : s.opening.active = none := ha
    have hn : s.chooseDirection c = none := (State.chooseDirection_eq hc ha).trans hg
    exact ⟨by simp only [ha', hn], by simp [State.admitted, hg], hg.trans ha.symm⟩

/-- An admission test under an open clearance gives the direction and admits the members that can go (R160, R161). -/
theorem State.admissionTest_of_some {s : State} {c : Int} {d : Dir} (hc : s.openClearance = some c)
    (hg : s.givenDirection = some d) :
    s.admissionTest = s.admitted.foldl (State.admitMember d) (s.onOpening fun o => { o with active := some d }) := by
  have himp : s.dirImpaired d = s.pg.impaired.get (faces d) := by rw [State.dirImpaired, dirHead_eq]
  have hgo : s.canGo (fun r => r.dir = d) = fun h => s.fits c h && (s.passage h).any fun p => p.dir = d :=
    funext fun h => State.canGo_of_some hc _ h
  have hadm : s.admitted = if s.dirImpaired d then [] else
      s.pau.opening.members.filter fun h => s.fits c h && (s.passage h).any fun p => p.dir = d := by
    simp only [State.admitted, hg, hgo, himp]
  have hchosen : (∃ x, s.opening.active = some x ∧ x = d) ∨ s.opening.active = none ∧ s.chooseDirection c = some d := by
    cases ha : s.pau.opening.active with
    | none => exact .inr ⟨ha, (State.chooseDirection_eq hc ha).trans hg⟩
    | some x => exact .inl ⟨x, ha, by simpa [State.givenDirection, ha] using hg⟩
  have htest : s.admissionTest =
      if s.dirImpaired d then s.onOpening fun o => { o with active := some d }
      else (s.pau.opening.members.filter fun h => s.fits c h && (s.passage h).any fun p => p.dir = d).foldl
        (State.admitMember d) (s.onOpening fun o => { o with active := some d }) := by
    unfold State.admissionTest
    rw [State.admitClearance_eq, hc]
    obtain ⟨x, ha, rfl⟩ | ⟨ha, hd⟩ := hchosen
    · simp only [ha]; rfl
    · simp only [ha, hd]; rfl
  rw [htest, hadm]
  split <;> rfl

theorem State.admitted_grouped {s : State} {h : Handle 16} (hh : h ∈ s.admitted) :
    ∃ r, s.passage h = some r ∧ r.state = .grouped := by
  unfold State.admitted at hh
  split at hh
  · cases hh
  · split at hh
    · cases hh
    · obtain ⟨r, hr, hg, -⟩ := State.canGo_grouped (List.mem_filter.1 hh).2
      exact ⟨r, hr, hg⟩

/-- The admission test of the model is that of `AdmissionTested`, and changes PAU alone. -/
theorem State.admissionTest_tested (s : State) :
    s.admissionTest = { s with pau := s.admissionTest.pau } ∧ AdmissionTested s s.admissionTest := by
  by_cases hidle : s.openClearance = none ∨ s.givenDirection = none
  · obtain ⟨ht, hn, hg⟩ := State.admissionTest_idle hidle
    have hmark : Marked (· ∈ s.admitted) .admitted s s := .refl (by simp [hn])
    rw [ht]
    refine ⟨rfl, ?_, hmark⟩
    simp [hn, hg]
  · obtain ⟨hc, hg⟩ := not_or.1 hidle
    obtain ⟨c, hc⟩ := Option.ne_none_iff_exists'.1 hc
    obtain ⟨d, hg⟩ := Option.ne_none_iff_exists'.1 hg
    rw [State.admissionTest_of_some hc hg]
    obtain ⟨u, hu⟩ : ∃ u, u = s.onOpening fun o => { o with active := some d } := ⟨_, rfl⟩
    rw [← hu]
    have hp : u.passage = s.passage := by rw [hu]; rfl
    obtain ⟨hrest, hmarked, hopen⟩ := foldl_admitMember d s.admitted u fun h hh => by
      obtain ⟨r, hr, -⟩ := State.admitted_grouped hh
      rw [hp, hr]; rfl
    refine ⟨by rw [hrest, hu]; rfl, ?_, by subst hu; exact hmarked⟩
    rw [hopen, hu, hg]
    cases d <;> simp [State.onOpening, Opening.setQueue, Opening.queueOf]

/-- After an admission test another one admits nobody. -/
theorem State.admissionTest_again (s : State) : s.admissionTest.admissionTest = s.admissionTest := by
  by_cases hidle : s.openClearance = none ∨ s.givenDirection = none
  · rw [(State.admissionTest_idle hidle).1, (State.admissionTest_idle hidle).1]
  obtain ⟨hc, hg⟩ := not_or.1 hidle
  obtain ⟨c, hc⟩ := Option.ne_none_iff_exists'.1 hc
  obtain ⟨d, hg⟩ := Option.ne_none_iff_exists'.1 hg
  obtain ⟨hrest, hopen, hmark⟩ := s.admissionTest_tested
  replace hmark : Marked (· ∈ s.admitted) .admitted s s.admissionTest := hmark
  generalize s.admissionTest = t at hrest hopen hmark
  have himp : t.pg.impaired = s.pg.impaired := by rw [hrest]
  have hact : t.act = s.act := by rw [hrest]; rfl
  have hct : t.openClearance = s.openClearance := by
    rw [hrest]
    simp only [State.openClearance, State.hasHold, hopen]
    rfl
  have hactive : t.pau.opening.active = some d := by rw [hopen, hg]
  have hgt : t.givenDirection = some d := by rw [State.givenDirection, hactive]
  -- who can still go could go before, and so has been admitted
  have hn : t.admitted = [] := by
    unfold State.admitted
    simp only [hgt, himp]
    split
    · rfl
    · next hi =>
      refine List.filter_eq_nil_iff.2 fun h hh hgo => ?_
      obtain ⟨r, hr, hgr, -⟩ := State.canGo_grouped hgo
      have hna : h ∉ s.admitted := fun ha => by
        rw [hmark.passage, Option.map_eq_some_iff] at hr
        obtain ⟨r', -, rfl⟩ := hr
        simp [ha] at hgr
      have hpass : t.passage h = s.passage h := by
        rw [hmark.passage]; simp [hna]
      have hmem : t.pau.opening.members = s.pau.opening.members := by rw [hopen]
      apply hna
      simp only [State.admitted, hg, hi, Bool.false_eq_true, if_false]
      refine List.mem_filter.2 ⟨hmem ▸ hh, ?_⟩
      simpa only [State.canGo, hmem, hpass, hct, hact] using hgo
  rw [State.admissionTest_of_some (hct.trans hc) hgt, hn, ← hactive]
  rfl

end Sys2Proof.Machine
end

section
/-! SUPPORT. The decided aspects (R165), and what PAU makes of a measurement set (R162, R163). -/

namespace Sys2Proof.Machine

/-! ### The decided aspects (R165) -/

/-- Some handle of a list names a record in the state. -/
theorem State.inState_nonempty (s : State) (l : List (Handle 16)) (x : PassState) :
    (!(s.inState l x).isEmpty) = l.any fun h => (s.passage h).any fun r => r.state = x := by
  rw [Bool.eq_iff_iff]
  simp [State.inState]

/-- A member in one of two states passes a test. -/
theorem State.membersIn_any_or (s : State) (x y : PassState) (test : Passage → Bool) :
    ((s.membersIn x ++ s.membersIn y).any fun h => (s.passage h).any test) =
      s.pau.opening.members.any fun h => (s.passage h).any fun r => (r.state = x || r.state = y) && test r := by
  have split_any : ∀ h, (s.passage h).any (fun r => (r.state = x || r.state = y) && test r) =
      ((s.passage h).any (fun r => r.state = x) && (s.passage h).any test ||
        (s.passage h).any (fun r => r.state = y) && (s.passage h).any test) := fun h => by
    cases s.passage h <;> simp [Bool.and_or_distrib_right]
  rw [List.any_append, State.membersIn, State.membersIn, State.inState, State.inState, List.any_filter, List.any_filter]
  simp only [split_any]
  rw [Bool.eq_iff_iff]
  simp only [Bool.or_eq_true, List.any_eq_true, ← exists_or, ← and_or_left]

/-- What lets PROCEED be decided for a direction (R165). -/
theorem State.mayProceed_iff (s : State) (d : Dir) :
    s.mayProceed d = true ↔
      s.smc.motion = .holding ∧ s.pau.opening.state = .admitting ∧ s.pau.opening.active = some d ∧
      (s.opening.queueOf d).any (fun h => (s.passage h).any fun r => r.state = .admitted) = true ∧
      s.pg.impaired.get (faces d) = false ∧
      s.clearance.any (fun c => (s.opening.queueOf d).all fun h => (s.passage h).all fun r =>
        !(r.state = .admitted || r.state = .transiting) || (r.need s.act : Int) ≤ c) = true := by
  unfold State.mayProceed
  rw [← s.inState_nonempty, ← dirHead_eq]
  simp only [Bool.and_eq_true, decide_eq_true_eq, and_assoc, Bool.not_eq_true']
  cases s.clearance <;> rfl

/-- The opening takes no joins, or the channel is stopped. -/
theorem OpeningState.isOpen_eq_false_iff (x : OpeningState) : x.isOpen = false ↔ x = .none ∨ x = .closingChannel := by
  cases x <;> decide

/-- The model's table is that of R165. -/
theorem State.decideFor_eq (s : State) (d : Dir) : s.decideFor d = s.aspectFor d := by
  have hstop : (!s.opening.state.isOpen || s.hasHold .marineStop) = true ↔
      s.pau.opening.state = .none ∨ s.pau.opening.state = .closingChannel ∨ s.hasHold .marineStop = true := by
    rw [Bool.or_eq_true, Bool.not_eq_true', OpeningState.isOpen_eq_false_iff, or_assoc]
    rfl
  unfold State.decideFor State.aspectFor
  rw [s.membersIn_any_or]
  cases d <;> exact if_congr hstop rfl (if_congr (s.mayProceed_iff _) rfl rfl)

theorem State.showStep_pau (s : State) (h : Head) (r : RunRec) : (s.showStep h r).pau = s.pau := by
  obtain ⟨v, hv, -⟩ := State.lightStep_eq (s.setRun h { r with
    stepTimer := startTimer (stepTicks (s.act.stepAt r.index)), proving := provingDelay (s.act.stepAt r.index) }) h
    (s.act.stepAt r.index)
  exact (congrArg State.pau hv :)

theorem State.requestAspect_pau (s : State) (h : Head) (a : Aspect) : (s.requestAspect h a).pau = s.pau := by
  unfold State.requestAspect
  simp only []
  split
  · rfl
  · split
    · rfl
    · split
      · exact s.showStep_pau h _
      · rfl

theorem State.requestAdmit_pau (s : State) : s.requestAdmit.pau = s.pau := by
  unfold State.requestAdmit
  simp only []
  split <;> rfl

/-- A head's decided aspect is written, and no more of PAU. -/
theorem State.handAspect_pau (s : State) (d : Dir) : (s.handAspect d).pau = s.pau.setDecided d (s.decideFor d) := by
  unfold State.handAspect
  simp only []
  split
  · next h => rw [h]; cases d <;> rfl
  · split <;> simp only [State.requestAdmit_pau, State.requestAspect_pau, State.onPau_pau]

theorem State.handAspect_channelReads (s : State) (d : Dir) : (s.handAspect d).channelReads = s.channelReads := by
  have hpau := s.handAspect_pau d
  have hsmc := State.offChannel_smc (s.handAspect_offChannel d)
  have hstores := s.handAspect_stores d
  have hoff := s.handAspect_offSpan d
  have hmu : (s.handAspect d).mu = s.mu := congrArg (·.2.2.2.1) hstores
  have hact : (s.handAspect d).act = s.act := congrArg (·.active) (State.stores_cs hstores)
  have hrcs : (s.handAspect d).rcs = s.rcs := congrArg (·.1) hoff
  have hht : (s.handAspect d).ht = s.ht := congrArg (·.2.1) hoff
  have himp : (s.handAspect d).pg.impaired = s.pg.impaired := congrArg (·.2.2.2.1) hoff
  simp only [State.channelReads, hpau, hsmc, hmu, hact, hrcs, hht, himp]
  cases d <;> rfl

theorem State.decideAspects_channelReads (s : State) : s.decideAspects.channelReads = s.channelReads :=
  (State.handAspect_channelReads _ .up).trans (s.handAspect_channelReads .down)

/-- The aspects are decided as R165's table says. -/
theorem State.decideAspects_decided (s : State) : s.decideAspects.aspectsDecided := by
  have hpau : s.decideAspects.pau = (s.pau.setDecided .down (s.aspectFor .down)).setDecided .up (s.aspectFor .up) := by
    rw [State.decideAspects, State.handAspect_pau, State.handAspect_pau, State.decideFor_eq, State.decideFor_eq,
      State.channelReads_aspectFor (s.handAspect_channelReads .down)]
  unfold State.aspectsDecided
  rw [State.channelReads_aspectFor s.decideAspects_channelReads, State.channelReads_aspectFor s.decideAspects_channelReads, hpau]
  exact ⟨rfl, rfl⟩

/-- Decided aspects stay decided while nothing changes that they are decided from. -/
theorem State.aspectsDecided_of_eq {s t : State} (h : t.channelReads = s.channelReads) (hp : t.pau = s.pau)
    (k : s.aspectsDecided) : t.aspectsDecided := by
  unfold State.aspectsDecided at k ⊢
  rw [hp, State.channelReads_aspectFor h, State.channelReads_aspectFor h]
  exact k

/-! ### PAU takes a measurement set (R162, R163) -/

/-- The call-back and the admission test that a set brings. -/
def State.setAdmission (s : State) : State :=
  if s.opening.state = .none then s
  else (s.callBack fun p => match s.clearance with | none => true | some c => c < (p.need s.act : Int)).admissionTest

/-- The evaluation of CLEARANCE_LOW that a set with a clearance brings. -/
def State.setClearance (s : State) : State :=
  match s.clearance with
  | none => s
  | some c => (s.onPau fun u => { u with lastClearance := some c }).evaluateClearance

theorem State.pauTakesSet_eq (s : State) : s.pauTakesSet = s.setAdmission.setClearance.decideAspects := rfl

theorem State.setAdmission_offChannel (s : State) : s.setAdmission.offChannel = s.offChannel := by
  unfold State.setAdmission
  split
  · rfl
  · rw [State.admissionTest_offChannel, State.callBack_offChannel]

/-- The evaluation touches no more than the CLEARANCE_LOW condition, its fault and the alarm. -/
theorem State.setClearance_spec (s : State) :
    s.setClearance.smc = s.smc ∧ s.setClearance.channelReads = s.channelReads ∧
      (∀ f, f ≠ 34 → s.setClearance.fault f = s.fault f) ∧
      s.setClearance.fault 34 =
        match s.clearance with
        | none => s.fault 34
        | some c => (s.fault 34).report (s.pau.opening.members.any fun h =>
            (s.passage h).any fun r => r.state = .transiting && decide (c < (r.need s.act : Int))) := by
  unfold State.setClearance
  cases s.clearance with
  | none => exact ⟨rfl, rfl, fun _ _ => rfl, rfl⟩
  | some c =>
    refine ⟨rfl, rfl, fun f hf => ?_, ?_⟩
    · simp only [State.evaluateClearance, State.reportFault_fault]
      rw [if_neg fun h => hf h.symm]
      rfl
    · have hlow : (s.onPau fun u => { u with lastClearance := some c }).isClearanceLow =
          s.pau.opening.members.any fun h =>
            (s.passage h).any fun r => r.state = .transiting && decide (c < (r.need s.act : Int)) := by
        show (s.membersIn .transiting).any _ = _
        rw [State.membersIn, State.inState, List.any_filter]
        congr 1
        funext h
        show (((s.passage h).any fun p => p.state = .transiting) && (s.passage h).any fun p => c < (p.need s.act : Int)) = _
        cases s.passage h <;> rfl
      simp only [State.evaluateClearance, hlow, State.reportFault_fault, if_true]
      rfl

theorem State.pauTakesSet_smc (s : State) : s.pauTakesSet.smc = s.smc := by
  rw [State.pauTakesSet_eq, State.offChannel_smc (State.decideAspects_offChannel _), (State.setClearance_spec _).1,
    State.offChannel_smc s.setAdmission_offChannel]

theorem State.pauTakesSet_fault (s : State) {f : Fin 37} (hf : f ≠ 34) : s.pauTakesSet.fault f = s.fault f := by
  have hmfs {t u : State} (h : t.mfs = u.mfs) : t.fault f = u.fault f := by simp only [State.fault, h]
  rw [State.pauTakesSet_eq, hmfs (State.offChannel_mfs (State.decideAspects_offChannel _)), (State.setClearance_spec _).2.2.1 f hf,
    hmfs (State.offChannel_mfs s.setAdmission_offChannel)]

theorem State.pauTakesSet_decided (s : State) : s.pauTakesSet.aspectsDecided := State.decideAspects_decided _

/-- While ADMITTING a set brings the call-back and one admission test (R160 to R162). -/
theorem State.setAdmission_admitting {s : State} (h : s.pau.opening.state = .admitting) :
    ∃ u : State, u = { s with pau := u.pau } ∧
      CalledBack s u (fun r => !s.clearance.any fun x => (r.need s.act : Int) ≤ x) ∧ s.setAdmission = u.admissionTest := by
  have htest : (fun p : Passage => match s.clearance with | none => true | some c => decide (c < (p.need s.act : Int))) =
      fun r => !s.clearance.any fun x => (r.need s.act : Int) ≤ x := by
    funext r
    cases s.clearance with
    | none => rfl
    | some c =>
      rw [Option.any_some, ← decide_not]
      exact decide_eq_decide.2 (by omega)
  have hne : ¬ s.opening.state = .none := by
    rw [show s.opening = s.pau.opening from rfl, h]; decide
  obtain ⟨u, hu, hcalled, hcall⟩ := s.callBack_calledBack fun r => !s.clearance.any fun x => (r.need s.act : Int) ≤ x
  refine ⟨u, hu, hcalled, ?_⟩
  rw [State.setAdmission, if_neg hne]
  refine (congrArg (fun f => (s.callBack f).admissionTest) htest).trans ?_
  obtain hc | ⟨-, hc⟩ := hcall
  · exact congrArg State.admissionTest hc
  · exact (congrArg State.admissionTest hc).trans u.admissionTest_again

/-- A call-back and an admission test leave the TRANSITING members as they are. -/
theorem CalledBack.transiting {s u t : State} {test : Passage → Bool} (hc : CalledBack s u test) (ha : AdmissionTested u t)
    (low : Passage → Bool) :
    (t.pau.opening.members.any fun h => (t.passage h).any fun r => r.state = .transiting && low r) =
      s.pau.opening.members.any fun h => (s.passage h).any fun r => r.state = .transiting && low r := by
  obtain ⟨hopen, hback⟩ := hc
  obtain ⟨hopen', hgo⟩ := ha
  replace hback : Marked (fun h => s.calledBack test h = true) .grouped s u := hback
  replace hgo : Marked (· ∈ u.admitted) .admitted u t := hgo
  rw [hopen', hopen]
  congr 1
  funext h
  rw [hgo.any_eq _ h fun r hr ha => ?_, hback.any_eq _ h fun r hr hb => ?_]
  · have hs : r.state = .admitted := by
      simp only [State.calledBack, hr, Option.any_some, Bool.and_eq_true, decide_eq_true_eq] at hb
      exact hb.2.1
    simp [hs]
  · obtain ⟨r', hr', hs⟩ := State.admitted_grouped ha
    obtain rfl : r = r' := Option.some.inj (hr.symm.trans hr')
    simp [hs]

/-- What PAU makes of a set while ADMITTING: the call-back, an admission test, and CLEARANCE_LOW of the TRANSITING members. -/
theorem State.pauTakesSet_admitting {s : State} (h : s.pau.opening.state = .admitting) :
    (∃ u : State, u = { s with pau := u.pau } ∧
      CalledBack s u (fun r => !s.clearance.any fun x => (r.need s.act : Int) ≤ x) ∧ AdmissionTested u s.pauTakesSet) ∧
    s.pauTakesSet.fault 34 = match s.clearance with
      | none => s.fault 34
      | some x => (s.fault 34).report (s.pau.opening.members.any fun h =>
          (s.passage h).any fun r => r.state = .transiting && decide (x < (r.need s.act : Int))) := by
  obtain ⟨u, hu, hcalled, hset⟩ := State.setAdmission_admitting h
  obtain ⟨hrest, htested⟩ := u.admissionTest_tested
  rw [← hset] at hrest htested
  have htrans := hcalled.transiting htested
  obtain ⟨-, hreads, -, h34⟩ := s.setAdmission.setClearance_spec
  have hfinal := (State.decideAspects_channelReads _).trans hreads
  have hmfs : s.pauTakesSet.mfs = s.setAdmission.setClearance.mfs := State.offChannel_mfs (State.decideAspects_offChannel _)
  have hclear : s.setAdmission.clearance = s.clearance := by rw [hrest, hu]; rfl
  have hact : s.setAdmission.act = s.act := by rw [hrest, hu]; rfl
  have hfault : s.setAdmission.fault 34 = s.fault 34 := by rw [hrest, hu]; rfl
  refine ⟨⟨u, hu, hcalled, ?_⟩, ?_⟩
  · obtain ⟨hopen, hq, hslots⟩ := htested
    refine ⟨(State.channelReads_opening hfinal).trans hopen, (State.channelReads_queue hfinal).trans hq, fun i => ?_⟩
    rw [State.pauTakesSet_eq, State.channelReads_slots hfinal]
    exact hslots i
  · rw [show s.pauTakesSet.fault 34 = s.setAdmission.setClearance.fault 34 by simp only [State.fault, hmfs], h34, hclear, hfault,
      hact]
    cases s.clearance with
    | none => rfl
    | some c => exact congrArg (s.fault 34).report (htrans fun r => decide (c < (r.need s.act : Int)))

end Sys2Proof.Machine
end

section
/-! SUPPORT. What SMC makes of a measurement set, as the channel sees it (R53, R58, R65, R67, R75, R78): the motion state goes
on, or stands and then the channel with it. -/

namespace Sys2Proof.Machine

/-! ### The motion states of a set, in the order in which they can follow -/

/-- How far a motion state is in the order in which a measurement set can lead from one to the next. -/
def Motion.progress : Motion → Nat
  | .initial | .raising | .lowering => 0
  | .seating => 1
  | .locking => 2
  | .seatedLocked | .seated | .unlocking | .holding | .halted => 3
  | .tripped => 4

theorem Motion.progress_lt_tripped {m : Motion} (h : m ≠ .tripped) : m.progress < Motion.tripped.progress := by
  cases m <;> simp_all [Motion.progress]

/-- From `s` to `t` the motion state stands, and PAU with it, or it goes on. -/
def ChannelGoesOn (s t : State) : Prop :=
  (t.smc.motion = s.smc.motion ∧ t.pau = s.pau) ∨ s.smc.motion.progress < t.smc.motion.progress

namespace ChannelGoesOn

variable {s t u : State}

theorem trans (h : ChannelGoesOn s t) (k : ChannelGoesOn t u) : ChannelGoesOn s u := by
  obtain ⟨hm, hp⟩ | h := h <;> obtain ⟨km, kp⟩ | k := k
  · exact .inl ⟨km.trans hm, kp.trans hp⟩
  · exact .inr (hm ▸ k)
  · exact .inr (km ▸ h)
  · exact .inr (h.trans k)

theorem progress_le (h : ChannelGoesOn s t) : s.smc.motion.progress ≤ t.smc.motion.progress := by
  obtain ⟨hm, -⟩ | h := h
  · exact (congrArg Motion.progress hm).ge
  · exact h.le

/-- Where the motion state is the same in the end, it has stood throughout, and PAU with it. -/
theorem pau_eq (h : ChannelGoesOn s t) (hm : t.smc.motion = s.smc.motion) : t.pau = s.pau := by
  obtain ⟨-, hp⟩ | h := h
  · exact hp
  · exact absurd (congrArg Motion.progress hm) h.ne'

/-- A step before others that take the motion state no further has not changed it where it is the same in the end. -/
theorem motion_eq (h : ChannelGoesOn s t) (k : t.smc.motion.progress ≤ u.smc.motion.progress)
    (hm : u.smc.motion = s.smc.motion) : t.smc.motion = s.smc.motion := by
  obtain ⟨hm', -⟩ | h := h
  · exact hm'
  · exact absurd (congrArg Motion.progress hm) (h.trans_le k).ne'

end ChannelGoesOn

/-- From `s` to `t` the channel goes on, and no faults have changed but ESTOP, SKEW, OVERTRAVEL and the PROVE faults. -/
structure SpanGoesOn (s t : State) : Prop where
  channel : ChannelGoesOn s t
  fault : ∀ f : Fin 37, 2 < f.val ∧ f.val < 6 ∨ 9 < f.val → t.fault f = s.fault f

namespace SpanGoesOn

variable {s t u : State}

theorem trans (h : SpanGoesOn s t) (k : SpanGoesOn t u) : SpanGoesOn s u :=
  ⟨h.channel.trans k.channel, fun f hf => (k.fault f hf).trans (h.fault f hf)⟩

/-- What touches neither the motion state nor PAU nor MFS. -/
theorem of_eq (hm : t.smc.motion = s.smc.motion) (hp : t.pau = s.pau) (hf : t.mfs = s.mfs) : SpanGoesOn s t :=
  ⟨.inl ⟨hm, hp⟩, fun f _ => by simp only [State.fault, hf]⟩

theorem refl (s : State) : SpanGoesOn s s := .of_eq rfl rfl rfl

/-- What takes the motion state on without MFS. -/
theorem of_lt (hm : s.smc.motion.progress < t.smc.motion.progress) (hf : t.mfs = s.mfs) : SpanGoesOn s t :=
  ⟨.inr hm, fun f _ => by simp only [State.fault, hf]⟩

theorem of_looks (h : LooksAgain s t) : SpanGoesOn s t :=
  ⟨.inl ⟨h.motion, h.pau⟩, fun f hf => h.fault f (by omega)⟩

theorem ite {c : Prop} [Decidable c] {a b : State} (ha : c → SpanGoesOn s a) (hb : ¬ c → SpanGoesOn s b) :
    SpanGoesOn s (if c then a else b) := by
  split
  · next h => exact ha h
  · next h => exact hb h

end SpanGoesOn

/-! ### Trips (R75, R76) -/

theorem State.trip_goesOn (s : State) : SpanGoesOn s s.trip := by
  by_cases h : s.smc.motion = .tripped
  · rw [State.trip, if_pos h]
    exact .refl s
  · have ht := State.trip_tripped h
    exact ⟨.inr (by rw [ht.motion]; exact Motion.progress_lt_tripped h), fun f hf => ht.fault f (by omega)⟩

/-- A report with its delivery: the report, and perhaps a trip. -/
theorem State.tripReport_goesOn (s : State) (f : Fin 37) (b : Bool) : SpanGoesOn (s.reported f b) (s.tripReport f b) := by
  show SpanGoesOn _ (if (s.faultEnters f b && tripsIn f (s.reported f b).smc.motion) = true then (s.reported f b).trip
    else s.reported f b)
  exact .ite (fun _ => State.trip_goesOn _) fun _ => .refl _

theorem State.reported_channel (s : State) (f : Fin 37) (b : Bool) : ChannelGoesOn s (s.reported f b) :=
  .inl ⟨congrArg (·.smc.motion) (s.reported_eq f b), (congrArg State.pau (s.reported_eq f b) :)⟩

theorem State.tripReport_channel (s : State) (f : Fin 37) (b : Bool) : ChannelGoesOn s (s.tripReport f b) :=
  (s.reported_channel f b).trans (s.tripReport_goesOn f b).channel

/-- What a report makes of a fault that no trip touches. -/
theorem State.tripReport_fault_eq (s : State) (f : Fin 37) (b : Bool) {g : Fin 37} (hg : 2 < g.val ∧ g.val < 6 ∨ 9 < g.val) :
    (s.tripReport f b).fault g = if f = g then (s.fault f).report b else s.fault g := by
  rw [(s.tripReport_goesOn f b).fault g hg, State.reported_fault]

theorem State.tripReport_spanGoesOn (s : State) {f : Fin 37} (b : Bool) (hf : f.val ≤ 2) : SpanGoesOn s (s.tripReport f b) :=
  ⟨s.tripReport_channel f b, fun g hg => by rw [s.tripReport_fault_eq f b hg, if_neg]; rintro rfl; omega⟩

/-! ### Seating and locking (R67, R68) -/

theorem State.finishLocking_goesOn (s : State) : SpanGoesOn s s.finishLocking := by
  refine .ite (fun h => .of_lt ?_ rfl) fun _ => .refl s
  have hm : s.smc.motion = .locking := by simpa using (Bool.and_eq_true_iff.1 h).1
  rw [hm]
  show _ < Motion.progress (if s.seatsMade then .seatedLocked else .seated)
  split <;> decide

theorem State.enterLocking_goesOn (s : State) (h : s.smc.motion = .seating) : SpanGoesOn s s.enterLocking := by
  refine .trans ?_ (State.finishLocking_goesOn _)
  refine .of_lt ?_ rfl
  rw [h]
  show _ < Motion.progress .locking
  decide

theorem State.checkSeated_goesOn (s : State) : SpanGoesOn s s.checkSeated := by
  refine .ite (fun h => .ite (fun _ => ?_) fun _ => .of_eq rfl rfl rfl) fun _ => .refl s
  have hm : s.smc.motion = .seating := by simpa using (Bool.and_eq_true_iff.1 h).1
  exact .trans (t := s.onSmc fun m => { m with seatTimer := none }) (.of_eq rfl rfl rfl) (State.enterLocking_goesOn _ hm)

theorem State.stopTower_goesOn (s : State) (t : Tower) : SpanGoesOn s (s.stopTower t) :=
  .of_eq (by rw [(s.stopTower_moves t).smc]) (congrArg State.pau (s.stopTower_offDrive t) :) (s.stopTower_mfs t)

theorem State.seatIfMade_goesOn (s : State) (t : Tower) : SpanGoesOn s (s.seatIfMade t) := by
  refine .ite (fun _ => .ite (fun _ => .refl s) fun _ => ?_) fun _ => .refl s
  refine .trans ?_ (State.stopTower_goesOn _ t)
  exact .of_eq rfl rfl rfl

theorem State.enterSeating_goesOn (s : State) (h : s.smc.motion = .lowering) : SpanGoesOn s (s.enterSeating false) := by
  refine .trans (.trans (.trans ?_ (State.seatIfMade_goesOn _ .a)) (State.seatIfMade_goesOn _ .b)) (State.checkSeated_goesOn _)
  refine .of_lt ?_ rfl
  rw [h]
  show _ < Motion.progress .seating
  decide

/-! ### Arrival (R65) -/

theorem State.closeIfEmpty_offChannel (s : State) : s.closeIfEmpty.offChannel = s.offChannel := by
  simp [State.closeIfEmpty]

theorem State.holdingEntered_offChannel (s : State) : s.holdingEntered.offChannel = s.offChannel := by
  simp [State.holdingEntered, State.closeIfEmpty_offChannel]

theorem Motion.progress_of_moving {m : Motion} (h : m.moving = true) : m.progress < 3 := by
  cases m <;> simp_all [Motion.progress, Motion.moving]

theorem State.checkRest_goesOn (s : State) : SpanGoesOn s s.checkRest := by
  refine .ite (fun h => ?_) fun _ => .refl s
  have hm := Motion.progress_of_moving (Bool.and_eq_true_iff.1 h).1
  split
  · have hoff := State.holdingEntered_offChannel (s.onSmc fun m => { m with motion := .holding, stop := .none })
    exact .of_lt (by rw [State.offChannel_smc hoff]; exact hm) (State.offChannel_mfs hoff :)
  · exact .of_lt hm rfl
  · exact .of_lt hm rfl
  · exact s.checkSeated_goesOn

theorem State.beginStop_goesOn (s : State) (k : StopKind) : SpanGoesOn s (s.beginStop k) := by
  refine .trans (.trans (.trans (.trans ?_ (State.stopTower_goesOn _ .a)) (State.stopTower_goesOn _ .b))
    (State.checkRest_goesOn _)) (.of_looks (State.compare_looks _))
  exact .of_eq rfl rfl rfl

/-! ### SMC takes a set -/

theorem State.leaveInitial_goesOn (s : State) : SpanGoesOn s s.leaveInitial := by
  refine .ite (fun h => .of_lt ?_ rfl) fun _ => .refl s
  have hm : s.smc.motion = .initial := by
    simpa using (Bool.and_eq_true_iff.1 (Bool.and_eq_true_iff.1 h).1).1
  rw [hm]
  show _ < Motion.progress (if s.onSeats then (if s.bothDriven then .seatedLocked else .seated) else .halted)
  split
  · split <;> decide
  · decide

theorem State.goalTest_goesOn (s : State) : SpanGoesOn s s.goalTest := by
  unfold State.goalTest
  split
  · exact .refl s
  · refine .ite (fun _ => .refl s) fun _ => .ite (fun _ => s.beginStop_goesOn _) fun _ => .ite (fun h => ?_) fun _ => .refl s
    have hm : s.smc.motion = .lowering := by simpa using (Bool.and_eq_true_iff.1 h).1
    exact .trans (s.enterSeating_goesOn hm) (.of_looks (State.compare_looks _))

theorem State.speedControl_goesOn (s : State) : SpanGoesOn s s.speedControl :=
  .ite (fun _ => .of_eq rfl rfl rfl) fun _ => .refl s

theorem State.doSetTask_goesOn (s : State) (x : SetTask) : SpanGoesOn s (s.doSetTask x) := by
  cases x with
  | motion => exact .trans (.trans s.leaveInitial_goesOn (State.goalTest_goesOn _)) (State.speedControl_goesOn _)
  | skew x => exact s.tripReport_spanGoesOn _ (by decide)
  | overtravel => exact s.tripReport_spanGoesOn _ (by decide)

theorem State.smcTakesSet_goesOn (s : State) : SpanGoesOn s s.smcTakesSet := by
  unfold State.smcTakesSet
  split
  · exact s.doSetTask_goesOn _
  · exact State.inAnyOrder_keeps (SpanGoesOn s) _ _ _ (fun x _ t ht => ht.trans (t.doSetTask_goesOn x))
      fun k => .of_eq rfl rfl rfl

end Sys2Proof.Machine
end

section
/-! SUPPORT. What MFS makes of a measurement set (R190 to R193, R195), and a scan completion's reports and consumers in whatever
order (R27, R32, R33). -/

namespace Sys2Proof.Machine

/-! ### The SUPPLY monitor takes a value (R191 to R193) -/

/-- A value brings no entry to ALERT with an event, and no exit from ALERT. -/
theorem Monitor.take_event (m : Monitor) (k : ValueKind) (d : Nat) :
    (m.take k d).2 = if m.state = .alertPending ∧ k ≠ .crossed then .toNormal false else .none := by
  obtain ⟨st, dl, lb⟩ := m
  cases st <;> cases k <;> rfl

theorem supplyKind_crossed_iff (c : Settings) (v : Nat) : supplyKind c v = .crossed ↔ (v : Int) < c.supplyLevel := by
  unfold supplyKind
  split
  · next h => simp [h]
  · next h => split <;> simp [h]

theorem supplyKind_back_iff (c : Settings) (v : Nat) :
    supplyKind c v = .back ↔ ¬ (v : Int) < c.supplyLevel ∧ c.supplyLevel + c.supplyHyst ≤ (v : Int) := by
  unfold supplyKind
  split
  · next h => simp [h]
  · next h => split <;> simp_all

/-- R192's first table, by the state of the monitor. -/
theorem Monitor.take_state_delay (m : Monitor) (k : ValueKind) (d : Nat) :
    ((m.take k d).1.state, (m.take k d).1.delay) =
      match m.state with
      | .normal => if k = .crossed then (.alertPending, some d) else (.normal, m.delay)
      | .alertPending => if k = .crossed then (.alertPending, m.delay) else (.normal, none)
      | .alert => if k = .back then (.clearPending, some d) else (.alert, m.delay)
      | .clearPending => if k = .crossed then (.alert, none) else (.clearPending, m.delay) := by
  obtain ⟨st, dl, lb⟩ := m
  cases st <;> cases k <;> rfl

theorem Monitor.take_latestBack (m : Monitor) (k : ValueKind) (d : Nat) : (m.take k d).1.latestBack = decide (k = .back) := by
  obtain ⟨st, dl, lb⟩ := m
  cases st <;> cases k <;> rfl

/-! ### MFS takes a set (R190, R195) -/

/-- What MFS holds of the supply, and the stations' flags. -/
def Mfs.supplySide (m : Mfs) : Option Nat × Monitor × PerPort StationFlags := (m.supplyValue, m.supply, m.flags)

/-- What a code makes of it: the value, the monitor's change, and both fall flags at an entry to NORMAL. -/
def Mfs.withSupply (m : Mfs) (c : Settings) (code : Nat) : Mfs :=
  let v := supplyValueOf c code
  let k := supplyKind c v
  { m with
    supplyValue := some v
    supply := (m.supply.take k (msTicks c.supplyDelay)).1
    flags :=
      if m.supply.state = .alertPending ∧ k ≠ .crossed then
        { operator := { m.flags.operator with supplyFall := true }, traffic := { m.flags.traffic with supplyFall := true } }
      else m.flags }

/-- What a value makes of what MFS holds of the supply: R192's first table, and the fall flags at an entry to NORMAL (R195). -/
theorem Mfs.withSupply_spec (m : Mfs) (c : Settings) (code : Nat) :
    let v := supplyValueOf c code
    let crossed := (v : Int) < c.supplyLevel
    let back := c.supplyLevel + c.supplyHyst ≤ (v : Int)
    let fresh := some (2880 * c.supplyDelay.toNat)
    let t := m.withSupply c code
    t.supplyValue = some v ∧ t.supply.latestBack = decide (¬crossed ∧ back) ∧
      (t.supply.state, t.supply.delay) =
        (match m.supply.state with
         | .normal => if crossed then (.alertPending, fresh) else (.normal, m.supply.delay)
         | .alertPending => if crossed then (.alertPending, m.supply.delay) else (.normal, none)
         | .alert => if ¬crossed ∧ back then (.clearPending, fresh) else (.alert, m.supply.delay)
         | .clearPending => if crossed then (.alert, none) else (.clearPending, m.supply.delay)) ∧
      ∀ p, t.flags.get p =
        if m.supply.state = .alertPending ∧ ¬crossed then { m.flags.get p with supplyFall := true } else m.flags.get p := by
  intro v crossed back fresh t
  refine ⟨rfl, (Monitor.take_latestBack _ _ _).trans (decide_eq_decide.2 (supplyKind_back_iff c v)), ?_, fun p => ?_⟩
  · refine (Monitor.take_state_delay _ _ _).trans ?_
    cases m.supply.state <;> simp only [supplyKind_crossed_iff, supplyKind_back_iff] <;> rfl
  · show PerPort.get (if m.supply.state = .alertPending ∧ supplyKind c v ≠ .crossed then _ else m.flags) p = _
    simp only [ne_eq, supplyKind_crossed_iff]
    split
    · cases p <;> rfl
    · rfl

theorem State.mfsTakesSet_eq (s : State) :
    s.mfsTakesSet =
      match s.mu.set.bind (·.supplyCode) with
      | none => s
      | some code => { s with mfs := s.mfs.withSupply s.act code } := by
  unfold State.mfsTakesSet
  cases s.mu.set.bind (·.supplyCode) with
  | none => rfl
  | some code =>
    simp only [Monitor.take_event, Mfs.withSupply]
    split <;> rfl

theorem Mfs.supplySide_withSupply {m n : Mfs} (h : n.supplySide = m.supplySide) (c : Settings) (code : Nat) :
    (n.withSupply c code).supplySide = (m.withSupply c code).supplySide := by
  simp only [Mfs.supplySide, Prod.mk.injEq] at h
  obtain ⟨-, hs, hf⟩ := h
  simp only [Mfs.supplySide, Mfs.withSupply, hs, hf]

theorem State.mfsTakesSet_goesOn (s : State) : SpanGoesOn s s.mfsTakesSet := by
  rw [State.mfsTakesSet_eq]
  split
  · exact .refl s
  · exact ⟨.inl ⟨rfl, rfl⟩, fun _ _ => rfl⟩

/-! ### One of several things in whatever order -/

/-- What the others keep before and after one of them holds of a free order. -/
theorem State.inAnyOrder_around {α : Type} {f : State → α → State} {l : List α} {x : α} (hx : x ∈ l) (hn : l.Nodup)
    {s : State} {P Q : State → Prop} (h : ∀ k, P { s with free := k })
    (before : ∀ y ∈ l, y ≠ x → ∀ t, P t → P (f t y)) (here : ∀ t, P t → Q (f t x))
    (after : ∀ y ∈ l, y ≠ x → ∀ t, Q t → Q (f t y)) : Q (s.inAnyOrder l f) := by
  have hp := freeOrder_perm l.length s.free l (Nat.le_refl _)
  obtain ⟨l₁, l₂, hl⟩ := List.append_of_mem (hp.mem_iff.2 hx)
  have hnd := hp.nodup_iff.2 hn
  have hmem : ∀ y ∈ l₁ ++ l₂, y ∈ l ∧ y ≠ x := fun y hy => by
    rw [hl, List.nodup_middle, List.nodup_cons] at hnd
    refine ⟨hp.mem_iff.1 ?_, fun e => hnd.1 (e ▸ hy)⟩
    rw [hl]
    obtain hy | hy := List.mem_append.1 hy <;> simp [hy]
  show Q ((freeOrder l.length s.free l).1.foldl f _)
  rw [hl, List.foldl_append, List.foldl_cons]
  refine List.foldlRecOn l₂ f (here _ (List.foldlRecOn l₁ f (h _) fun t ht y hy => ?_)) fun t ht y hy => ?_
  · obtain ⟨hy, hne⟩ := hmem y (List.mem_append_left _ hy)
    exact before y hy hne t ht
  · obtain ⟨hy, hne⟩ := hmem y (List.mem_append_right _ hy)
    exact after y hy hne t ht

/-! ### The reports of a scan completion (R32) -/

/-- The reports that would change a fault's value, in whatever order (R27). -/
def State.reportAll (s : State) (l : List (Fin 37 × Bool)) : State :=
  s.inAnyOrder (l.filter fun x => s.faultChanges x.1 x.2) fun s x => s.tripReport x.1 x.2

theorem State.reportAll_channel (s : State) (l : List (Fin 37 × Bool)) : ChannelGoesOn s (s.reportAll l) :=
  State.inAnyOrder_keeps (ChannelGoesOn s) _ _ _ (fun x _ t ht => ht.trans (t.tripReport_channel x.1 x.2))
    fun _ => .inl ⟨rfl, rfl⟩

theorem State.reportAll_stores (s : State) (l : List (Fin 37 × Bool)) : (s.reportAll l).stores = s.stores :=
  inAnyOrder_stores _ (fun s (x : Fin 37 × Bool) => s.tripReport_stores x.1 x.2) _ s

theorem State.reportAll_offSpan (s : State) (l : List (Fin 37 × Bool)) : (s.reportAll l).offSpan = s.offSpan :=
  inAnyOrder_offSpan _ (fun s (x : Fin 37 × Bool) => s.tripReport_offSpan x.1 x.2) _ s

/-- A fault that no report names stands. -/
theorem State.reportAll_fault_of_notMem (s : State) {l : List (Fin 37 × Bool)} {g : Fin 37}
    (hg : 2 < g.val ∧ g.val < 6 ∨ 9 < g.val) (hn : ∀ x ∈ l, x.1 ≠ g) : (s.reportAll l).fault g = s.fault g := by
  refine State.inAnyOrder_keeps (fun t => t.fault g = s.fault g) _ _ _ (fun x hx t ht => ?_) fun _ => rfl
  rw [t.tripReport_fault_eq _ _ hg, if_neg (hn x (List.mem_filter.1 hx).1), ht]

/-- A fault that one report names has the value that it gives. -/
theorem State.reportAll_fault_of_mem (s : State) {l : List (Fin 37 × Bool)} {g : Fin 37} {b : Bool}
    (hg : 2 < g.val ∧ g.val < 6 ∨ 9 < g.val) (hl : (l.map Prod.fst).Nodup) (h : (g, b) ∈ l) :
    (s.reportAll l).fault g = (s.fault g).report b := by
  have others : ∀ x ∈ l.filter (fun x => s.faultChanges x.1 x.2), x ≠ (g, b) → x.1 ≠ g := fun x hx hne he =>
    hne (List.inj_on_of_nodup_map hl (List.mem_filter.1 hx).1 h he)
  have stands : ∀ v, ∀ x ∈ l.filter (fun x => s.faultChanges x.1 x.2), x ≠ (g, b) → ∀ t : State, t.fault g = v →
      (t.tripReport x.1 x.2).fault g = v := fun v x hx hne t ht => by
    rw [t.tripReport_fault_eq _ _ hg, if_neg (others x hx hne), ht]
  by_cases hc : s.faultChanges g b = true
  · refine State.inAnyOrder_around (x := (g, b)) (List.mem_filter.2 ⟨h, hc⟩) (hl.of_map.filter _)
      (P := fun t => t.fault g = s.fault g) (fun _ => rfl) (stands _) (fun t ht => ?_) (stands _)
    rw [t.tripReport_fault_eq _ _ hg, if_pos rfl, ht]
  · rw [State.report_of_not_changes (by simpa using hc)]
    refine State.inAnyOrder_keeps (fun t => t.fault g = s.fault g) _ _ _ (fun x hx t ht => ?_) fun _ => rfl
    refine stands _ x hx (fun e => hc ?_) t ht
    have hx := (List.mem_filter.1 hx).2
    rwa [e] at hx

/-! ### The consumers of a set (R33) -/

/-- The three consumers, in whatever order. -/
def State.deliverAll (s : State) : State := s.inAnyOrder [Consumer.smc, .pau, .mfs] State.deliverSet

theorem State.deliverSet_goesOn (s : State) {x : Consumer} (h : x ≠ .pau) : SpanGoesOn s (s.deliverSet x) := by
  cases x with
  | smc => exact s.smcTakesSet_goesOn
  | pau => exact absurd rfl h
  | mfs => exact s.mfsTakesSet_goesOn

/-- What no consumer of a set changes of RCS, HT and PG. -/
def State.offSet (s : State) : List Instr × Cs × Iq × Mu × PerPort PortRec × Rcs × Ht × PerHead Bool :=
  (s.pending, s.cs, s.iq, s.mu, s.sp, s.rcs, s.ht, s.pg.impaired)

theorem State.offSet_of_offSpan {s t : State} (h : t.stores = s.stores) (k : t.offSpan = s.offSpan) : t.offSet = s.offSet := by
  simp only [State.stores, Prod.mk.injEq] at h
  simp only [State.offSpan, Prod.mk.injEq] at k
  obtain ⟨h1, h2, h3, h4, h5⟩ := h
  obtain ⟨k1, k2, -, k4, -⟩ := k
  simp only [State.offSet, h1, h2, h3, h4, h5, k1, k2, k4]

/-- A state in which all is alike that no consumer changes, PAU and the motion state, decides the channel alike. -/
theorem State.channelReads_of_offSet {s t : State} (ho : t.offSet = s.offSet) (hp : t.pau = s.pau)
    (hm : t.smc.motion = s.smc.motion) : t.channelReads = s.channelReads := by
  simp only [State.offSet, Prod.mk.injEq] at ho
  obtain ⟨-, hcs, -, hmu, -, hrcs, hht, himp⟩ := ho
  simp only [State.channelReads, hp, hm, hmu, hrcs, hht, himp, State.act, hcs]

theorem State.deliverSet_offSet (s : State) (x : Consumer) : (s.deliverSet x).offSet = s.offSet := by
  cases x with
  | smc => exact State.offSet_of_offSpan s.smcTakesSet_stores s.smcTakesSet_offSpan
  | pau => exact State.offSet_of_offSpan s.pauTakesSet_stores s.pauTakesSet_offSpan
  | mfs =>
    show s.mfsTakesSet.offSet = _
    rw [State.mfsTakesSet_eq]
    split <;> rfl

theorem State.deliverAll_offSet (s : State) : s.deliverAll.offSet = s.offSet :=
  State.inAnyOrder_keeps (fun t => t.offSet = s.offSet) _ _ _ (fun x _ t ht => (t.deliverSet_offSet x).trans ht) fun _ => rfl

/-- A fault that neither SMC nor PAU reports stands. -/
theorem State.deliverAll_fault (s : State) {f : Fin 37} (hf : 2 < f.val ∧ f.val < 6 ∨ 9 < f.val) (h34 : f ≠ 34) :
    s.deliverAll.fault f = s.fault f := by
  refine State.inAnyOrder_keeps (fun t => t.fault f = s.fault f) _ _ _ (fun x _ t ht => ?_) fun _ => rfl
  by_cases hx : x = .pau
  · subst hx
    exact (t.pauTakesSet_fault h34).trans ht
  · exact ((t.deliverSet_goesOn hx).fault f hf).trans ht

/-- PAU takes the set after some of the others, and the rest take it after PAU. -/
theorem State.deliverAll_pau (s : State) :
    ∃ u : State, SpanGoesOn s u ∧ u.offSet = s.offSet ∧ SpanGoesOn u.pauTakesSet s.deliverAll := by
  refine State.inAnyOrder_around (x := Consumer.pau) (by decide) (by decide)
    (P := fun t => SpanGoesOn s t ∧ t.offSet = s.offSet) (Q := fun t => ∃ u, SpanGoesOn s u ∧ u.offSet = s.offSet ∧
      SpanGoesOn u.pauTakesSet t) (fun _ => ⟨.of_eq rfl rfl rfl, rfl⟩) (fun y _ hy t ht => ?_) (fun t ht => ?_)
    (fun y _ hy t ht => ?_)
  · exact ⟨ht.1.trans (t.deliverSet_goesOn hy), (t.deliverSet_offSet y).trans ht.2⟩
  · exact ⟨t, ht.1, ht.2, .refl _⟩
  · obtain ⟨u, hu, ho, hgo⟩ := ht
    exact ⟨u, hu, ho, hgo.trans (t.deliverSet_goesOn hy)⟩

theorem State.supplySide_of_offSpan {s t : State} (h : t.offSpan = s.offSpan) : t.mfs.supplySide = s.mfs.supplySide :=
  congrArg (·.2.2.2.2.1.supplySide) h

/-- What MFS holds of the supply after the three consumers is what its own delivery makes of it. -/
theorem State.deliverAll_supplySide (s : State) : s.deliverAll.mfs.supplySide = s.mfsTakesSet.mfs.supplySide := by
  have others : ∀ y : Consumer, y ≠ .mfs → ∀ t : State,
      (t.deliverSet y).mfs.supplySide = t.mfs.supplySide := fun y hy t => by
    cases y with
    | smc => exact State.supplySide_of_offSpan t.smcTakesSet_offSpan
    | pau => exact State.supplySide_of_offSpan t.pauTakesSet_offSpan
    | mfs => exact absurd rfl hy
  refine State.inAnyOrder_around (x := Consumer.mfs) (by decide) (by decide)
    (P := fun t => t.mfs.supplySide = s.mfs.supplySide ∧ t.offSet = s.offSet)
    (Q := fun t => t.mfs.supplySide = s.mfsTakesSet.mfs.supplySide) (fun _ => ⟨rfl, rfl⟩)
    (fun y _ hy t ht => ⟨(others y hy t).trans ht.1, (t.deliverSet_offSet y).trans ht.2⟩) (fun t ht => ?_)
    (fun y _ hy t ht => (others y hy t).trans ht)
  obtain ⟨hside, hoff⟩ := ht
  have hmu : t.mu = s.mu := congrArg (·.2.2.2.1) hoff
  have hact : t.act = s.act := congrArg (·.2.1.active) hoff
  show t.mfsTakesSet.mfs.supplySide = _
  rw [State.mfsTakesSet_eq, State.mfsTakesSet_eq, hmu, hact]
  cases s.mu.set.bind (·.supplyCode) with
  | none => exact hside
  | some code => exact Mfs.supplySide_withSupply hside _ _

end Sys2Proof.Machine
end

section
/-! SUPPORT. The channels and the set that a scan makes (R22 to R25, R28 to R30, R38 to R42). -/

namespace Sys2Proof.Machine

/-! ### A converted channel (R22 to R25) -/

theorem refInRange_eq {c : Settings} (h : 0 < c.qn) (q : Nat) :
    refInRange c q = decide (((q : Int) - c.qn).natAbs * 50 ≤ c.qn.natAbs) := by
  unfold refInRange
  congr 2
  omega

theorem ChannelState.next_eq (st : ChannelState) (inRange : Bool) :
    st.next inRange =
      if inRange then (match st with | .invalid | .faulted => .priming | .priming | .valid => .valid) else .faulted := by
  cases st <;> cases inRange <;> rfl

section
variable (ch : Channel) (raw k : Nat) (good : Bool) (range : Nat → Bool)

/-- A channel's conversion with the corrected code `k`, which is there with a valid reference alone. -/
def Channel.converted : Channel := ch.convert raw (if good then some k else none) range

theorem Channel.converted_state : (ch.converted raw k good range).state = ch.state.next (good && range k) := by
  cases good <;> rfl

/-- A channel that has become VALID holds its code. -/
theorem Channel.converted_held (h : (ch.converted raw k good range).state = .valid) :
    (ch.converted raw k good range).held = some k := by
  have hgood : good = true := by
    cases good
    · rw [Channel.converted_state, Bool.false_and] at h
      cases hs : ch.state <;> rw [hs] at h <;> cases h
    · rfl
  subst hgood
  exact if_pos h

theorem Channel.converted_validCode :
    (ch.converted raw k good range).validCode = if (ch.converted raw k good range).state = .valid then some k else none := by
  unfold Channel.validCode
  split
  · next h => exact ch.converted_held raw k good range h
  · rfl

end

section
variable (c : Settings) (chs : PerChannel Channel) (codes : RawCodes)

/-- The corrected code of a raw code under the scan's reference (R38). -/
def scanCode (r : BitVec 12) : Nat := correctedCode c r.toNat codes.ch3.toNat

theorem convertAll_c0 : (convertAll c chs codes).c0 =
    chs.c0.converted codes.ch0.toNat (scanCode c codes codes.ch0) (refInRange c codes.ch3.toNat)
      (withinSpan c.cseatA c.ctopA) := rfl

theorem convertAll_c1 : (convertAll c chs codes).c1 =
    chs.c1.converted codes.ch1.toNat (scanCode c codes codes.ch1) (refInRange c codes.ch3.toNat)
      (withinSpan c.cseatB c.ctopB) := rfl

theorem convertAll_c2 : (convertAll c chs codes).c2 =
    if c.waterEnabled then
      chs.c2.converted codes.ch2.toNat (scanCode c codes codes.ch2) (refInRange c codes.ch3.toNat) (withinSpan c.cw0 c.cw1)
    else chs.c2 := rfl

theorem convertAll_c4 : (convertAll c chs codes).c4 =
    chs.c4.converted codes.ch4.toNat (scanCode c codes codes.ch4) (refInRange c codes.ch3.toNat) fun _ => true := rfl

/-! ### The set (R28 to R30, R39 to R42) -/

/-- The heights are there exactly when both positions are VALID, and are those of R39, R40 and R42. -/
theorem setOf_heights (seq : Nat) :
    (setOf c (convertAll c chs codes) seq).heights =
      if (convertAll c chs codes).c0.state = .valid ∧ (convertAll c chs codes).c1.state = .valid then
        some (heightsOf c (scanCode c codes codes.ch0) (scanCode c codes codes.ch1) (setOf c (convertAll c chs codes) seq).water)
      else none := by
  have h0 := Channel.converted_validCode chs.c0 codes.ch0.toNat (scanCode c codes codes.ch0) (refInRange c codes.ch3.toNat)
    (withinSpan c.cseatA c.ctopA)
  have h1 := Channel.converted_validCode chs.c1 codes.ch1.toNat (scanCode c codes codes.ch1) (refInRange c codes.ch3.toNat)
    (withinSpan c.cseatB c.ctopB)
  rw [← convertAll_c0] at h0
  rw [← convertAll_c1] at h1
  simp only [setOf, h0, h1]
  by_cases hA : (convertAll c chs codes).c0.state = .valid <;>
    by_cases hB : (convertAll c chs codes).c1.state = .valid <;> simp [hA, hB]

theorem setOf_heights_isSome (seq : Nat) :
    (setOf c (convertAll c chs codes) seq).heights.isSome = true ↔
      (convertAll c chs codes).c0.state = .valid ∧ (convertAll c chs codes).c1.state = .valid := by
  rw [setOf_heights]
  split
  · next h => exact iff_of_true rfl h
  · next h => exact iff_of_false Bool.false_ne_true h

theorem setOf_heights_eq {seq : Nat} {h : Heights} (hh : (setOf c (convertAll c chs codes) seq).heights = some h) :
    h = heightsOf c (scanCode c codes codes.ch0) (scanCode c codes codes.ch1)
      (setOf c (convertAll c chs codes) seq).water := by
  rw [setOf_heights] at hh
  split at hh
  · exact (Option.some.inj hh).symm
  · cases hh

/-- The water is measured where its channel is enabled and VALID (R30). -/
theorem convertAll_measuredWater :
    measuredWater c (convertAll c chs codes) =
      if c.waterEnabled = true ∧ (convertAll c chs codes).c2.state = .valid then some (waterOf c (scanCode c codes codes.ch2))
      else none := by
  unfold measuredWater
  cases hw : c.waterEnabled with
  | false => simp
  | true =>
    have h2 := Channel.converted_validCode chs.c2 codes.ch2.toNat (scanCode c codes codes.ch2) (refInRange c codes.ch3.toNat)
      (withinSpan c.cw0 c.cw1)
    have hc := convertAll_c2 c chs codes
    rw [hw, if_pos rfl] at hc
    rw [← hc] at h2
    simp only [h2, if_true, true_and]
    split <;> rfl

theorem setOf_measured (seq : Nat) :
    (setOf c (convertAll c chs codes) seq).measured = true ↔
      c.waterEnabled = true ∧ (convertAll c chs codes).c2.state = .valid := by
  show (measuredWater c (convertAll c chs codes)).isSome = true ↔ _
  rw [convertAll_measuredWater]
  split <;> simp_all

theorem setOf_water (seq : Nat) :
    (setOf c (convertAll c chs codes) seq).water =
      if (setOf c (convertAll c chs codes) seq).measured = true then waterOf c (scanCode c codes codes.ch2) else c.wdesign := by
  simp only [setOf_measured]
  show (measuredWater c (convertAll c chs codes)).getD c.wdesign = _
  rw [convertAll_measuredWater]
  split <;> rfl

/-- The supply's code is given while channel 4 is VALID (R31, R190). -/
theorem setOf_supplyCode (seq : Nat) :
    (setOf c (convertAll c chs codes) seq).supplyCode =
      if (convertAll c chs codes).c4.state = .valid then some (scanCode c codes codes.ch4) else none :=
  (Channel.converted_validCode chs.c4 codes.ch4.toNat (scanCode c codes codes.ch4) (refInRange c codes.ch3.toNat)
    fun _ => true :)

end

end Sys2Proof.Machine
end

section
/-! A scan completion publishes one set, reports by its channels, and is taken by SMC, PAU and MFS (R22 to R30, R32, R33, R39 to
R42, R160 to R165, R190 to R195). -/

namespace Sys2Proof.Machine

/-! ### The course of a scan completion (R27) -/

/-- The channel records after a scan under the settings `c`. -/
def State.scanChannels (s : State) (c : Settings) (codes : RawCodes) : PerChannel Channel := convertAll c s.mu.channels codes

/-- The set that the scan publishes. -/
def State.scanSet (s : State) (c : Settings) (codes : RawCodes) : MeasSet := setOf c (s.scanChannels c codes) s.mu.seq

/-- The state with the new channel records and its reports made, before the set is published. -/
def State.scanReported (s : State) (c : Settings) (codes : RawCodes) : State :=
  (s.onMu fun m => { m with channels := s.scanChannels c codes, scan := none, scanTimer := none }).reportAll
    (muConditions c (s.scanChannels c codes))

/-- The state with the set published, before its consumers take it. -/
def State.scanPublished (s : State) (c : Settings) (codes : RawCodes) : State :=
  (s.scanReported c codes).onMu fun u => { u with set := some (s.scanSet c codes), seq := (u.seq + 1) % 65536 }

/-- MU once the scan is complete. -/
def State.scanMu (s : State) (c : Settings) (codes : RawCodes) : Mu :=
  { s.mu with
    channels := s.scanChannels c codes, scan := none, scanTimer := none, set := some (s.scanSet c codes),
    seq := (s.mu.seq + 1) % 65536 }

section
variable (s : State) (c : Settings) (codes : RawCodes)

theorem State.completeScan_eq (h : s.mu.scan = some c) : s.completeScan codes = (s.scanPublished c codes).deliverAll := by
  unfold State.completeScan
  rw [h]
  rfl

theorem State.scanPublished_offSet : (s.scanPublished c codes).offSet = { s with mu := s.scanMu c codes }.offSet := by
  have h := State.offSet_of_offSpan (State.reportAll_stores _ _)
    (State.reportAll_offSpan (s.onMu fun m => { m with channels := s.scanChannels c codes, scan := none, scanTimer := none })
      (muConditions c (s.scanChannels c codes)))
  simp only [State.offSet, Prod.mk.injEq] at h
  obtain ⟨h1, h2, h3, h4, h5, h6, h7, h8⟩ := h
  simp only [State.offSet, Prod.mk.injEq]
  refine ⟨h1, h2, h3, ?_, h5, h6, h7, h8⟩
  show ({ (s.scanReported c codes).mu with set := _, seq := _ } : Mu) = _
  rw [show (s.scanReported c codes).mu = _ from h4]
  rfl

theorem State.scanPublished_channel : ChannelGoesOn s (s.scanPublished c codes) :=
  .trans (u := s.scanPublished c codes) (State.reportAll_channel (s.onMu fun m =>
    { m with channels := s.scanChannels c codes, scan := none, scanTimer := none }) (muConditions c (s.scanChannels c codes)))
    (.inl ⟨rfl, rfl⟩)

theorem State.scanPublished_supplySide : (s.scanPublished c codes).mfs.supplySide = s.mfs.supplySide :=
  State.supplySide_of_offSpan (State.reportAll_offSpan (s.onMu fun m =>
    { m with channels := s.scanChannels c codes, scan := none, scanTimer := none }) (muConditions c (s.scanChannels c codes)))

/-- The faults that MU reports have the values of their reports (R32). -/
theorem State.completeScan_reported {f : Fin 37} {b : Bool} (h : s.mu.scan = some c)
    (hm : (f, b) ∈ muConditions c (s.scanChannels c codes)) :
    (s.completeScan codes).fault f = (s.fault f).report b := by
  have hf : (2 < f.val ∧ f.val < 6 ∨ 9 < f.val) ∧ f ≠ 34 := by
    simp only [muConditions, List.mem_cons, Prod.mk.injEq, List.not_mem_nil, or_false] at hm
    obtain ⟨rfl, -⟩ | ⟨rfl, -⟩ | ⟨rfl, -⟩ | ⟨rfl, -⟩ := hm <;> decide
  rw [State.completeScan_eq s c codes h, State.deliverAll_fault _ hf.1 hf.2]
  exact State.reportAll_fault_of_mem _ hf.1 (by simp [muConditions]) hm

/-! ### The supply (R190 to R195) -/

/-- What MFS holds of the supply after the scan. -/
theorem State.completeScan_supplySide (h : s.mu.scan = some c) :
    (s.completeScan codes).mfs.supplySide =
      if (s.scanChannels c codes).c4.state = .valid then (s.mfs.withSupply s.act (scanCode c codes codes.ch4)).supplySide
      else s.mfs.supplySide := by
  have hoff := s.scanPublished_offSet c codes
  have hmu : (s.scanPublished c codes).mu = s.scanMu c codes := congrArg (·.2.2.2.1) hoff
  have hact : (s.scanPublished c codes).act = s.act := congrArg (·.2.1.active) hoff
  have hside := s.scanPublished_supplySide c codes
  have hcode : (s.scanMu c codes).set.bind (·.supplyCode) =
      if (s.scanChannels c codes).c4.state = .valid then some (scanCode c codes codes.ch4) else none :=
    setOf_supplyCode c s.mu.channels codes s.mu.seq
  rw [State.completeScan_eq s c codes h, State.deliverAll_supplySide, State.mfsTakesSet_eq, hmu, hact, hcode]
  split
  · next hn => rw [hside, if_neg]; intro hv; rw [if_pos hv] at hn; cases hn
  · next code hs =>
    split at hs
    · next hv =>
      rw [if_pos hv]
      cases hs
      exact Mfs.supplySide_withSupply hside _ _
    · cases hs

theorem State.completeScan_supply_stands (h : s.mu.scan = some c) (hn : (s.scanChannels c codes).c4.state ≠ .valid) :
    let t := s.completeScan codes
    t.mfs.supplyValue = s.mfs.supplyValue ∧ t.mfs.supply = s.mfs.supply ∧ t.mfs.flags = s.mfs.flags := by
  have hside := (s.completeScan_supplySide c codes h).trans (if_neg hn)
  simpa only [Mfs.supplySide, Prod.mk.injEq] using hside

theorem State.completeScan_supply_taken (h : s.mu.scan = some c) (hv : (s.scanChannels c codes).c4.state = .valid) :
    let t := s.completeScan codes
    let m := s.mfs.withSupply s.act (scanCode c codes codes.ch4)
    t.mfs.supplyValue = m.supplyValue ∧ t.mfs.supply = m.supply ∧ t.mfs.flags = m.flags := by
  have hside := (s.completeScan_supplySide c codes h).trans (if_pos hv)
  simpa only [Mfs.supplySide, Prod.mk.injEq] using hside

/-! ### The channel (R160 to R165) -/

/-- PAU takes the set in a state that the reports and other consumers have made, and those that come after it go on from there. -/
theorem State.completeScan_pau (h : s.mu.scan = some c) :
    ∃ u : State, ChannelGoesOn s u ∧ u.offSet = { s with mu := s.scanMu c codes }.offSet ∧ u.fault 34 = s.fault 34 ∧
      SpanGoesOn u.pauTakesSet (s.completeScan codes) := by
  obtain ⟨u, hu, ho, hgo⟩ := (s.scanPublished c codes).deliverAll_pau
  rw [State.completeScan_eq s c codes h]
  refine ⟨u, (s.scanPublished_channel c codes).trans hu.channel, ho.trans (s.scanPublished_offSet c codes), ?_, hgo⟩
  rw [hu.fault 34 (by decide)]
  exact State.reportAll_fault_of_notMem _ (by decide) fun x hx => by
    simp only [muConditions, List.mem_cons, List.not_mem_nil, or_false] at hx
    obtain rfl | rfl | rfl | rfl := hx <;> simp

theorem State.completeScan_offSet (h : s.mu.scan = some c) :
    (s.completeScan codes).offSet = { s with mu := s.scanMu c codes }.offSet := by
  rw [State.completeScan_eq s c codes h, State.deliverAll_offSet, State.scanPublished_offSet]

/-- Where the motion state stands, PAU has taken the set with its own record and the motion state as they were, and nothing has
changed in the channel since. -/
theorem State.completeScan_stands (h : s.mu.scan = some c) (hm : (s.completeScan codes).smc.motion = s.smc.motion) :
    ∃ u : State, u.pau = s.pau ∧ u.smc.motion = s.smc.motion ∧ u.offSet = { s with mu := s.scanMu c codes }.offSet ∧
      u.fault 34 = s.fault 34 ∧ (s.completeScan codes).pau = u.pauTakesSet.pau ∧
      (s.completeScan codes).channelReads = u.pauTakesSet.channelReads ∧
      (s.completeScan codes).fault 34 = u.pauTakesSet.fault 34 := by
  obtain ⟨u, hu, ho, h34, hgo⟩ := s.completeScan_pau c codes h
  have hsmc := u.pauTakesSet_smc
  have hum : u.smc.motion = s.smc.motion := hu.motion_eq (hsmc ▸ hgo.channel.progress_le) hm
  have hstand : (s.completeScan codes).smc.motion = u.pauTakesSet.smc.motion := by rw [hm, hsmc, hum]
  have hpau := hgo.channel.pau_eq hstand
  refine ⟨u, hu.pau_eq hum, hum, ho, h34, hpau, State.channelReads_of_offSet ?_ hpau hstand, hgo.fault 34 (by decide)⟩
  rw [State.completeScan_offSet s c codes h, ← ho]
  exact (u.deliverSet_offSet .pau).symm

/-- Where the motion state stands both channel heads are decided in the end (R165). -/
theorem State.completeScan_decided (h : s.mu.scan = some c) (hm : (s.completeScan codes).smc.motion = s.smc.motion) :
    (s.completeScan codes).aspectsDecided := by
  obtain ⟨u, -, -, -, -, hpau, hreads, -⟩ := s.completeScan_stands c codes h hm
  exact State.aspectsDecided_of_eq hreads hpau u.pauTakesSet_decided

/-- While the span stays HOLDING and the opening ADMITTING: the call-back, the admission test and CLEARANCE_LOW (R160 to R163). -/
theorem State.completeScan_admitting (h : s.mu.scan = some c) (ha : s.pau.opening.state = .admitting)
    (hm : (s.completeScan codes).smc.motion = s.smc.motion) :
    let t := s.completeScan codes
    let clear : Option Int := (s.scanSet c codes).heights.map (·.clearanceCm)
    (∃ u : State, u = { s with mu := s.scanMu c codes, pau := u.pau } ∧
      CalledBack { s with mu := s.scanMu c codes } u (fun r => !clear.any fun x => (r.need s.act : Int) ≤ x) ∧
      AdmissionTested u t) ∧
    t.fault 34 = match clear with
      | none => s.fault 34
      | some x => (s.fault 34).report (s.pau.opening.members.any fun h =>
          (s.passage h).any fun r => r.state = .transiting && decide (x < (r.need s.act : Int))) := by
  intro t clear
  obtain ⟨u, hupau, hum, ho, h34, hpau, -, ht34⟩ := s.completeScan_stands c codes h hm
  have hmu : u.mu = s.scanMu c codes := congrArg (·.2.2.2.1) ho
  have hact : u.act = s.act := congrArg (·.2.1.active) ho
  have hclear : u.clearance = clear := by
    simp only [State.clearance, State.heights, hmu]
    rfl
  have hpass : u.passage = s.passage := by
    funext x
    simp only [State.passage, hupau]
  obtain ⟨⟨w, hw, hcalled, htested⟩, hlow⟩ := State.pauTakesSet_admitting (s := u) (hupau ▸ ha)
  rw [hclear, hact] at hcalled
  rw [hclear, h34, hupau, hpass, hact] at hlow
  have hreads : w.channelReads = ({ s with mu := s.scanMu c codes, pau := w.pau } : State).channelReads :=
    State.channelReads_of_offSet ((congrArg State.offSet hw).trans ho) rfl ((congrArg (·.smc.motion) hw).trans hum)
  exact ⟨⟨{ s with mu := s.scanMu c codes, pau := w.pau }, rfl, hcalled.of_pau hupau.symm rfl,
    (htested.of_channelReads hreads).of_pau hpau⟩, ht34.trans hlow⟩

end

/-- Settles O39: the set and the channel records are the arithmetic of the conversion; of the reports and of the consumers, in
whatever order, each alone makes what is said of it; and where the motion state is the same in the end, the channel is as PAU's
delivery left it. -/
theorem scanCompletionPublishesOneSet : Obligations.ScanCompletionPublishesOneSet := by
  intro s codes c hscan hqn q good next code near within
  have hoff := s.completeScan_offSet c codes hscan
  simp only [State.offSet, Prod.mk.injEq] at hoff
  obtain ⟨hpending, hcs, hiq, hmu, hsp, hrcs, hht, -⟩ := hoff
  have hgood : refInRange c codes.ch3.toNat = good := refInRange_eq hqn _
  have converts : ∀ (ch : Channel) (r : BitVec 12) (lo hi : Int),
      (ch.converted r.toNat (code r) (refInRange c codes.ch3.toNat) (withinSpan lo hi)).state = next ch.state (within lo hi r) :=
    fun ch r lo hi => by
      rw [Channel.converted_state, hgood, withinSpan, ← Bool.and_assoc]
      exact ChannelState.next_eq _ _
  have hwater := setOf_water c s.mu.channels codes s.mu.seq
  have reported {f : Fin 37} {b : Bool} := s.completeScan_reported c codes (f := f) (b := b) hscan
  refine ⟨s.completeScan codes, rfl, hpending, hcs, hiq, hrcs, hht, hsp, s.scanSet c codes, ?_⟩
  rw [hmu]
  refine ⟨rfl, rfl, rfl, rfl, ?_, converts _ _ _ _, converts _ _ _ _, ?_, ?_, fun hv => ?_, rfl, rfl,
    setOf_heights_isSome c s.mu.channels codes s.mu.seq, fun h hh => ?_, setOf_measured c s.mu.channels codes s.mu.seq,
    fun hm => ?_, fun hm => ?_, reported (.head _), reported (.tail _ (.head _)), reported (.tail _ (.tail _ (.head _))),
    reported (.tail _ (.tail _ (.tail _ (.head _)))), s.completeScan_supply_stands c codes hscan, fun hv => ?_,
    s.completeScan_decided c codes hscan, fun ha hh ht => ?_⟩
  · rw [← hgood]
    exact ChannelState.next_eq _ _
  · rw [← Bool.and_true good, ← hgood]
    exact (Channel.converted_state _ _ _ _ _).trans (ChannelState.next_eq _ _)
  · show if c.waterEnabled = true then (convertAll c s.mu.channels codes).c2.state = _
      else (convertAll c s.mu.channels codes).c2 = _
    rw [convertAll_c2]
    split
    · exact converts _ _ _ _
    · rfl
  · exact Channel.converted_held _ _ _ _ _ hv
  · rw [setOf_heights_eq c s.mu.channels codes hh]
    exact ⟨rfl, rfl, rfl, rfl, rfl, rfl⟩
  · exact hwater.trans (if_pos hm)
  · exact hwater.trans (if_neg fun hy => Bool.false_ne_true (hm.symm.trans hy))
  · obtain ⟨hvalue, hsupply, hflags⟩ := s.completeScan_supply_taken c codes hscan hv
    obtain ⟨-, hback, hstate, hfall⟩ := s.mfs.withSupply_spec s.act (scanCode c codes codes.ch4)
    rw [hvalue, hsupply, hflags]
    exact ⟨_, rfl, rfl, hback, hstate, hfall⟩
  · exact s.completeScan_admitting c codes hscan ha (ht.trans hh.symm)

end Sys2Proof.Machine
end

section
/-! The clearance and the required lift (R44, R45). -/

namespace Sys2Proof.Machine

/-- A need in centimetres is met by the clearance in centimetres exactly when ten times the need is met in millimetres (R42). -/
theorem heightsOf_meets_iff (c : Settings) (a b : Nat) (w : Int) {need : Nat} (h : 1 ≤ need) :
    (need : Int) ≤ (heightsOf c a b w).clearanceCm ↔ (need : Int) * 10 ≤ (heightsOf c a b w).clearanceMm := by
  show (need : Int) ≤ max 0 ((heightsOf c a b w).clearanceMm / 10) ↔ _
  rw [le_max_iff, or_iff_right (by omega), Int.le_ediv_iff_mul_le (by decide)]

/-- The clearance is the span height raised by E0 − w (R42). -/
theorem heightsOf_clearanceMm (c : Settings) (a b : Nat) (w : Int) :
    (heightsOf c a b w).clearanceMm = c.e0 + (heightsOf c a b w).hs - w := rfl

/-- The span height that gives a passage its need (R45). -/
theorem heightsOf_meets_iff_hs (c : Settings) (a b : Nat) (w : Int) {need : Nat} (h : 1 ≤ need) :
    (need : Int) ≤ (heightsOf c a b w).clearanceCm ↔ (need : Int) * 10 - (c.e0 - w) ≤ (heightsOf c a b w).hs := by
  rw [heightsOf_meets_iff c a b w h, heightsOf_clearanceMm]
  omega

/-- Settles O40: the floor of a tenth keeps the order with whole centimetres, and the lift is at least what is cut off at 0. -/
theorem clearanceMeetsNeedExactlyAtTheLift : Obligations.ClearanceMeetsNeedExactlyAtTheLift := by
  refine ⟨fun s need => decide_eq_true_iff, fun c a b w need h => ⟨heightsOf_meets_iff c a b w h, heightsOf_meets_iff_hs c a b w h⟩,
    fun s a b need h hlift => ?_⟩
  rw [heightsOf_meets_iff_hs _ _ _ _ h]
  exact (Int.self_le_toNat _).trans hlift

end Sys2Proof.Machine
end

section
/-! SUPPORT. The arithmetic of speed control (R47, R48, R50). -/

namespace Sys2Proof.Machine

theorem slew_eq (c : Settings) (out : Nat) (d : Int) :
    slew c out d = ((out : Int) + max (-c.rdec) (min c.racc (d - out))).toNat := rfl

theorem limitRef_eq (c : Settings) (live : Nat) (cand : Int) :
    limitRef c live cand = (max ((live : Int) - max c.racc c.rdec) (min (live + max c.racc c.rdec) cand)).toNat := rfl

/-- The slew limit moves the output toward the demand by at most Racc up and Rdec down, and reaches it where it can (R48). -/
theorem slew_limits {c : Settings} (ha : 0 ≤ c.racc) (hd : 0 ≤ c.rdec) (out : Nat) {d : Int} (h : 0 ≤ d) :
    ((slew c out d : Int) - out ≤ c.racc ∧ (out : Int) - slew c out d ≤ c.rdec) ∧
      ((out : Int) - c.rdec ≤ d → d ≤ out + c.racc → (slew c out d : Int) = d) ∧
      ((slew c out d : Int) ≤ max (out : Int) d ∧ min (out : Int) d ≤ slew c out d) := by
  rw [slew_eq]
  omega

/-- A reference lies within the greater of Racc and Rdec of the live duty, and is its candidate where it can be (R50). -/
theorem limitRef_limits {c : Settings} (ha : 0 ≤ c.racc) (live : Nat) {cand : Int} (h : 0 ≤ cand) :
    ((limitRef c live cand : Int) - live ≤ max c.racc c.rdec ∧ (live : Int) - limitRef c live cand ≤ max c.racc c.rdec) ∧
      ((live : Int) - max c.racc c.rdec ≤ cand → cand ≤ live + max c.racc c.rdec → (limitRef c live cand : Int) = cand) := by
  rw [limitRef_eq]
  omega

/-- The demand lies from 0 to Vmax, with the two plateaus and the ramp between them (R47). -/
theorem demand_limits {c : Settings} (d : Int) (hcreep : 0 ≤ c.vcreep) (hmax : c.vcreep ≤ c.vmax) (hslow : c.zcreep < c.zslow)
    (htol : c.ztol ≤ c.zcreep) :
    0 ≤ demand c d ∧ demand c d ≤ c.vmax ∧ (d ≤ c.ztol → demand c d = 0) ∧
      (c.ztol < d → d ≤ c.zcreep → demand c d = c.vcreep) ∧ (c.zslow ≤ d → demand c d = c.vmax) := by
  unfold demand
  split
  · omega
  · split
    · omega
    · split
      · have hramp : 0 ≤ (c.vmax - c.vcreep) * (d - c.zcreep) / (c.zslow - c.zcreep) :=
          Int.ediv_nonneg (mul_nonneg (by omega) (by omega)) (by omega)
        have htop : (c.vmax - c.vcreep) * (d - c.zcreep) / (c.zslow - c.zcreep) ≤ c.vmax - c.vcreep :=
          Int.ediv_le_of_le_mul (by omega) (mul_le_mul_of_nonneg_left (by omega) (by omega))
        omega
      · omega

end Sys2Proof.Machine
end

section
/-! SUPPORT. What SMC reads at a scan completion, and what stands of it while others take theirs (R27, R33, R75 to R77). -/

namespace Sys2Proof.Machine

/-! ### What SMC reads -/

/-- What SMC reads and holds at a scan completion: its record but for the proving comparisons, the duties, the settings, the levels and
the set. -/
def State.setReads (s : State) : Smc × (Tower → Phase × Bool) × PerTower Speed × Cs × Iq × Mu :=
  ({ s.smc with towers := Smc.reset.towers }, fun w => ((s.tower w).phase, (s.tower w).seated), s.om.speed, s.cs, s.iq, s.mu)

section Readings
variable {s t : State} (h : t.setReads = s.setReads)
include h

theorem State.setReads_motion : t.smc.motion = s.smc.motion := congrArg (·.1.motion) h
theorem State.setReads_stop : t.smc.stop = s.smc.stop := congrArg (·.1.stop) h
theorem State.setReads_target : t.smc.target = s.smc.target := congrArg (·.1.target) h
theorem State.setReads_attendance : t.smc.attendance = s.smc.attendance := congrArg (·.1.attendance) h
theorem State.setReads_seatTimer : t.smc.seatTimer = s.smc.seatTimer := congrArg (·.1.seatTimer) h
theorem State.setReads_out : t.smc.out = s.smc.out := congrArg (·.1.out) h
theorem State.setReads_phase (w : Tower) : (t.tower w).phase = (s.tower w).phase := congrArg (fun r => (r.2.1 w).1) h
theorem State.setReads_seated (w : Tower) : (t.tower w).seated = (s.tower w).seated := congrArg (fun r => (r.2.1 w).2) h
theorem State.setReads_speed : t.om.speed = s.om.speed := congrArg (·.2.2.1) h
theorem State.setReads_act : t.act = s.act := congrArg (·.2.2.2.1.active) h
theorem State.setReads_iq : t.iq = s.iq := congrArg (·.2.2.2.2.1) h
theorem State.setReads_mu : t.mu = s.mu := congrArg (·.2.2.2.2.2) h
theorem State.setReads_line (l : Fin 48) : t.line l = s.line l := by simp only [State.line, State.setReads_iq h]
theorem State.setReads_heights : t.heights = s.heights := by simp only [State.heights, State.setReads_mu h]

theorem State.setReads_onMu (f : Mu → Mu) : (t.onMu f).setReads = (s.onMu f).setReads := by
  simp only [State.setReads, Prod.mk.injEq] at h ⊢
  obtain ⟨hsmc, htower, hspeed, hcs, hiq, hmu⟩ := h
  exact ⟨hsmc, htower, hspeed, hcs, hiq, congrArg f hmu⟩

end Readings

theorem LooksAgain.setReads {s t : State} (h : LooksAgain s t) : t.setReads = s.setReads := by
  have hcs : t.cs = s.cs := (congrArg State.cs h.rest :)
  have hiq : t.iq = s.iq := (congrArg State.iq h.rest :)
  have hmu : t.mu = s.mu := (congrArg State.mu h.rest :)
  have hseated : ∀ w, (t.tower w).seated = (s.tower w).seated := fun w => by rw [h.tower w]
  simp only [State.setReads, h.phase, hseated, h.speed, hcs, hiq, hmu, Prod.mk.injEq, and_true]
  rw [h.smc]

/-- A report changes nothing that SMC reads. -/
theorem State.reported_setReads (s : State) (f : Fin 37) (b : Bool) : (s.reported f b).setReads = s.setReads := by
  rw [s.reported_rest f b]
  rfl

/-! ### PAU and MFS -/

/-- From `s` to `t` nothing has changed that SMC reads, nor its commands and the condition trip faults. -/
structure SpanStands (s t : State) : Prop where
  reads : t.setReads = s.setReads
  fault : ∀ f : Fin 37, f.val < 6 → t.fault f = s.fault f
  cmd : ∀ f : Fin 40, f.val ≤ 11 → t.cmd f = s.cmd f

theorem SpanStands.refl (s : State) : SpanStands s s := ⟨rfl, fun _ _ => rfl, fun _ _ => rfl⟩

theorem SpanStands.trans {s t u : State} (h : SpanStands s t) (k : SpanStands t u) : SpanStands s u :=
  ⟨k.reads.trans h.reads, fun f hf => (k.fault f hf).trans (h.fault f hf), fun f hf => (k.cmd f hf).trans (h.cmd f hf)⟩

theorem State.setClearance_om (s : State) :
    s.setClearance.om.speed = s.om.speed ∧ ∀ f : Fin 40, f.val ≤ 11 → s.setClearance.cmd f = s.cmd f := by
  unfold State.setClearance
  split
  · exact ⟨rfl, fun _ _ => rfl⟩
  · refine ⟨rfl, fun f hf => ?_⟩
    rw [State.evaluateClearance, State.reportFault_cmd, if_neg (by omega)]
    rfl

theorem State.pauTakesSet_spanStands (s : State) : SpanStands s s.pauTakesSet := by
  have hadm := s.setAdmission_offChannel
  obtain ⟨hclear, hcmd⟩ := s.setAdmission.setClearance_om
  have hdec := s.setAdmission.setClearance.decideAspects_offChannel
  have hspeed : s.pauTakesSet.om.speed = s.om.speed :=
    (State.offChannel_speed hdec).trans (hclear.trans (State.offChannel_speed hadm))
  have hst := s.pauTakesSet_stores
  simp only [State.stores, Prod.mk.injEq] at hst
  obtain ⟨-, hcs, hiq, hmu, -⟩ := hst
  refine ⟨?_, fun f hf => s.pauTakesSet_fault (by omega), fun f hf => ?_⟩
  · simp only [State.setReads, State.tower, s.pauTakesSet_smc, hspeed, hcs, hiq, hmu]
  · exact (State.offChannel_cmd hdec f (by omega)).trans ((hcmd f hf).trans (State.offChannel_cmd hadm f (by omega)))

theorem State.mfsTakesSet_spanStands (s : State) : SpanStands s s.mfsTakesSet := by
  rw [State.mfsTakesSet_eq]
  split
  · exact .refl s
  · exact ⟨rfl, fun _ _ => rfl, fun _ _ => rfl⟩

/-- SMC takes the set after some of the others, and the rest take it after SMC. -/
theorem State.deliverAll_smc (s : State) : ∃ u : State, SpanStands s u ∧ SpanStands u.smcTakesSet s.deliverAll := by
  have others : ∀ y : Consumer, y ≠ .smc → ∀ t : State, SpanStands t (t.deliverSet y) := fun y hy t => by
    cases y with
    | smc => exact absurd rfl hy
    | pau => exact t.pauTakesSet_spanStands
    | mfs => exact t.mfsTakesSet_spanStands
  refine State.inAnyOrder_around (x := Consumer.smc) (by decide) (by decide) (P := SpanStands s)
    (Q := fun t => ∃ u, SpanStands s u ∧ SpanStands u.smcTakesSet t) (fun _ => ⟨rfl, fun _ _ => rfl, fun _ _ => rfl⟩)
    (fun y _ hy t ht => ht.trans (others y hy t)) (fun t ht => ⟨t, ht, .refl _⟩) (fun y _ hy t ht => ?_)
  obtain ⟨u, hu, ht⟩ := ht
  exact ⟨u, hu, ht.trans (others y hy t)⟩

/-! ### A tripped span -/

/-- Where the span is tripped it is off, with no output and no target (R57, R75). -/
def State.trippedIsOff (s : State) : Prop := s.smc.motion = .tripped → s.spanIsOff ∧ s.smc.out = 0 ∧ s.smc.target = none

/-- What is read of the span alone. -/
theorem State.trippedIsOff_of_reads {s t : State} (h : t.setReads = s.setReads)
    (hc : ∀ f : Fin 40, f.val ≤ 11 → t.cmd f = s.cmd f) (ho : s.trippedIsOff) : t.trippedIsOff := fun hm => by
  obtain ⟨⟨hcmd, hspeed⟩, hout, htarget⟩ := ho (State.setReads_motion h ▸ hm)
  exact ⟨⟨fun f hf h3 h7 => (hc f hf).trans (hcmd f hf h3 h7), State.setReads_speed h ▸ hspeed⟩,
    (State.setReads_out h).trans hout, (State.setReads_target h).trans htarget⟩

/-- The two warnings of the heights (R53, R78). -/
def State.warnings (s : State) : Bool × Bool := (s.smc.skewWarning, s.smc.heightOver)

theorem State.warnings_of_reads {s t : State} (h : t.setReads = s.setReads) : t.warnings = s.warnings :=
  congrArg (fun r => (r.1.skewWarning, r.1.heightOver)) h

/-- What each report and each task of SMC keeps: the warnings, the stores, and that a tripped span is off. -/
structure TripKept (s t : State) : Prop where
  warnings : t.warnings = s.warnings
  stores : t.stores = s.stores
  off : s.trippedIsOff → t.trippedIsOff

theorem TripKept.trans {s t u : State} (h : TripKept s t) (k : TripKept t u) : TripKept s u :=
  ⟨k.warnings.trans h.warnings, k.stores.trans h.stores, k.off ∘ h.off⟩

theorem State.releaseDirection_warnings (s : State) (t : Tower) : (s.releaseDirection t).warnings = s.warnings := by
  unfold State.releaseDirection
  simp only []
  repeat' split
  all_goals rfl

theorem State.trip_warnings {s : State} (h : s.smc.motion ≠ .tripped) : s.trip.warnings = s.warnings := by
  have hbase : s.tripBase.warnings = s.warnings := by
    have hreleased : ((s.releaseDirection .a).releaseDirection .b).zeroSpeed.warnings = s.warnings :=
      (State.releaseDirection_warnings _ .b).trans (State.releaseDirection_warnings _ .a)
    rw [State.tripBase, ← hreleased]
    generalize ((s.releaseDirection .a).releaseDirection .b).zeroSpeed = u
    have hrest := (foldl_setCmd_false smcCommands u).2
    generalize smcCommands.foldl (fun s f => s.setCmd f false) u = v at hrest
    exact (congrArg State.warnings hrest :)
  have hleft : s.tripBase.holdingLeft.warnings = s.tripBase.warnings := by
    simp only [State.warnings, State.offChannel_smc s.tripBase.holdingLeft_offChannel]
  rw [State.trip_eq h, State.warnings_of_reads (State.compare_looks _).setReads, ← hbase]
  split
  · exact hleft
  · rfl

theorem State.trip_kept (s : State) : TripKept s s.trip := by
  by_cases h : s.smc.motion = .tripped
  · rw [State.trip, if_pos h]
    exact ⟨rfl, rfl, id⟩
  · have ht := State.trip_tripped h
    exact ⟨State.trip_warnings h, s.trip_stores, fun _ _ => ⟨ht.off, ht.out, ht.target⟩⟩

theorem State.reported_kept (s : State) (f : Fin 37) (b : Bool) : TripKept s (s.reported f b) := by
  have hreads := s.reported_setReads f b
  refine ⟨State.warnings_of_reads hreads, (congrArg State.stores (s.reported_rest f b) :),
    State.trippedIsOff_of_reads hreads fun g hg => ?_⟩
  unfold State.reported
  split
  · rw [State.reportFault_cmd, if_neg (by omega)]
  · rfl

/-! ### Reports of the trip faults (R76) -/

/-- A report trips where the fault enters ACTIVE in a motion state of R76's list, and is else no more than a report. -/
theorem State.tripReport_cases (s : State) (f : Fin 37) (b : Bool) :
    s.tripReport f b =
      if s.faultEnters f b = true ∧ tripsIn f s.smc.motion = true then (s.reported f b).trip else s.reported f b := by
  have hm : (s.reported f b).smc.motion = s.smc.motion := State.setReads_motion (s.reported_setReads f b)
  simp only [← hm, ← Bool.and_eq_true]
  rfl

theorem State.tripReport_kept (s : State) (f : Fin 37) (b : Bool) : TripKept s (s.tripReport f b) := by
  rw [State.tripReport_cases]
  split
  · exact (s.reported_kept f b).trans (State.trip_kept _)
  · exact s.reported_kept f b

theorem State.trip_motion (s : State) : s.trip.smc.motion = .tripped := by
  by_cases h : s.smc.motion = .tripped
  · rw [State.trip, if_pos h, h]
  · exact (State.trip_tripped h).motion

theorem State.tripReport_trips {s : State} {f : Fin 37} {b : Bool} (he : s.faultEnters f b = true)
    (ht : tripsIn f s.smc.motion = true) : (s.tripReport f b).smc.motion = .tripped := by
  rw [State.tripReport_cases, if_pos ⟨he, ht⟩, State.trip_motion]

theorem State.tripReport_setReads {s : State} {f : Fin 37} {b : Bool}
    (h : ¬ (s.faultEnters f b = true ∧ tripsIn f s.smc.motion = true)) : (s.tripReport f b).setReads = s.setReads := by
  rw [State.tripReport_cases, if_neg h, State.reported_setReads]

/-- A report reaches its own fault alone among the condition trip faults. -/
theorem State.tripReport_condition (s : State) (f : Fin 37) (b : Bool) {g : Fin 37} (hg : g.val < 6) :
    (s.tripReport f b).fault g = if f = g then (s.fault f).report b else s.fault g := by
  rw [← State.reported_fault, State.tripReport_cases]
  split
  · by_cases h : (s.reported f b).smc.motion = .tripped
    · rw [State.trip, if_pos h]
    · exact (State.trip_tripped h).fault g (Or.inl hg)
  · rfl

/-- Once tripped, tripped to the end. -/
theorem ChannelGoesOn.tripped {s t : State} (h : ChannelGoesOn s t) (hs : s.smc.motion = .tripped) : t.smc.motion = .tripped := by
  by_contra hne
  have hlt := Motion.progress_lt_tripped hne
  have hle := h.progress_le
  rw [hs] at hle
  omega

/-! ### The reports of a scan completion (R32) -/

theorem State.reportAll_kept (s : State) (l : List (Fin 37 × Bool)) : TripKept s (s.reportAll l) :=
  State.inAnyOrder_keeps (TripKept s) _ _ _ (fun x _ t ht => ht.trans (t.tripReport_kept x.1 x.2)) fun _ => ⟨rfl, rfl, id⟩

theorem State.reportAll_condition (s : State) {l : List (Fin 37 × Bool)} {g : Fin 37} (hg : g.val < 6) (hn : ∀ x ∈ l, x.1 ≠ g) :
    (s.reportAll l).fault g = s.fault g := by
  refine State.inAnyOrder_keeps (fun t => t.fault g = s.fault g) _ _ _ (fun x hx t ht => ?_) fun _ => rfl
  rw [t.tripReport_condition _ _ hg, if_neg (hn x (List.mem_filter.1 hx).1), ht]

/-- A report of the list that enters in a motion state where it trips has tripped the span. -/
theorem State.reportAll_trips (s : State) {l : List (Fin 37 × Bool)} {f : Fin 37} {b : Bool} (hf : f.val < 6)
    (hl : (l.map Prod.fst).Nodup) (hx : (f, b) ∈ l) (he : s.faultEnters f b = true) (ht : tripsIn f s.smc.motion = true) :
    (s.reportAll l).smc.motion = .tripped := by
  have hmem : (f, b) ∈ l.filter fun x => s.faultChanges x.1 x.2 := List.mem_filter.2 ⟨hx, by simp [State.faultChanges, he]⟩
  refine State.inAnyOrder_around hmem (hl.of_map.filter _)
    (P := fun t => t.fault f = s.fault f ∧ (t.smc.motion = .tripped ∨ t.smc.motion = s.smc.motion))
    (Q := fun t => t.smc.motion = .tripped) (fun _ => ⟨rfl, .inr rfl⟩) (fun y hy hne t htp => ?_) (fun t htp => ?_)
    (fun y _ _ t htp => (t.tripReport_channel y.1 y.2).tripped htp)
  · obtain ⟨hfault, hmotion⟩ := htp
    have hother : y.1 ≠ f := fun e => hne (List.inj_on_of_nodup_map hl (List.mem_filter.1 hy).1 hx e)
    refine ⟨by rw [t.tripReport_condition _ _ hf, if_neg hother, hfault], ?_⟩
    by_cases hty : t.faultEnters y.1 y.2 = true ∧ tripsIn y.1 t.smc.motion = true
    · exact .inl (State.tripReport_trips hty.1 hty.2)
    · rwa [State.setReads_motion (State.tripReport_setReads hty)]
  · obtain ⟨hfault, hmotion | hmotion⟩ := htp
    · exact (t.tripReport_channel f b).tripped hmotion
    · exact State.tripReport_trips (by rwa [State.faultEnters, hfault]) (by rwa [hmotion])

/-- Where no report of the list trips, SMC reads what it read. -/
theorem State.reportAll_setReads (s : State) {l : List (Fin 37 × Bool)}
    (h : ∀ x ∈ l, s.faultEnters x.1 x.2 = true → tripsIn x.1 s.smc.motion = false) : (s.reportAll l).setReads = s.setReads := by
  refine State.inAnyOrder_keeps (fun t => t.setReads = s.setReads) _ _ _ (fun x hx t ht => ?_) fun _ => rfl
  obtain ⟨hxl, hchanges⟩ := List.mem_filter.1 hx
  refine (State.tripReport_setReads fun hty => ?_).trans ht
  obtain ⟨henters, htrips⟩ := hty
  have hpresent : x.2 = true := (Bool.and_eq_true_iff.1 henters).1
  have hs : s.faultEnters x.1 x.2 = true := by simpa [State.faultChanges, State.faultLatches, hpresent] using hchanges
  rw [State.setReads_motion ht, h x hxl hs] at htrips
  cases htrips

end Sys2Proof.Machine
end

section
/-! SUPPORT. The goals that a measurement set brings the moving span to: arrival (R65) and the entry to SEATING (R67, R68). -/

namespace Sys2Proof.Machine

/-! ### The goals of a motion (R65, R67) -/

/-- A raise is within Ztol of its target (R65). -/
def State.arrives (s : State) : Prop :=
  s.smc.motion = .raising ∧ s.smc.stop = .none ∧
    ∃ h, s.heights = some h ∧ ((s.smc.target.getD 0 : Nat) : Int) - h.hs ≤ s.act.ztol

/-- A lowering is at or below Zcreep (R67). -/
def State.seats (s : State) : Prop :=
  s.smc.motion = .lowering ∧ s.smc.stop = .none ∧ ∃ h, s.heights = some h ∧ max h.hA h.hB ≤ s.act.zcreep

/-- From `s` to `t` the ARRIVAL stop has begun, and has ended where both towers are then at rest (R61, R65). -/
def ArrivalBegun (s t : State) : Prop :=
  t.smc.attendance = .stopped ∧ t.smc.target = s.smc.target ∧ (∀ w, (t.tower w).phase = (s.tower w).phase.stopped) ∧
  if (s.tower .a).phase.stopped = .atRest ∧ (s.tower .b).phase.stopped = .atRest then
    t.smc.motion = .holding ∧ t.smc.stop = .none
  else t.smc.motion = .raising ∧ t.smc.stop = .arrival

/-- From `s` to `t` the span has entered SEATING, and has left it where both towers are seated and at rest (R67, R68). -/
def SeatingBegun (s t : State) : Prop :=
  t.smc.target = none ∧
  (∀ w, (t.tower w).seated = s.line (towerLine w 0) ∧
    (t.tower w).phase = if s.line (towerLine w 0) = true then (s.tower w).phase.stopped else (s.tower w).phase) ∧
  if s.line 1 = true ∧ s.line 6 = true then
    t.smc.seatTimer = none ∧
    if (s.tower .a).phase.stopped = .atRest ∧ (s.tower .b).phase.stopped = .atRest then
      t.smc.motion ∈ [Motion.locking, .seatedLocked, .seated]
    else t.smc.motion = .seating ∧ t.smc.stop = .none
  else t.smc.motion = .seating ∧ t.smc.stop = .none ∧ t.smc.seatTimer = some (2880000 * s.act.seatTime.toNat)

/-- From `s` to `t` the span has gone on as it was, or has left INITIAL. -/
def MotionStands (s t : State) : Prop :=
  t.smc.stop = s.smc.stop ∧ t.smc.target = s.smc.target ∧ (∀ w, (t.tower w).phase = (s.tower w).phase) ∧
    (s.smc.motion ≠ .initial → t.smc.motion = s.smc.motion)

/-- From `s` to `t` the goals of the motion have been tested, and what is reached has begun (R65, R67). -/
structure GoalTaken (s t : State) : Prop where
  arrival : s.arrives → ArrivalBegun s t
  seating : s.seats → SeatingBegun s t
  stands : ¬ s.arrives → ¬ s.seats → MotionStands s t

/-- A span that is raising after its goals were tested has the target that it had (R65). -/
theorem GoalTaken.target_of_raising {s t : State} (h : GoalTaken s t) (hm : t.smc.motion = .raising) :
    t.smc.target = s.smc.target := by
  by_cases ha : s.arrives
  · exact (h.arrival ha).2.1
  · by_cases hs : s.seats
    · obtain ⟨-, -, hcase⟩ := h.seating hs
      rw [hm] at hcase
      split at hcase
      · obtain ⟨-, hcase⟩ := hcase
        split at hcase
        · simp at hcase
        · cases hcase.1
      · cases hcase.1
    · exact (h.stands ha hs).2.1

section Readings
variable {s s' t t' : State} (h : s'.setReads = s.setReads) (k : t'.setReads = t.setReads)
include h

theorem State.setReads_arrives : s'.arrives ↔ s.arrives := by
  simp only [State.arrives, State.setReads_motion h, State.setReads_stop h, State.setReads_heights h, State.setReads_target h,
    State.setReads_act h]

theorem State.setReads_seats : s'.seats ↔ s.seats := by
  simp only [State.seats, State.setReads_motion h, State.setReads_stop h, State.setReads_heights h, State.setReads_act h]

include k

theorem ArrivalBegun.of_reads (hb : ArrivalBegun s t) : ArrivalBegun s' t' := by
  simpa only [ArrivalBegun, State.setReads_target h, State.setReads_phase h, State.setReads_motion k, State.setReads_stop k,
    State.setReads_target k, State.setReads_phase k, State.setReads_attendance k] using hb

theorem SeatingBegun.of_reads (hb : SeatingBegun s t) : SeatingBegun s' t' := by
  simpa only [SeatingBegun, State.setReads_line h, State.setReads_phase h, State.setReads_act h, State.setReads_motion k,
    State.setReads_stop k, State.setReads_target k, State.setReads_phase k, State.setReads_seated k,
    State.setReads_seatTimer k] using hb

theorem MotionStands.of_reads (hb : MotionStands s t) : MotionStands s' t' := by
  simpa only [MotionStands, State.setReads_motion h, State.setReads_stop h, State.setReads_target h, State.setReads_phase h,
    State.setReads_motion k, State.setReads_stop k, State.setReads_target k, State.setReads_phase k] using hb

theorem GoalTaken.of_reads (hb : GoalTaken s t) : GoalTaken s' t' where
  arrival ha := (hb.arrival ((State.setReads_arrives h).1 ha)).of_reads h k
  seating hs := (hb.seating ((State.setReads_seats h).1 hs)).of_reads h k
  stands ha hs := (hb.stands (mt (State.setReads_arrives h).2 ha) (mt (State.setReads_seats h).2 hs)).of_reads h k

end Readings

/-- What the test of the goals leaves: the output while the span still moves, the live duties, the warnings and the condition trip
faults; and it does not trip. -/
structure GoalKept (s t : State) : Prop where
  out : t.smc.motion.moving = true → t.smc.out = s.smc.out
  live : ∀ w, (t.om.speed.get w).live = (s.om.speed.get w).live
  untripped : t.smc.motion = .tripped → s.smc.motion = .tripped
  warnings : t.warnings = s.warnings
  fault : ∀ f : Fin 37, f.val < 6 → t.fault f = s.fault f

theorem GoalKept.looks {s t u : State} (h : GoalKept s t) (k : LooksAgain t u) : GoalKept s u where
  out hm := k.out.trans (h.out (k.motion ▸ hm))
  live w := by rw [k.speed, h.live]
  untripped hm := h.untripped (k.motion ▸ hm)
  warnings := (State.warnings_of_reads k.setReads).trans h.warnings
  fault f hf := (k.fault f (Or.inl hf)).trans (h.fault f hf)

/-! ### Stopping a tower -/

theorem State.setBrake_live (s : State) (t w : Tower) :
    ((s.setBrake t).om.speed.get w).live = (s.om.speed.get w).live := by
  by_cases e : t = w
  · subst e; simp [State.setBrake]
  · simp [State.setBrake, e]

theorem State.stopTower_live (s : State) (t w : Tower) :
    ((s.stopTower t).om.speed.get w).live = (s.om.speed.get w).live := by
  unfold State.stopTower
  split
  case h_2 => exact s.setBrake_live t w
  all_goals rfl

/-- A write of a tower's record that keeps its seated mark. -/
theorem State.setTower_seated {s : State} {t : Tower} {r : TowerRec} (hr : r.seated = (s.tower t).seated) (w : Tower) :
    ((s.setTower t r).tower w).seated = (s.tower w).seated := by
  simp only [State.tower, State.setTower_smc, PerTower.get_set]
  split
  · next e => rw [hr, ← e]; rfl
  · rfl

theorem State.stopTower_seated (s : State) (t w : Tower) : ((s.stopTower t).tower w).seated = (s.tower w).seated := by
  unfold State.stopTower
  split
  case h_2 =>
    refine State.setTower_seated (s := (s.setCmd (towerFn t 2) false).stage t 0) ?_ w
    rfl
  case h_1 | h_3 =>
    refine State.setTower_seated ?_ w
    rfl
  all_goals rfl

/-! ### Arrival (R65) -/

/-- The ARRIVAL stop of both towers, before its end is tested. -/
theorem State.arrival_stops (s : State) :
    ∃ u : State, s.beginStop .arrival = u.checkRest.compare ∧ u.mfs = s.mfs ∧
      (∃ tw, u.smc = { s.smc with stop := .arrival, attendance := .stopped, towers := tw }) ∧
      (∀ w, (u.tower w).phase = (s.tower w).phase.stopped) ∧ ∀ w, (u.om.speed.get w).live = (s.om.speed.get w).live :=
  have both := TowerMoves.both (State.stopTower_moves (s.onSmc fun m => { m with stop := .arrival, attendance := .stopped }) .a)
    (State.stopTower_moves _ .b)
  ⟨_, rfl, by simp, both.1, both.2, fun w => by rw [State.stopTower_live, State.stopTower_live]; rfl⟩

/-- The ARRIVAL stop of a raise: in HOLDING at once where both towers are then at rest. -/
theorem State.beginStop_arrival {s : State} (hm : s.smc.motion = .raising) :
    ArrivalBegun s (s.beginStop .arrival) ∧ GoalKept s (s.beginStop .arrival) := by
  obtain ⟨u, hstop, hmfs, ⟨tw, hsmc⟩, hphase, hlive⟩ := s.arrival_stops
  have hrest : u.checkRest =
      if u.bothAtRest then (u.onSmc fun m => { m with motion := .holding, stop := .none }).holdingEntered else u := by
    simp [State.checkRest, hsmc, hm, Motion.moving]
  have hc := u.bothAtRest_iff
  rw [hphase, hphase] at hc
  have hfault : ∀ f, u.fault f = s.fault f := fun f => by simp only [State.fault, hmfs]
  rw [hstop, hrest]
  split
  · next hb =>
    have hoff := State.holdingEntered_offChannel (u.onSmc fun m => { m with motion := .holding, stop := .none })
    generalize (u.onSmc fun m => { m with motion := .holding, stop := .none }).holdingEntered = v at hoff
    have hvsmc : v.smc = { u.smc with motion := .holding, stop := .none } := State.offChannel_smc hoff
    have hvtower : ∀ w, v.tower w = u.tower w := fun w => by simp only [State.tower, hvsmc]
    have look := v.compare_looks
    refine ⟨⟨?_, ?_, fun w => ?_, ?_⟩, GoalKept.looks ⟨fun hmv => ?_, fun w => ?_, fun ht => ?_, ?_, fun f _ => ?_⟩ look⟩
    · rw [look.attendance, hvsmc, hsmc]
    · rw [look.target, hvsmc, hsmc]
    · rw [look.phase, hvtower, hphase]
    · rw [if_pos (hc.1 hb), look.motion, look.stop, hvsmc]
      exact ⟨rfl, rfl⟩
    · rw [hvsmc] at hmv; cases hmv
    · rw [State.offChannel_speed hoff]; exact hlive w
    · rw [hvsmc] at ht; cases ht
    · simp only [State.warnings, hvsmc, hsmc]
    · rw [← hfault f]; simp only [State.fault, State.offChannel_mfs hoff, State.onSmc_mfs]
  · next hb =>
    have look := u.compare_looks
    refine ⟨⟨?_, ?_, fun w => ?_, ?_⟩, GoalKept.looks ⟨fun _ => ?_, hlive, fun ht => ?_, ?_, fun f _ => hfault f⟩ look⟩
    · rw [look.attendance, hsmc]
    · rw [look.target, hsmc]
    · rw [look.phase, hphase]
    · rw [if_neg fun h => hb (hc.2 h), look.motion, look.stop, hsmc]
      exact ⟨hm, rfl⟩
    · rw [hsmc]
    · rw [hsmc] at ht; exact ht
    · simp only [State.warnings, hsmc]

/-! ### Seating and locking (R67, R68) -/

/-- What marking a tower whose seat is made does: that tower is seated and begins to stop (R51, R67). -/
structure SeatMarked (t : Tower) (s u : State) : Prop where
  smc : u.smc = { s.smc with towers := u.smc.towers }
  phase : ∀ w, (u.tower w).phase = if t = w ∧ s.seatMade t = true then (s.tower w).phase.stopped else (s.tower w).phase
  seated : ∀ w, (u.tower w).seated = if t = w then s.seatMade t else (s.tower w).seated
  live : ∀ w, (u.om.speed.get w).live = (s.om.speed.get w).live
  mfs : u.mfs = s.mfs
  stores : u.stores = s.stores

theorem State.seatIfMade_marks (s : State) (t : Tower) (h : (s.tower t).seated = false) : SeatMarked t s (s.seatIfMade t) := by
  by_cases hm : s.seatMade t = true
  · obtain ⟨v, hv⟩ : ∃ v, v = (s.setTower t { s.tower t with seated := true }).stage t
        ((s.setTower t { s.tower t with seated := true }).reference t 0) := ⟨_, rfl⟩
    have heq : s.seatIfMade t = v.stopTower t := by
      rw [State.seatIfMade, if_pos hm, State.seatTower, if_neg (by simp [h]), hv]
    have htower : ∀ w, v.tower w = if t = w then { s.tower t with seated := true } else s.tower w := fun w => by
      rw [hv]; simp [State.tower]
    have hmoves := v.stopTower_moves t
    rw [heq]
    refine ⟨?_, fun w => ?_, fun w => ?_, fun w => ?_, ?_, ?_⟩
    · rw [hmoves.smc, hv]; rfl
    · rw [hmoves.phase, htower, htower]
      by_cases e : t = w
      · subst e; simp [hm]
      · simp [e]
    · rw [State.stopTower_seated, htower, hm]
      split <;> rfl
    · rw [State.stopTower_live, hv]
      by_cases e : t = w
      · subst e; simp
      · simp [e]
    · rw [State.stopTower_mfs, hv]; rfl
    · rw [State.stopTower_stores, hv]; rfl
  · have hf : s.seatMade t = false := by simpa using hm
    rw [State.seatIfMade, if_neg hm]
    refine ⟨rfl, fun w => by simp [hf], fun w => ?_, fun _ => rfl, rfl, rfl⟩
    split
    · next e => rw [← e, h, hf]
    · rfl

/-- The entry to SEATING from LOWERING, before its end is tested. -/
theorem State.enterSeating_marks (s : State) :
    ∃ u : State, s.enterSeating false = u.checkSeated ∧ u.mfs = s.mfs ∧
      (∃ tw, u.smc = { s.smc with
        motion := .seating, target := none, seatTimer := some (2880000 * s.act.seatTime.toNat), towers := tw }) ∧
      (∀ w, (u.tower w).seated = s.line (towerLine w 0) ∧
        (u.tower w).phase = if s.line (towerLine w 0) = true then (s.tower w).phase.stopped else (s.tower w).phase) ∧
      ∀ w, (u.om.speed.get w).live = (s.om.speed.get w).live := by
  obtain ⟨e, he⟩ : ∃ e, e = s.onSmc fun m =>
      { m with motion := .seating, target := none, seatTimer := startTimer (secTicks s.act.seatTime),
               towers := { a := { m.towers.a with seated := false }, b := { m.towers.b with seated := false } } } := ⟨_, rfl⟩
  have heq : s.enterSeating false = ((e.seatIfMade .a).seatIfMade .b).checkSeated := by rw [he]; rfl
  have hunseated : ∀ w, (e.tower w).seated = false := fun w => by rw [he]; cases w <;> rfl
  have hphase : ∀ w, (e.tower w).phase = (s.tower w).phase := fun w => by rw [he]; cases w <;> rfl
  have hmade : ∀ w, e.seatMade w = s.line (towerLine w 0) := fun w => by rw [he]; rfl
  have ha := e.seatIfMade_marks .a (hunseated .a)
  have hb := (e.seatIfMade .a).seatIfMade_marks .b (by rw [ha.seated, if_neg (by decide), hunseated])
  have hmadeb : (e.seatIfMade .a).seatMade .b = s.line (towerLine .b 0) := by
    rw [← hmade]; exact State.stores_line ha.stores _
  refine ⟨_, heq, by rw [hb.mfs, ha.mfs, he]; rfl, ⟨_, by rw [hb.smc, ha.smc, he]; rfl⟩, fun w => ?_,
    fun w => by rw [hb.live, ha.live, he]; rfl⟩
  rw [hb.seated, hb.phase, ha.seated, ha.phase, hmadeb, hmade, hphase]
  cases w <;> simp

/-- LOCKING is entered, and perhaps left at once (R68): the towers, the target and the duties stand. -/
theorem State.enterLocking_spec (s : State) :
    s.enterLocking.smc.motion ∈ [Motion.locking, .seatedLocked, .seated] ∧ s.enterLocking.smc.target = s.smc.target ∧
      s.enterLocking.smc.seatTimer = none ∧ s.enterLocking.smc.towers = s.smc.towers ∧
      s.enterLocking.om.speed = s.om.speed ∧ s.enterLocking.mfs = s.mfs ∧ s.enterLocking.warnings = s.warnings := by
  unfold State.enterLocking State.finishLocking
  simp only []
  split
  · refine ⟨?_, rfl, rfl, rfl, rfl, rfl, rfl⟩
    show (if _ then Motion.seatedLocked else .seated) ∈ _
    split <;> simp
  · exact ⟨by simp, rfl, rfl, rfl, rfl, rfl, rfl⟩

/-- The entry to SEATING from LOWERING: to LOCKING at once where both towers are seated and at rest. -/
theorem State.enterSeating_seats {s : State} (hs : s.smc.stop = .none) :
    SeatingBegun s (s.enterSeating false) ∧ GoalKept s (s.enterSeating false) := by
  obtain ⟨u, heq, hmfs, ⟨tw, hsmc⟩, htower, hlive⟩ := s.enterSeating_marks
  have hseated : u.bothSeated = true ↔ s.line 1 = true ∧ s.line 6 = true := by
    rw [← show s.line (towerLine .a 0) = s.line 1 from rfl, ← show s.line (towerLine .b 0) = s.line 6 from rfl,
      ← (htower .a).1, ← (htower .b).1]
    exact Bool.and_eq_true_iff
  have hfault : ∀ f, u.fault f = s.fault f := fun f => by simp only [State.fault, hmfs]
  have hmotion : u.smc.motion = .seating := by rw [hsmc]
  have hstop : u.smc.stop = .none := by rw [hsmc, hs]
  have hwarn : u.warnings = s.warnings := by simp only [State.warnings, hsmc]
  have hcheck : u.checkSeated =
      if u.bothSeated = true then
        if u.bothAtRest = true then (u.onSmc fun m => { m with seatTimer := none }).enterLocking
        else u.onSmc fun m => { m with seatTimer := none }
      else u := by
    simp [State.checkSeated, hmotion, hstop, State.bothAtRest]
  rw [heq, hcheck]
  split
  · next hb =>
    have hlines := hseated.1 hb
    have hrest := u.bothAtRest_iff
    have ha : s.line (towerLine .a 0) = true := hlines.1
    have hbl : s.line (towerLine .b 0) = true := hlines.2
    rw [(htower .a).2, (htower .b).2, if_pos ha, if_pos hbl] at hrest
    split
    · next hr =>
      obtain ⟨hlm, hlt, hlseat, hltw, hlspeed, hlmfs, hlw⟩ :=
        (u.onSmc fun m => { m with seatTimer := none }).enterLocking_spec
      generalize (u.onSmc fun m => { m with seatTimer := none }).enterLocking = v at hlm hlt hlseat hltw hlspeed hlmfs hlw
      have hvtower : ∀ w, v.tower w = u.tower w := fun w => by simp only [State.tower, hltw, State.onSmc_smc]
      refine ⟨⟨?_, fun w => ?_, ?_⟩, ⟨fun hmv => ?_, fun w => ?_, fun ht => ?_, hlw.trans hwarn, fun f _ => ?_⟩⟩
      · rw [hlt, State.onSmc_smc, hsmc]
      · rw [hvtower]; exact htower w
      · rw [if_pos hlines, if_pos (hrest.1 hr)]
        exact ⟨hlseat, hlm⟩
      · simp only [List.mem_cons, List.not_mem_nil, or_false] at hlm
        obtain hv | hv | hv := hlm <;> rw [hv] at hmv <;> cases hmv
      · rw [hlspeed]; exact hlive w
      · rw [ht] at hlm; simp at hlm
      · rw [← hfault f]; simp only [State.fault, hlmfs, State.onSmc_mfs]
    · next hr =>
      refine ⟨⟨?_, htower, ?_⟩, ⟨fun _ => ?_, hlive, fun ht => ?_, hwarn, fun f _ => hfault f⟩⟩
      · rw [State.onSmc_smc, hsmc]
      · rw [if_pos hlines, if_neg (mt hrest.2 hr)]
        exact ⟨rfl, hmotion, hstop⟩
      · rw [State.onSmc_smc, hsmc]
      · rw [State.onSmc_smc, hsmc] at ht; cases ht
  · next hb =>
    refine ⟨⟨?_, htower, ?_⟩, ⟨fun _ => ?_, hlive, fun ht => ?_, hwarn, fun f _ => hfault f⟩⟩
    · rw [hsmc]
    · rw [if_neg (mt hseated.2 hb), hsmc]
      exact ⟨rfl, hs, rfl⟩
    · rw [hsmc]
    · rw [hsmc] at ht; cases ht

/-! ### The test of the goals -/

theorem State.goalTest_of_arrives {s : State} (h : s.arrives) : s.goalTest = s.beginStop .arrival := by
  obtain ⟨hm, hs, x, hx, hd⟩ := h
  simp [State.goalTest, hx, hs, hm, hd]

theorem State.goalTest_of_seats {s : State} (h : s.seats) : s.goalTest = (s.enterSeating false).compare := by
  obtain ⟨hm, hs, x, hx, hd⟩ := h
  unfold State.goalTest
  rw [hx]
  simp only []
  rw [if_neg (by simp [hs]), if_neg (by simp [hm]), if_pos (by simpa [hm] using hd)]

theorem State.goalTest_of_not {s : State} (ha : ¬ s.arrives) (hb : ¬ s.seats) : s.goalTest = s := by
  unfold State.goalTest
  split
  · rfl
  · next x hx =>
    split
    · rfl
    · next hs =>
      have hs' : s.smc.stop = .none := not_not.1 hs
      rw [if_neg fun h => ha ⟨?_, hs', x, hx, ?_⟩, if_neg fun h => hb ⟨?_, hs', x, hx, ?_⟩]
      all_goals simp only [Bool.and_eq_true, decide_eq_true_eq] at h
      exacts [h.1, h.2, h.1, h.2]

theorem State.not_seats_of_arrives {s : State} (h : s.arrives) : ¬ s.seats := fun k => by
  have := h.1.symm.trans k.1
  cases this

/-- Arrival, the entry to SEATING, or nothing (R65, R67). -/
theorem State.goalTest_taken (s : State) : GoalTaken s s.goalTest ∧ GoalKept s s.goalTest := by
  by_cases ha : s.arrives
  · obtain ⟨hbegun, hkept⟩ := State.beginStop_arrival ha.1
    rw [State.goalTest_of_arrives ha]
    exact ⟨⟨fun _ => hbegun, fun hs => absurd hs (State.not_seats_of_arrives ha), fun hn => absurd ha hn⟩, hkept⟩
  · by_cases hb : s.seats
    · obtain ⟨hbegun, hkept⟩ := State.enterSeating_seats hb.2.1
      have look := (s.enterSeating false).compare_looks
      rw [State.goalTest_of_seats hb]
      exact ⟨⟨fun h => absurd h ha, fun _ => hbegun.of_reads rfl look.setReads, fun _ hn => absurd hb hn⟩, hkept.looks look⟩
    · rw [State.goalTest_of_not ha hb]
      exact ⟨⟨fun h => absurd h ha, fun h => absurd h hb, fun _ _ => ⟨rfl, rfl, fun _ => rfl, fun _ => rfl⟩⟩,
        ⟨fun _ => rfl, fun _ => rfl, id, rfl, fun _ _ => rfl⟩⟩

end Sys2Proof.Machine
end

section
/-! SUPPORT. Speed control at a completion (R46 to R51), the exit from INITIAL (R58), and SMC's whole task of motion. -/

namespace Sys2Proof.Machine

/-! ### Speed control (R46 to R51) -/

/-- The common output of a moving span at this completion, from the output `out` of the one before (R48). -/
def State.outFrom (s : State) (out : Nat) : Nat :=
  if s.smc.towers.a.phase.beforeRamp || s.smc.towers.b.phase.beforeRamp then 0 else slew s.act out s.demandNow

/-- From `s` to `t` the output and the duties have been moved, as `t` demands (R46 to R51). -/
def SpeedControlled (s t : State) : Prop :=
  t.smc.out = t.outFrom s.smc.out ∧
    ∀ w, (t.om.speed.get w).live = (s.om.speed.get w).live ∧ (t.om.speed.get w).staged = t.reference w (t.candidate w)

section Readings
variable {s s' t t' : State} (h : s'.setReads = s.setReads) (k : t'.setReads = t.setReads)
include k

theorem State.setReads_outFrom (out : Nat) : t'.outFrom out = t.outFrom out := by
  have ha : t'.smc.towers.a.phase = t.smc.towers.a.phase := State.setReads_phase k .a
  have hb : t'.smc.towers.b.phase = t.smc.towers.b.phase := State.setReads_phase k .b
  simp only [State.outFrom, State.demandNow, ha, hb, State.setReads_act k, State.setReads_stop k, State.setReads_motion k,
    State.setReads_heights k, State.setReads_target k]

theorem State.setReads_candidate (w : Tower) : t'.candidate w = t.candidate w := by
  simp only [State.candidate, State.setReads_motion k, State.setReads_seated k, State.setReads_out k, State.setReads_heights k,
    State.setReads_act k]

theorem State.setReads_reference (w : Tower) (x : Int) : t'.reference w x = t.reference w x := by
  simp only [State.reference, State.setReads_phase k, State.setReads_act k, State.setReads_speed k]

include h

theorem SpeedControlled.of_reads (hb : SpeedControlled s t) : SpeedControlled s' t' := by
  simpa only [SpeedControlled, State.setReads_out h, State.setReads_speed h, State.setReads_out k, State.setReads_speed k,
    State.setReads_outFrom k, State.setReads_candidate k, State.setReads_reference k] using hb

end Readings

theorem Motion.moving_iff (m : Motion) : m.moving = true ↔ m = .raising ∨ m = .lowering ∨ m = .seating := by
  cases m <;> simp [Motion.moving]

/-- Speed control writes the output and the duties alone. -/
theorem State.speedControl_rest (s : State) :
    s.speedControl =
      { s with om := { s.om with speed := s.speedControl.om.speed }, smc := { s.smc with out := s.speedControl.smc.out } } := by
  unfold State.speedControl
  split <;> rfl

theorem State.speedControl_of_not_moving {s : State} (h : s.smc.motion.moving = false) : s.speedControl = s := by
  rw [State.speedControl, if_neg (by simp [h])]

theorem State.speedControl_of_moving {s : State} (h : s.smc.motion.moving = true) : SpeedControlled s s.speedControl := by
  rw [State.speedControl, if_pos h]
  exact ⟨rfl, fun w => by cases w <;> exact ⟨rfl, rfl⟩⟩

/-! ### What the outputs follow, by the motion state -/

/-- The trim of a leading tower (R49). -/
theorem trimFor_eq {m : Motion} (hm : m = .raising ∨ m = .lowering) (c : Settings) (skew : Int) (w : Tower) :
    trimFor c m skew w =
      if (if m = .raising then (if w = .a then 0 < skew else skew < 0) else (if w = .a then skew < 0 else 0 < skew)) then
        min ((skew.natAbs : Int) * c.ktrim / 16) c.tmax
      else 0 := by
  obtain rfl | rfl := hm <;> cases w <;> rfl

/-- The demand of a moving span, which in a raise is toward the target (R46, R47, R51). -/
theorem State.demandNow_eq {s : State} (hm : s.smc.motion = .raising ∨ s.smc.motion = .lowering ∨ s.smc.motion = .seating)
    {target : Option Nat} (htarget : s.smc.motion = .raising → s.smc.target = target) :
    s.demandNow =
      if s.smc.stop ≠ .none then 0
      else match s.heights with
        | none => 0
        | some h =>
          if s.smc.motion = .seating then s.act.vcreep
          else demand s.act
            (if s.smc.motion = .raising then ((target.getD 0 : Nat) : Int) - h.hs else max h.hA h.hB) := by
  unfold State.demandNow
  split
  · rfl
  · cases s.heights with
    | none => rfl
    | some h =>
      obtain hm | hm | hm := hm
      · simp [hm, ← htarget hm]
      · simp [hm]
      · simp [hm]

/-- The candidate of a tower of a moving span (R49, R51). -/
theorem State.candidate_eq {s : State} (hm : s.smc.motion = .raising ∨ s.smc.motion = .lowering ∨ s.smc.motion = .seating)
    (w : Tower) :
    s.candidate w =
      if s.smc.motion = .seating then (if (s.tower w).seated = true then 0 else (s.smc.out : Int))
      else match s.heights with
        | none => (s.smc.out : Int)
        | some h =>
          max 0 ((s.smc.out : Int) -
            if (if s.smc.motion = .raising then (if w = .a then 0 < h.skew else h.skew < 0)
              else (if w = .a then h.skew < 0 else 0 < h.skew)) then
              min ((h.skew.natAbs : Int) * s.act.ktrim / 16) s.act.tmax
            else 0) := by
  unfold State.candidate
  split
  · rfl
  · next hn =>
    cases s.heights with
    | none => rfl
    | some h =>
      have hm' : s.smc.motion = .raising ∨ s.smc.motion = .lowering := by simpa [hn] using hm
      simp only [trimFor_eq hm']

/-- A tower stages its limited reference while it runs or ramps down, and else 0 (R50, R59). -/
theorem State.reference_eq (s : State) (w : Tower) (cand : Int) :
    s.reference w cand =
      if (s.tower w).phase = .running ∨ (s.tower w).phase = .rampingDown then limitRef s.act (s.om.speed.get w).live cand
      else 0 := by
  unfold State.reference
  cases (s.tower w).phase <;> rfl

theorem Phase.beforeRamp_iff (p : Phase) : p.beforeRamp = true ↔ p = .waitingReversal ∨ p = .releasingBrake := by
  cases p <;> simp [Phase.beforeRamp]

theorem State.outFrom_eq (s : State) (out : Nat) :
    s.outFrom out =
      if ((s.tower .a).phase = .waitingReversal ∨ (s.tower .a).phase = .releasingBrake) ∨
          ((s.tower .b).phase = .waitingReversal ∨ (s.tower .b).phase = .releasingBrake) then 0
      else slew s.act out s.demandNow := by
  simp only [State.outFrom, Bool.or_eq_true, Phase.beforeRamp_iff]
  rfl

/-- The output and the duties of a moving span, written out (R46 to R51). -/
theorem SpeedControlled.written_out {s t : State} (h : SpeedControlled s t)
    (hm : t.smc.motion = .raising ∨ t.smc.motion = .lowering ∨ t.smc.motion = .seating)
    (htarget : t.smc.motion = .raising → t.smc.target = s.smc.target) :
    let d : Int :=
      if t.smc.stop ≠ .none then 0
      else match t.heights with
        | none => 0
        | some h =>
          if t.smc.motion = .seating then t.act.vcreep
          else demand t.act (if t.smc.motion = .raising then ((s.smc.target.getD 0 : Nat) : Int) - h.hs else max h.hA h.hB)
    let waits (w : Tower) : Prop := (t.tower w).phase = .waitingReversal ∨ (t.tower w).phase = .releasingBrake
    t.smc.out = (if waits .a ∨ waits .b then 0 else slew t.act s.smc.out d) ∧
    ∀ w, (t.om.speed.get w).live = (s.om.speed.get w).live ∧
      (t.om.speed.get w).staged =
        if (t.tower w).phase = .running ∨ (t.tower w).phase = .rampingDown then
          limitRef t.act (s.om.speed.get w).live
            (if t.smc.motion = .seating then (if (t.tower w).seated = true then 0 else (t.smc.out : Int))
             else match t.heights with
               | none => (t.smc.out : Int)
               | some h =>
                 max 0 ((t.smc.out : Int) -
                   if (if t.smc.motion = .raising then (if w = .a then 0 < h.skew else h.skew < 0)
                     else (if w = .a then h.skew < 0 else 0 < h.skew)) then
                     min ((h.skew.natAbs : Int) * t.act.ktrim / 16) t.act.tmax
                   else 0))
        else 0 := by
  intro d waits
  obtain ⟨hout, hduty⟩ := h
  have hd : t.demandNow = d := State.demandNow_eq hm htarget
  refine ⟨?_, fun w => ?_⟩
  · rw [hout, State.outFrom_eq, hd]
  · obtain ⟨hlive, hstaged⟩ := hduty w
    rw [hstaged, State.reference_eq, State.candidate_eq hm, hlive]
    exact ⟨rfl, rfl⟩

/-! ### The task of motion (R33, R58) -/

/-- What INITIAL is left for at a completion, once the levels are qualified (R58). -/
def State.leftInitialFor (s : State) : Motion := if s.isQualified = true then s.firstMotion else .initial

/-- What INITIAL is left for, by the heights (R58). -/
theorem State.leftInitialFor_eq (s : State) :
    s.leftInitialFor =
      match s.heights with
      | none => .initial
      | some h =>
        if s.iq.qualified.isSome = false then .initial
        else if h.hA ≤ s.act.ztol ∧ h.hB ≤ s.act.ztol ∧ s.line 1 = true ∧ s.line 6 = true then
          (if s.line 12 = true ∧ s.line 14 = true then .seatedLocked else .seated)
        else .halted := by
  have hfirst : s.firstMotion =
      match s.heights with
      | none => .initial
      | some h =>
        if h.hA ≤ s.act.ztol ∧ h.hB ≤ s.act.ztol ∧ s.line 1 = true ∧ s.line 6 = true then
          (if s.line 12 = true ∧ s.line 14 = true then .seatedLocked else .seated)
        else .halted := rfl
  rw [State.leftInitialFor, hfirst, State.isQualified]
  cases s.heights <;> cases s.iq.qualified.isSome <;> rfl

theorem State.leaveInitial_of_initial {s : State} (h : s.smc.motion = .initial) :
    s.leaveInitial = s.onSmc fun m => { m with motion := s.leftInitialFor } := by
  have hstays : (s.onSmc fun m => { m with motion := .initial }) = s := by rw [← h]; rfl
  unfold State.leftInitialFor
  split
  · next hq =>
    have hm : s.leaveInitial.smc.motion = s.firstMotion := by
      have hl := congrArg Levels.motion (State.leaveInitial_levels hq)
      exact hl.trans (if_pos h)
    rw [← hm]
    unfold State.leaveInitial
    split
    · rfl
    · rfl
  · next hq =>
    rw [hstays, State.leaveInitial, if_neg (by simp [hq])]

theorem State.leaveInitial_of_ne {s : State} (h : s.smc.motion ≠ .initial) : s.leaveInitial = s := by
  rw [State.leaveInitial, if_neg (by simp [h])]

/-- INITIAL is left for a state in which the towers stand and nothing has tripped. -/
theorem State.leftInitialFor_stands (s : State) : s.leftInitialFor.moving = false ∧ s.leftInitialFor ≠ .tripped := by
  unfold State.leftInitialFor
  split
  · obtain h | h | h | h := s.firstMotion_rests <;> rw [h] <;> decide
  · decide

theorem State.setReads_leftInitialFor {s t : State} (h : t.setReads = s.setReads) : t.leftInitialFor = s.leftInitialFor := by
  have hfirst : t.firstMotion = s.firstMotion := by
    unfold State.firstMotion
    simp only [State.setReads_mu h, State.setReads_act h, State.setReads_line h]
  have hqualified : t.isQualified = s.isQualified := by simp only [State.isQualified, State.setReads_iq h]
  simp only [State.leftInitialFor, hqualified, hfirst]

/-- From `s` to `t` SMC has done its task of motion: INITIAL left, the goals tested, the output and the duties moved. -/
structure MotionTaken (s t : State) : Prop where
  goal : GoalTaken s t
  first : s.smc.motion = .initial → t.smc.motion = s.leftInitialFor
  speed : t.smc.motion.moving = true → SpeedControlled s t

theorem MotionTaken.of_reads {s s' t t' : State} (h : s'.setReads = s.setReads) (k : t'.setReads = t.setReads)
    (hb : MotionTaken s t) : MotionTaken s' t' where
  goal := hb.goal.of_reads h k
  first hi := by
    rw [State.setReads_motion k, State.setReads_leftInitialFor h]
    exact hb.first (State.setReads_motion h ▸ hi)
  speed hm := (hb.speed (State.setReads_motion k ▸ hm)).of_reads h k

theorem State.goalTest_of_not_moving {s : State} (h : s.smc.motion.moving = false) : s.goalTest = s :=
  State.goalTest_of_not (fun ha => by rw [ha.1] at h; cases h) fun hs => by rw [hs.1] at h; cases h

/-- While the towers stand the task of motion is no more than the exit from INITIAL. -/
theorem State.motionTask_of_initial {s : State} (h : s.smc.motion = .initial) :
    s.doSetTask .motion = s.onSmc fun m => { m with motion := s.leftInitialFor } := by
  have hstands : (s.onSmc fun m => { m with motion := s.leftInitialFor }).smc.motion.moving = false := s.leftInitialFor_stands.1
  show s.leaveInitial.goalTest.speedControl = _
  rw [State.leaveInitial_of_initial h, State.goalTest_of_not_moving hstands, State.speedControl_of_not_moving hstands]

theorem State.motionTask_of_ne {s : State} (h : s.smc.motion ≠ .initial) : s.doSetTask .motion = s.goalTest.speedControl := by
  show s.leaveInitial.goalTest.speedControl = _
  rw [State.leaveInitial_of_ne h]

theorem State.motionTask_taken (s : State) : MotionTaken s (s.doSetTask .motion) := by
  by_cases hi : s.smc.motion = .initial
  · rw [State.motionTask_of_initial hi]
    refine ⟨⟨fun h => absurd (h.1.symm.trans hi) (by decide), fun h => absurd (h.1.symm.trans hi) (by decide),
      fun _ _ => ⟨rfl, rfl, fun _ => rfl, fun hn => absurd hi hn⟩⟩, fun _ => rfl, fun hm => ?_⟩
    exact absurd hm (by rw [State.onSmc_smc, s.leftInitialFor_stands.1]; decide)
  · obtain ⟨⟨harrival, hseating, hstands⟩, hkept⟩ := s.goalTest_taken
    have hspeed := s.goalTest.speedControl_of_moving
    have hrest := s.goalTest.speedControl_rest
    rw [State.motionTask_of_ne hi]
    refine ⟨?_, fun h => absurd h hi, fun hm => ?_⟩
    · rw [hrest]
      exact ⟨harrival, hseating, hstands⟩
    · have hgm : s.goalTest.smc.motion.moving = true := by rwa [hrest] at hm
      obtain ⟨hout, hduty⟩ := hspeed hgm
      rw [hkept.out hgm] at hout
      exact ⟨hout, fun w => ⟨(hduty w).1.trans (hkept.live w), (hduty w).2⟩⟩

/-- The task of motion reports nothing. -/
theorem State.motionTask_fault (s : State) {f : Fin 37} (hf : f.val < 6) : (s.doSetTask .motion).fault f = s.fault f := by
  by_cases hi : s.smc.motion = .initial
  · rw [State.motionTask_of_initial hi]
    rfl
  · rw [State.motionTask_of_ne hi, s.goalTest.speedControl_rest]
    exact s.goalTest_taken.2.fault f hf

/-- The task of motion trips nothing, and leaves a tripped span and the warnings. -/
theorem State.motionTask_kept (s : State) : TripKept s (s.doSetTask .motion) := by
  by_cases hi : s.smc.motion = .initial
  · rw [State.motionTask_of_initial hi]
    exact ⟨rfl, rfl, fun _ ht => absurd ht s.leftInitialFor_stands.2⟩
  · have hkept := s.goalTest_taken.2
    have hrest := s.goalTest.speedControl_rest
    refine ⟨?_, s.doSetTask_stores _, fun ho ht => ?_⟩
    · rw [State.motionTask_of_ne hi, hrest]
      exact hkept.warnings
    · rw [State.motionTask_of_ne hi] at ht ⊢
      have hs : s.smc.motion = .tripped := hkept.untripped (by rwa [hrest] at ht)
      have hstill : s.smc.motion.moving = false := by rw [hs]; rfl
      rw [State.goalTest_of_not_moving hstill, State.speedControl_of_not_moving hstill]
      exact ho hs

end Sys2Proof.Machine
end

section
/-! SUPPORT. SMC takes a measurement set: its task of motion and its reports of SKEW and OVERTRAVEL, in whatever order (R33, R53, R78). -/

namespace Sys2Proof.Machine

/-! ### The entry of a fault to ACTIVE (R197) -/

/-- From `s` to `t` the fault has entered ACTIVE. -/
def Enters (f : Fin 37) (s t : State) : Prop := t.fault f = .active ∧ s.fault f ≠ .active

/-- A fault enters ACTIVE by a report exactly where the report makes it enter. -/
theorem enters_iff_of_report {f : Fin 37} {s t : State} {b : Bool} (h : t.fault f = (s.fault f).report b) :
    Enters f s t ↔ s.faultEnters f b = true := by
  rw [Enters, h, State.faultEnters]
  cases b <;> cases s.fault f <;> simp [FaultValue.report]

/-- A report that changes a fault without an entry says that the condition is absent. -/
theorem State.absent_of_changes {s : State} {f : Fin 37} {b : Bool} (hc : s.faultChanges f b = true)
    (he : s.faultEnters f b = false) : b = false := by
  cases b with
  | false => rfl
  | true => simp [State.faultChanges, State.faultLatches, he] at hc

/-! ### The tasks of a set -/

/-- The SKEW condition, from a set's skew (R53). -/
def State.isSkew (s : State) (skew : Int) : Bool := decide (s.act.strip ≤ (skew.natAbs : Int))

/-- The tasks of SMC at a set with heights: the motion, and each report that would change its fault. -/
def State.setTasks (n : State) (skew : Int) : List SetTask :=
  .motion :: ((if n.faultChanges 1 (n.isSkew skew) then [.skew skew] else []) ++
    if n.faultChanges 2 n.isOvertravel then [.overtravel] else [])

theorem State.smcTakesSet_of_heights {s : State} {h : Heights} (hh : s.heights = some h) :
    s.smcTakesSet = (s.noteHeights h).inAnyOrder ((s.noteHeights h).setTasks h.skew) State.doSetTask := by
  unfold State.smcTakesSet
  rw [hh]
  rfl

theorem State.smcTakesSet_of_none {s : State} (hh : s.heights = none) : s.smcTakesSet = s.doSetTask .motion := by
  unfold State.smcTakesSet
  rw [hh]

theorem State.mem_setTasks {n : State} {skew : Int} {y : SetTask} :
    y ∈ n.setTasks skew ↔
      y = .motion ∨ (y = .skew skew ∧ n.faultChanges 1 (n.isSkew skew) = true) ∨
        (y = .overtravel ∧ n.faultChanges 2 n.isOvertravel = true) := by
  unfold State.setTasks
  split <;> split <;> simp_all

theorem State.setTasks_nodup (n : State) (skew : Int) : (n.setTasks skew).Nodup := by
  unfold State.setTasks
  split <;> split <;> simp

theorem State.doSetTask_kept (s : State) (x : SetTask) : TripKept s (s.doSetTask x) := by
  cases x with
  | motion => exact s.motionTask_kept
  | skew x => exact s.tripReport_kept _ _
  | overtravel => exact s.tripReport_kept _ _

section
variable {n t : State} (h : TripKept n t)
include h

theorem TripKept.skewTask (skew : Int) : t.doSetTask (.skew skew) = t.tripReport 1 (n.isSkew skew) := by
  show t.tripReport 1 (decide (t.act.strip ≤ (skew.natAbs : Int))) = _
  rw [State.act, State.stores_cs h.stores]
  rfl

theorem TripKept.overtravelTask : t.doSetTask .overtravel = t.tripReport 2 n.isOvertravel := by
  have hover : t.smc.heightOver = n.smc.heightOver := congrArg Prod.snd h.warnings
  have hsame : t.isOvertravel = n.isOvertravel := by
    simp only [State.isOvertravel, State.limitReached, State.stores_line h.stores, State.stores_isQualified h.stores, hover]
  show t.tripReport 2 t.isOvertravel = _
  rw [hsame]

end

/-- The state after the tasks, in whatever order. -/
def State.afterTasks (n : State) (skew : Int) : State := n.inAnyOrder (n.setTasks skew) State.doSetTask

theorem State.afterTasks_kept (n : State) (skew : Int) : TripKept n (n.afterTasks skew) :=
  State.inAnyOrder_keeps (TripKept n) _ _ _ (fun x _ t ht => ht.trans (t.doSetTask_kept x)) fun _ => ⟨rfl, rfl, id⟩

/-- A fault that one task alone reports takes its report, and its entry trips. -/
theorem State.afterTasks_report {n : State} {skew : Int} {x : SetTask} {f : Fin 37} {b : Bool} (hf : f.val < 3)
    (hx : x ∈ n.setTasks skew ↔ n.faultChanges f b = true) (here : ∀ t, TripKept n t → t.doSetTask x = t.tripReport f b)
    (others : ∀ y ∈ n.setTasks skew, y ≠ x → ∀ t : State, (t.doSetTask y).fault f = t.fault f) :
    (n.afterTasks skew).fault f = (n.fault f).report b ∧
      (n.faultEnters f b = true → (n.afterTasks skew).smc.motion = .tripped) := by
  by_cases hc : n.faultChanges f b = true
  · refine State.inAnyOrder_around (hx.2 hc) (n.setTasks_nodup skew) (P := fun t => TripKept n t ∧ t.fault f = n.fault f)
      (Q := fun t => t.fault f = (n.fault f).report b ∧ (n.faultEnters f b = true → t.smc.motion = .tripped))
      (fun _ => ⟨⟨rfl, rfl, id⟩, rfl⟩) (fun y hy hne t ht => ?_) (fun t ht => ?_) (fun y hy hne t ht => ?_)
    · exact ⟨ht.1.trans (t.doSetTask_kept y), (others y hy hne t).trans ht.2⟩
    · obtain ⟨hkept, hfault⟩ := ht
      rw [here t hkept, t.tripReport_condition f b (by omega), if_pos rfl, hfault]
      exact ⟨rfl, fun he => State.tripReport_trips (by rwa [State.faultEnters, hfault]) (tripsIn_always hf _)⟩
    · exact ⟨(others y hy hne t).trans ht.1, fun he => (t.doSetTask_goesOn y).channel.tripped (ht.2 he)⟩
  · have hsame := State.report_of_not_changes (by simpa using hc)
    refine ⟨?_, fun he => absurd (by simp [State.faultChanges, he]) hc⟩
    rw [hsame]
    exact State.inAnyOrder_keeps (fun t => t.fault f = n.fault f) _ _ _
      (fun y hy t ht => (others y hy (fun e => hc (hx.1 (e ▸ hy))) t).trans ht) fun _ => rfl

/-- SKEW after the tasks (R53). -/
theorem State.afterTasks_skew (n : State) (skew : Int) :
    (n.afterTasks skew).fault 1 = (n.fault 1).report (n.isSkew skew) ∧
      (n.faultEnters 1 (n.isSkew skew) = true → (n.afterTasks skew).smc.motion = .tripped) := by
  refine State.afterTasks_report (x := .skew skew) (by decide) (by simp [State.mem_setTasks]) (fun t ht => ht.skewTask skew)
    fun y hy hne t => ?_
  obtain rfl | ⟨rfl, -⟩ | ⟨rfl, -⟩ := State.mem_setTasks.1 hy
  · exact t.motionTask_fault (by decide)
  · exact absurd rfl hne
  · exact (t.tripReport_condition 2 _ (by decide)).trans (if_neg (by decide))

/-- OVERTRAVEL after the tasks (R78). -/
theorem State.afterTasks_overtravel (n : State) (skew : Int) :
    (n.afterTasks skew).fault 2 = (n.fault 2).report n.isOvertravel ∧
      (n.faultEnters 2 n.isOvertravel = true → (n.afterTasks skew).smc.motion = .tripped) := by
  refine State.afterTasks_report (x := .overtravel) (by decide) (by simp [State.mem_setTasks]) (fun t ht => ht.overtravelTask)
    fun y hy hne t => ?_
  obtain rfl | ⟨rfl, -⟩ | ⟨rfl, -⟩ := State.mem_setTasks.1 hy
  · exact t.motionTask_fault (by decide)
  · exact (t.tripReport_condition 1 _ (by decide)).trans (if_neg (by decide))
  · exact absurd rfl hne

/-- Where neither report trips, the task of motion is as if it were alone. -/
theorem State.afterTasks_motion {n : State} {skew : Int} (h1 : n.faultEnters 1 (n.isSkew skew) = false)
    (h2 : n.faultEnters 2 n.isOvertravel = false) : MotionTaken n (n.afterTasks skew) := by
  have absent : ∀ (f : Fin 37) (t : State), (t.tripReport f false).setReads = t.setReads := fun f t =>
    State.tripReport_setReads fun h => by simp [State.faultEnters] at h
  have others : ∀ y ∈ n.setTasks skew, y ≠ .motion → ∀ t : State, TripKept n t → (t.doSetTask y).setReads = t.setReads := by
    intro y hy hne t ht
    obtain rfl | ⟨rfl, hc⟩ | ⟨rfl, hc⟩ := State.mem_setTasks.1 hy
    · exact absurd rfl hne
    · rw [ht.skewTask, State.absent_of_changes hc h1, absent]
    · rw [ht.overtravelTask, State.absent_of_changes hc h2, absent]
  refine (State.inAnyOrder_around (x := SetTask.motion) (l := n.setTasks skew) (State.mem_setTasks.2 (.inl rfl))
    (n.setTasks_nodup skew) (P := fun t => TripKept n t ∧ t.setReads = n.setReads)
    (Q := fun t => TripKept n t ∧ MotionTaken n t) (fun _ => ⟨⟨rfl, rfl, id⟩, rfl⟩) (fun y hy hne t ht => ?_)
    (fun t ht => ?_) (fun y hy hne t ht => ?_)).2
  · exact ⟨ht.1.trans (t.doSetTask_kept y), (others y hy hne t ht.1).trans ht.2⟩
  · exact ⟨ht.1.trans t.motionTask_kept, t.motionTask_taken.of_reads ht.2.symm rfl⟩
  · exact ⟨ht.1.trans (t.doSetTask_kept y), ht.2.of_reads rfl (others y hy hne t ht.1)⟩

/-! ### SMC takes a set -/

/-- The height part of OVERTRAVEL, from a set's heights (R78). -/
def State.isHeightOver (s : State) (h : Heights) : Bool :=
  decide (s.act.hfull + 100 < h.hA) || decide (s.act.hfull + 100 < h.hB)

/-- From `s` to `t` SMC has taken the set of `s`. -/
structure SmcTaken (s t : State) : Prop where
  unheard : s.heights = none → t.fault 1 = s.fault 1 ∧ t.fault 2 = s.fault 2 ∧ t.warnings = s.warnings
  heard : ∀ h, s.heights = some h →
    t.warnings = (decide (s.act.salarm ≤ (h.skew.natAbs : Int)), s.isHeightOver h) ∧
      t.fault 1 = (s.fault 1).report (s.isSkew h.skew) ∧ t.fault 2 = (s.fault 2).report (s.isHeightOver h || s.limitReached)
  trips : Enters 1 s t ∨ Enters 2 s t → t.smc.motion = .tripped
  moves : ¬ Enters 1 s t → ¬ Enters 2 s t → MotionTaken s t
  off : s.trippedIsOff → t.trippedIsOff

theorem State.smcTakesSet_taken (s : State) : SmcTaken s s.smcTakesSet := by
  cases hh : s.heights with
  | none =>
    have h1 := s.motionTask_fault (f := 1) (by decide)
    have h2 := s.motionTask_fault (f := 2) (by decide)
    have hkept := s.motionTask_kept
    rw [State.smcTakesSet_of_none hh]
    refine ⟨fun _ => ⟨h1, h2, hkept.warnings⟩, fun h he => ?_, ?_, fun _ _ => s.motionTask_taken, hkept.off⟩
    · rw [hh] at he; cases he
    · rintro (⟨ha, hn⟩ | ⟨ha, hn⟩)
      · exact absurd (h1.symm.trans ha) hn
      · exact absurd (h2.symm.trans ha) hn
  | some h =>
    have heq : s.smcTakesSet = (s.noteHeights h).afterTasks h.skew := State.smcTakesSet_of_heights hh
    obtain ⟨h1, htrip1⟩ := (s.noteHeights h).afterTasks_skew h.skew
    obtain ⟨h2, htrip2⟩ := (s.noteHeights h).afterTasks_overtravel h.skew
    have hkept := (s.noteHeights h).afterTasks_kept h.skew
    have hmotion := State.afterTasks_motion (n := s.noteHeights h) (skew := h.skew)
    have e1 := enters_iff_of_report h1
    have e2 := enters_iff_of_report h2
    rw [← heq] at h1 h2 htrip1 htrip2 hkept hmotion e1 e2
    refine ⟨fun hn => ?_, fun k hk => ?_, ?_, fun hn1 hn2 => ?_, fun ho => hkept.off ho⟩
    · rw [hh] at hn; cases hn
    · rw [hh] at hk
      obtain rfl := Option.some.inj hk
      exact ⟨hkept.warnings, h1, h2⟩
    · rintro (he | he)
      · exact htrip1 (e1.1 he)
      · exact htrip2 (e2.1 he)
    · obtain ⟨⟨ha, hb, hc⟩, hd, he⟩ :=
        hmotion (by simpa using mt e1.2 hn1) (by simpa using mt e2.2 hn2)
      exact ⟨⟨ha, hb, hc⟩, hd, he⟩

end Sys2Proof.Machine
end

section
/-! A scan completion moves the output and the duties, and brings arrival, seating and trips (R46 to R51, R53, R58, R65, R67, R76,
R78). -/

namespace Sys2Proof.Machine

/-! ### The condition trip faults of the channels (R32, R76) -/

/-- Where R76 lists a motion state for POS_A, POS_B and REF. -/
theorem tripsIn_channel_iff {f : Fin 37} (hf : f = 3 ∨ f = 4 ∨ f = 5) (m : Motion) :
    tripsIn f m = true ↔ (m = .raising ∨ m = .lowering ∨ m = .seating) ∨ m = .unlocking ∨ m = .holding := by
  obtain rfl | rfl | rfl := hf <;> cases m <;> decide

section
variable (s : State) (c : Settings) (codes : RawCodes)

/-- The state in which MU reports, its channel records made. -/
def State.scanConverted : State :=
  s.onMu fun m => { m with channels := s.scanChannels c codes, scan := none, scanTimer := none }

theorem muConditions_nodup (chs : PerChannel Channel) : ((muConditions c chs).map Prod.fst).Nodup := by simp [muConditions]

/-- Before its consumers take the set the warnings stand, and a tripped span is off. -/
theorem State.scanPublished_kept :
    (s.scanPublished c codes).warnings = s.warnings ∧ (s.trippedIsOff → (s.scanPublished c codes).trippedIsOff) := by
  have h := (s.scanConverted c codes).reportAll_kept (muConditions c (s.scanChannels c codes))
  exact ⟨h.warnings, h.off⟩

/-- MU reports neither SKEW nor OVERTRAVEL. -/
theorem State.scanPublished_fault {f : Fin 37} (hf : f.val < 3) : (s.scanPublished c codes).fault f = s.fault f :=
  (s.scanConverted c codes).reportAll_condition (g := f) (by omega) fun x hx e => by
    simp only [muConditions, List.mem_cons, List.not_mem_nil, or_false] at hx
    obtain rfl | rfl | rfl | rfl := hx <;> subst e <;> simp at hf

/-- The conditions of POS_A, POS_B and REF are reported. -/
theorem muConditions_channel (chs : PerChannel Channel) {f : Fin 37} (hf : f = 3 ∨ f = 4 ∨ f = 5) :
    ∃ b, (f, b) ∈ muConditions c chs := by
  obtain rfl | rfl | rfl := hf <;> simp [muConditions]

/-- A channel's fault enters exactly as its report makes it. -/
theorem State.completeScan_enters_iff (h : s.mu.scan = some c) {f : Fin 37} {b : Bool}
    (hm : (f, b) ∈ muConditions c (s.scanChannels c codes)) :
    Enters f s (s.completeScan codes) ↔ s.faultEnters f b = true :=
  enters_iff_of_report (s.completeScan_reported c codes h hm)

/-- The entry of a channel's fault, in a motion state of R76's list, has tripped the span before the set is taken. -/
theorem State.scanPublished_trips (h : s.mu.scan = some c) {f : Fin 37} (hf : f = 3 ∨ f = 4 ∨ f = 5)
    (he : Enters f s (s.completeScan codes)) (ht : tripsIn f s.smc.motion = true) :
    (s.scanPublished c codes).smc.motion = .tripped := by
  obtain ⟨b, hb⟩ := muConditions_channel c (s.scanChannels c codes) hf
  exact (s.scanConverted c codes).reportAll_trips (f := f) (by omega) (muConditions_nodup c _) hb
    ((s.completeScan_enters_iff c codes h hb).1 he) ht

/-- Where no channel's fault trips, SMC reads what it read, and the set. -/
theorem State.scanPublished_setReads (h : s.mu.scan = some c)
    (hn : ∀ f : Fin 37, f = 3 ∨ f = 4 ∨ f = 5 → Enters f s (s.completeScan codes) → tripsIn f s.smc.motion = false) :
    (s.scanPublished c codes).setReads = { s with mu := s.scanMu c codes }.setReads := by
  refine State.setReads_onMu ((s.scanConverted c codes).reportAll_setReads (l := muConditions c (s.scanChannels c codes))
    fun x hx he => ?_) _
  by_cases hf : x.1 = 3 ∨ x.1 = 4 ∨ x.1 = 5
  · exact hn x.1 hf ((s.completeScan_enters_iff c codes h hx).2 he)
  · have hwater : x.1 = 35 := by
      simp only [muConditions, List.mem_cons, List.not_mem_nil, or_false] at hx
      obtain rfl | rfl | rfl | rfl := hx <;> simp_all
    rw [hwater]
    rfl

/-! ### SMC's part of a scan completion -/

/-- The set is taken by SMC in a state that differs from the published one in nothing that SMC reads, and nothing of it changes after. -/
theorem State.completeScan_smc (h : s.mu.scan = some c) :
    ∃ u : State, SpanStands (s.scanPublished c codes) u ∧ SpanStands u.smcTakesSet (s.completeScan codes) := by
  rw [State.completeScan_eq s c codes h]
  exact (s.scanPublished c codes).deliverAll_smc

/-- What a scan completion is to the span. -/
structure ScanTaken (m : MeasSet) (s t : State) : Prop where
  unheard : m.heights = none → t.fault 1 = s.fault 1 ∧ t.fault 2 = s.fault 2 ∧ t.warnings = s.warnings
  heard : ∀ h, m.heights = some h →
    t.warnings = (decide (s.act.salarm ≤ (h.skew.natAbs : Int)), s.isHeightOver h) ∧
      t.fault 1 = (s.fault 1).report (s.isSkew h.skew) ∧ t.fault 2 = (s.fault 2).report (s.isHeightOver h || s.limitReached)
  trips : Enters 1 s t ∨ Enters 2 s t ∨ (∃ f : Fin 37, (f = 3 ∨ f = 4 ∨ f = 5) ∧ Enters f s t ∧ tripsIn f s.smc.motion = true) →
    t.smc.motion = .tripped
  off : s.smc.motion ≠ .tripped → t.trippedIsOff

theorem State.completeScan_taken (h : s.mu.scan = some c) : ScanTaken (s.scanSet c codes) s (s.completeScan codes) := by
  obtain ⟨u, hpu, hut⟩ := s.completeScan_smc c codes h
  have hset := s.scanPublished_offSet c codes
  have hact : u.act = s.act := (State.setReads_act hpu.reads).trans (congrArg (·.2.1.active) hset)
  have hiq : u.iq = s.iq := (State.setReads_iq hpu.reads).trans (congrArg (·.2.2.1) hset)
  have hheights : u.heights = (s.scanSet c codes).heights := State.setReads_heights hpu.reads
  obtain ⟨hwarn, hoff⟩ := s.scanPublished_kept c codes
  have hfault : ∀ f : Fin 37, f.val < 3 → u.fault f = s.fault f := fun f hf =>
    (hpu.fault f (by omega)).trans (s.scanPublished_fault c codes hf)
  have hlimit : u.limitReached = s.limitReached := by simp only [State.limitReached, State.isQualified, State.line, hiq]
  have hgo := u.smcTakesSet_goesOn.channel
  obtain ⟨hnone, hsome, htrips, -, hkept⟩ := u.smcTakesSet_taken
  rw [hheights] at hnone hsome
  simp only [hfault 1 (by decide), hfault 2 (by decide), State.isSkew, State.isHeightOver, hact, hlimit, ← hut.fault 1 (by decide),
    ← hut.fault 2 (by decide), ← State.warnings_of_reads hut.reads, State.warnings_of_reads hpu.reads, hwarn] at hnone hsome
  have hmotion := State.setReads_motion hut.reads
  refine ⟨hnone, hsome, ?_, fun hn => ?_⟩
  · rw [hmotion]
    have same : ∀ f : Fin 37, f.val < 3 → Enters f s (s.completeScan codes) → Enters f u u.smcTakesSet := fun f hf he =>
      ⟨(hut.fault f (by omega)).symm.trans he.1, (hfault f hf).symm ▸ he.2⟩
    rintro (he | he | ⟨f, hf, he, ht⟩)
    · exact htrips (.inl (same 1 (by decide) he))
    · exact htrips (.inr (same 2 (by decide) he))
    · exact hgo.tripped ((State.setReads_motion hpu.reads).trans (s.scanPublished_trips c codes h hf he ht))
  · have hs : s.trippedIsOff := fun ht => absurd ht hn
    exact State.trippedIsOff_of_reads hut.reads hut.cmd
      (hkept (State.trippedIsOff_of_reads hpu.reads hpu.cmd (hoff hs)))

/-- Where nothing trips, SMC does its task of motion as if it were alone. -/
theorem State.completeScan_motion (h : s.mu.scan = some c) (h1 : ¬ Enters 1 s (s.completeScan codes))
    (h2 : ¬ Enters 2 s (s.completeScan codes))
    (hn : ∀ f : Fin 37, f = 3 ∨ f = 4 ∨ f = 5 → Enters f s (s.completeScan codes) → tripsIn f s.smc.motion = false) :
    MotionTaken { s with mu := s.scanMu c codes } (s.completeScan codes) := by
  obtain ⟨u, hpu, hut⟩ := s.completeScan_smc c codes h
  have same : ∀ f : Fin 37, f.val < 3 → Enters f u u.smcTakesSet → Enters f s (s.completeScan codes) := fun f hf he =>
    ⟨(hut.fault f (by omega)).trans he.1, ((hpu.fault f (by omega)).trans (s.scanPublished_fault c codes hf)) ▸ he.2⟩
  exact (u.smcTakesSet_taken.moves (mt (same 1 (by decide)) h1) (mt (same 2 (by decide)) h2)).of_reads
    (hpu.reads.trans (s.scanPublished_setReads c codes h hn)).symm hut.reads

end

/-! ### Trips, or the task of motion -/

/-- The causes of a trip at a scan completion, as R76 lists them. -/
theorem scanTrips_iff (s t : State) :
    (Enters 1 s t ∨ Enters 2 s t ∨
      (((s.smc.motion = .raising ∨ s.smc.motion = .lowering ∨ s.smc.motion = .seating) ∨ s.smc.motion = .unlocking ∨
        s.smc.motion = .holding) ∧ (Enters 3 s t ∨ Enters 4 s t ∨ Enters 5 s t))) ↔
    (Enters 1 s t ∨ Enters 2 s t ∨
      ∃ f : Fin 37, (f = 3 ∨ f = 4 ∨ f = 5) ∧ Enters f s t ∧ tripsIn f s.smc.motion = true) := by
  refine or_congr_right (or_congr_right ⟨?_, ?_⟩)
  · rintro ⟨hm, h | h | h⟩
    · exact ⟨3, by simp, h, (tripsIn_channel_iff (by simp) _).2 hm⟩
    · exact ⟨4, by simp, h, (tripsIn_channel_iff (by simp) _).2 hm⟩
    · exact ⟨5, by simp, h, (tripsIn_channel_iff (by simp) _).2 hm⟩
  · rintro ⟨f, hf, h, ht⟩
    refine ⟨(tripsIn_channel_iff hf _).1 ht, ?_⟩
    obtain rfl | rfl | rfl := hf
    · exact .inl h
    · exact .inr (.inl h)
    · exact .inr (.inr h)

/-- Settles O41: MU's reports come before the set; SMC's task of motion and its reports of SKEW and OVERTRAVEL come in whatever order,
and either some report trips, and then the span is tripped and off in the end, or none does, and then the task of motion is as if it
were alone. -/
theorem outputSlewsAndReferencesAreLimited : Obligations.OutputSlewsAndReferencesAreLimited := by
  refine ⟨fun c ha hd => ⟨fun out d h => slew_limits ha hd out h, fun d => demand_limits d,
    fun live cand h => limitRef_limits ha live h⟩, fun s codes hscan => ?_⟩
  obtain ⟨c, hc⟩ := Option.isSome_iff_exists.1 hscan
  have hset := s.completeScan_offSet c codes hc
  have hmu : (s.completeScan codes).mu = s.scanMu c codes := congrArg (·.2.2.2.1) hset
  have hact : (s.completeScan codes).act = s.act := congrArg (·.2.1.active) hset
  obtain ⟨hunheard, hheard, htrips, hoff⟩ := s.completeScan_taken c codes hc
  have hmotion := s.completeScan_motion c codes hc
  refine ⟨s.completeScan codes, rfl, s.scanSet c codes, by rw [hmu]; rfl, ?_⟩
  have hheights : (s.completeScan codes).heights = (s.scanSet c codes).heights := by rw [State.heights, hmu]; rfl
  have hiff := scanTrips_iff s (s.completeScan codes)
  generalize s.completeScan codes = t at hact hunheard hheard htrips hoff hmotion hheights hiff ⊢
  refine ⟨fun h hh => ?_, fun hn => ?_, fun ht hm => ?_, fun hn => ?_⟩
  · obtain ⟨hwarn, hskew, hover⟩ := hheard h hh
    have hheight : t.smc.heightOver = s.isHeightOver h := congrArg Prod.snd hwarn
    rw [hheight]
    exact ⟨congrArg Prod.fst hwarn, hskew, (Bool.decide_or _ _).symm, hover⟩
  · obtain ⟨hskew, hover, hwarn⟩ := hunheard hn
    exact ⟨hskew, hover, congrArg Prod.fst hwarn, congrArg Prod.snd hwarn⟩
  · have htripped := htrips (hiff.1 ht)
    exact ⟨htripped, hoff hm htripped⟩
  · have hnone := mt hiff.2 hn
    rw [not_or, not_or] at hnone
    obtain ⟨h1, h2, h3⟩ := hnone
    obtain ⟨hgoal, hfirst, hspeed⟩ := hmotion h1 h2 fun f hf he => by
      simpa using fun ht => h3 ⟨f, hf, he, ht⟩
    refine ⟨hgoal.arrival, hgoal.seating, hgoal.stands, fun hi => ?_, fun hm => ?_⟩
    · exact (hfirst hi).trans (State.leftInitialFor_eq _)
    · have hwritten := (hspeed ((Motion.moving_iff _).2 hm)).written_out hm hgoal.target_of_raising
      rw [hheights, hact] at hwritten
      exact hwritten

end Sys2Proof.Machine
end


section
/-! SUPPORT. R59's table as one row for each tower, and what each operation of the towers writes in it (R59 to R61). -/

namespace Sys2Proof.Machine

/-! ### The rows of R59's table -/

/-- What R59's table speaks of for one tower: its phase, its three commands and its staged duty. -/
structure TowerRow where
  phase : Phase
  raise : Bool
  lower : Bool
  brake : Bool
  staged : Nat

def State.row (s : State) (t : Tower) : TowerRow :=
  ⟨(s.tower t).phase, s.cmd (towerFn t 0), s.cmd (towerFn t 1), s.cmd (towerFn t 2), (s.om.speed.get t).staged⟩

/-- The lines are those of the phase (R59). -/
def TowerRow.ok (r : TowerRow) : Prop :=
  match r.phase with
  | .atRest | .waitingReversal => r.raise = false ∧ r.lower = false ∧ r.brake = false ∧ r.staged = 0
  | .releasingBrake | .settingBrake => (r.raise != r.lower) = true ∧ r.brake = false ∧ r.staged = 0
  | .running | .rampingDown => (r.raise != r.lower) = true ∧ r.brake = true

/-- The motion state and both rows: all that the law of the towers reads. -/
def State.drives (s : State) : Motion × (Tower → TowerRow) := (s.smc.motion, s.row)

/-- R59's table holds for both towers, and only a moving span has a tower away from AT_REST (R57). -/
structure TowersOk (s : State) : Prop where
  rows : ∀ t, (s.row t).ok
  rests : s.smc.motion.moving = false → ∀ t, (s.row t).phase = .atRest

theorem State.towerLaw_iff (s : State) (t : Tower) : s.towerLaw t = true ↔ (s.row t).ok := by
  simp only [State.towerLaw, TowerRow.ok, State.row]
  cases (s.tower t).phase <;> simp [and_assoc]

theorem State.towersLaw_iff (s : State) : s.towersLaw = true ↔ TowersOk s := by
  have both : ∀ p : Tower → Prop, (∀ t, p t) ↔ p .a ∧ p .b :=
    fun p => ⟨fun h => ⟨h .a, h .b⟩, fun h t => by cases t <;> simp [h]⟩
  have rest : s.bothAtRest = true ↔ ∀ t, (s.row t).phase = .atRest := by
    rw [both, s.bothAtRest_iff]; rfl
  simp only [State.towersLaw, Bool.and_eq_true, Bool.or_eq_true, State.towerLaw_iff, rest]
  refine ⟨fun ⟨⟨ha, hb⟩, hr⟩ => ⟨(both _).2 ⟨ha, hb⟩, fun hm => hr.resolve_left (by simp [hm])⟩, fun h => ⟨(both _).1 h.rows, ?_⟩⟩
  cases hm : s.smc.motion.moving
  · exact .inr (h.rests hm)
  · exact .inl rfl

theorem TowersOk.congr {s t : State} (h : TowersOk s) (hd : t.drives = s.drives) : TowersOk t := by
  have hm : t.smc.motion = s.smc.motion := congrArg (·.1) hd
  have hr : t.row = s.row := congrArg (·.2) hd
  exact ⟨by rw [hr]; exact h.rows, by rw [hr, hm]; exact h.rests⟩

/-- The rows stand and no tower is away from AT_REST: every motion state keeps the law. -/
theorem TowersOk.of_row {s t : State} (h : TowersOk s) (hr : t.row = s.row) (hrest : ∀ w, (s.row w).phase = .atRest) :
    TowersOk t :=
  ⟨by rw [hr]; exact h.rows, fun _ => by rw [hr]; exact hrest⟩

theorem TowersOk.ite {c : Prop} [Decidable c] {a b : State} (ha : c → TowersOk a) (hb : ¬ c → TowersOk b) :
    TowersOk (if c then a else b) := by
  split
  · next h => exact ha h
  · next h => exact hb h

theorem TowersOk.foldl {α : Type} (f : State → α → State) (hf : ∀ s x, TowersOk s → TowersOk (f s x)) (l : List α) {s : State}
    (h : TowersOk s) : TowersOk (l.foldl f s) := by
  induction l generalizing s with
  | nil => exact h
  | cons x l ih => exact ih (hf s x h)

theorem TowersOk.inAnyOrder {α : Type} (f : State → α → State) (hf : ∀ s x, TowersOk s → TowersOk (f s x)) (l : List α)
    {s : State} (h : TowersOk s) : TowersOk (s.inAnyOrder l f) :=
  State.inAnyOrder_keeps TowersOk f l s (fun x _ t ht => hf t x ht) fun _ => h.congr rfl

/-! ### What leaves the rows alone -/

@[simp] theorem drives_ite {c : Prop} [Decidable c] (a b : State) :
    (if c then a else b).drives = if c then a.drives else b.drives := by split <;> rfl

theorem towerFn_lt (w : Tower) (k : Fin 4) : (towerFn w k).val < 8 := by
  cases w <;> simp only [towerFn] <;> omega

/-- Of the commands only functions 0 to 7 stand in the rows (R8). -/
theorem State.drives_ext {s t : State} (hm : t.smc.motion = s.smc.motion) (hp : ∀ w, (t.tower w).phase = (s.tower w).phase)
    (hs : t.om.speed = s.om.speed) (hc : ∀ f : Fin 40, f.val < 8 → t.cmd f = s.cmd f) : t.drives = s.drives := by
  refine Prod.ext hm (funext fun w => ?_)
  simp only [State.drives, State.row, hp, hs, hc _ (towerFn_lt w _)]

theorem State.drives_of_spanReads {s t : State} (h : t.spanReads = s.spanReads) : t.drives = s.drives :=
  State.drives_ext (congrArg (·.1.motion) h) (fun w => by rw [State.spanReads_tower h]) (State.spanReads_speed h)
    fun _ hf => State.spanReads_cmd h (by omega)

theorem State.drives_of_offChannel {s t : State} (h : t.offChannel = s.offChannel) : t.drives = s.drives :=
  State.drives_ext (by rw [State.offChannel_smc h]) (fun w => by simp only [State.tower, State.offChannel_smc h])
    (State.offChannel_speed h) fun f hf => State.offChannel_cmd h f (by omega)

theorem LooksAgain.drives {s t : State} (h : LooksAgain s t) : t.drives = s.drives :=
  State.drives_ext h.motion h.phase h.speed fun f hf => h.cmd f (by rintro rfl; simp at hf)

theorem State.setCmd_drives (s : State) {f : Fin 40} (b : Bool) (hf : 8 ≤ f.val) : (s.setCmd f b).drives = s.drives :=
  State.drives_ext rfl (fun _ => rfl) rfl fun g hg => by rw [State.setCmd_cmd, if_neg (by rintro rfl; omega)]

@[simp] theorem State.compare_drives (s : State) : s.compare.drives = s.drives := s.compare_looks.drives

@[simp] theorem State.reportFault_drives (s : State) (f : Fin 37) (b : Bool) : (s.reportFault f b).drives = s.drives :=
  (State.setCmd_drives (s.onMfs _) _ (by decide)).trans rfl

theorem State.reported_drives (s : State) (f : Fin 37) (b : Bool) : (s.reported f b).drives = s.drives := by
  simp [State.reported]

/-! ### What the operations of one tower write in its row -/

/-- The operation leaves the motion state, and of the rows changes that of one tower. -/
structure RowMoves (t : Tower) (r : TowerRow) (s u : State) : Prop where
  motion : u.smc.motion = s.smc.motion
  row : ∀ w, u.row w = if t = w then r else s.row w

theorem RowMoves.refl (s : State) (t : Tower) : RowMoves t (s.row t) s s := ⟨rfl, fun w => by split <;> simp_all⟩

theorem RowMoves.congr {s u : State} {t : Tower} {r r' : TowerRow} (h : RowMoves t r s u) (hr : r = r') : RowMoves t r' s u := hr ▸ h

theorem RowMoves.trans {s u v : State} {t : Tower} {r r' : TowerRow} (h : RowMoves t r s u) (k : RowMoves t r' u v) :
    RowMoves t r' s v :=
  ⟨k.motion.trans h.motion, fun w => by rw [k.row, h.row]; split <;> rfl⟩

theorem towerFn_inj : ∀ (t w : Tower) (j k : Fin 4), towerFn t j = towerFn w k ↔ t = w ∧ j = k := by
  intro t w
  cases t <;> cases w <;> decide

/-- Both towers in turn: an operation that keeps each row in order keeps the rows. -/
theorem RowMoves.rows {s u v : State} {ra rb : TowerRow} (ha : RowMoves .a ra s u) (hb : RowMoves .b rb u v) (w : Tower) :
    v.row w = match w with | .a => ra | .b => rb := by
  cases w <;> simp [hb.row, ha.row]

theorem State.setTower_moves (s : State) (t : Tower) (r : TowerRec) :
    RowMoves t { s.row t with phase := r.phase } s (s.setTower t r) := by
  refine ⟨rfl, fun w => ?_⟩
  by_cases h : t = w
  · subst h; simp [State.row, State.tower]
  · simp [State.row, State.tower, h]

theorem State.setBrake_row (s : State) (t : Tower) :
    RowMoves t { s.row t with phase := .settingBrake, brake := false, staged := 0 } s (s.setBrake t) := by
  refine ⟨rfl, fun w => ?_⟩
  by_cases h : t = w
  · subst h; simp [State.row, State.tower, State.setBrake, towerFn_inj]
  · simp [State.row, State.tower, State.setBrake, towerFn_inj, h]

/-- A tower's direction lines both go off, whichever was on (R60). -/
theorem State.releaseDirection_row (s : State) (t : Tower) :
    RowMoves t { s.row t with raise := false, lower := false } s (s.releaseDirection t) := by
  have block : ∀ v, RowMoves t { s.row t with raise := false, lower := false } s
      (((s.setCmd (towerFn t 0) false).setCmd (towerFn t 1) false).setTower t { s.tower t with reversal := v }) := by
    refine fun v => ⟨rfl, fun w => ?_⟩
    by_cases h : t = w
    · subst h; simp [State.row, State.tower, towerFn_inj]
    · simp [State.row, State.tower, towerFn_inj, h]
  unfold State.releaseDirection
  simp only []
  split
  · exact block _
  · split
    · exact block _
    · next h0 h1 => exact (RowMoves.refl s t).congr (by simp_all [State.row])

theorem State.assertDirection_row (s : State) (t : Tower) (raise : Bool) :
    RowMoves t
      { s.row t with
        phase := .releasingBrake, raise := raise || s.cmd (towerFn t 0), lower := !raise || s.cmd (towerFn t 1) } s
      (s.assertDirection t raise) := by
  refine ⟨rfl, fun w => ?_⟩
  by_cases h : t = w
  · subst h; cases raise <;> simp [State.row, State.tower, State.assertDirection, towerFn_inj]
  · cases raise <;> simp [State.row, State.tower, State.assertDirection, towerFn_inj, h]

theorem State.stage_row (s : State) (t : Tower) (d : Nat) : RowMoves t { s.row t with staged := d } s (s.stage t d) := by
  refine ⟨rfl, fun w => ?_⟩
  by_cases h : t = w
  · subst h; simp [State.row, State.tower]
  · simp [State.row, State.tower, h]

/-! ### Operations that keep each row in order -/

/-- From `s` to `u` the motion state stands, each row that was in order is, and a tower at rest stays there. -/
structure RowsKept (s u : State) : Prop where
  motion : u.smc.motion = s.smc.motion
  row : ∀ w, (s.row w).ok → (u.row w).ok
  rest : ∀ w, (s.row w).phase = .atRest → (u.row w).phase = .atRest

theorem RowsKept.trans {s t u : State} (h : RowsKept s t) (k : RowsKept t u) : RowsKept s u :=
  ⟨k.motion.trans h.motion, fun w => k.row w ∘ h.row w, fun w => k.rest w ∘ h.rest w⟩

theorem RowsKept.of_drives {s t : State} (h : t.drives = s.drives) : RowsKept s t := by
  have hr : t.row = s.row := congrArg (·.2) h
  exact ⟨congrArg (·.1) h, fun w => by rw [hr]; exact id, fun w => by rw [hr]; exact id⟩

theorem RowMoves.kept {s u : State} {t : Tower} {r : TowerRow} (h : RowMoves t r s u) (hr : (s.row t).ok → r.ok)
    (hp : (s.row t).phase = .atRest → r.phase = .atRest) : RowsKept s u := by
  refine ⟨h.motion, fun w hw => ?_, fun w hw => ?_⟩ <;> rw [h.row] <;> split
  · next e => exact hr (e ▸ hw)
  · exact hw
  · next e => exact hp (e ▸ hw)
  · exact hw

theorem TowersOk.kept {s u : State} (h : TowersOk s) (k : RowsKept s u) : TowersOk u :=
  ⟨fun t => k.row t (h.rows t), fun hn t => k.rest t (h.rests (k.motion ▸ hn) t)⟩

theorem State.stopTower_kept (s : State) (t : Tower) : RowsKept s (s.stopTower t) := by
  have hphase : (s.tower t).phase = (s.row t).phase := rfl
  unfold State.stopTower
  split <;> rename_i hp <;> rw [hphase] at hp
  case h_1 | h_3 => exact (s.setTower_moves t _).kept (by simp [TowerRow.ok, hp]) (by simp [hp])
  case h_2 => exact (s.setBrake_row t).kept (by simp +contextual [TowerRow.ok, hp]) (by simp [hp])
  all_goals exact .of_drives rfl

theorem State.quickStopTower_kept (s : State) (t : Tower) : RowsKept s (s.quickStopTower t) := by
  have hphase : (s.tower t).phase = (s.row t).phase := rfl
  unfold State.quickStopTower
  split <;> rename_i hp <;> rw [hphase] at hp
  case h_1 | h_2 | h_3 => exact (s.setBrake_row t).kept (by simp +contextual [TowerRow.ok, hp]) (by simp [hp])
  case h_4 => exact (s.setTower_moves t _).kept (by simp [TowerRow.ok, hp]) (by simp)
  all_goals exact .of_drives rfl

/-- Duties that go to 0 are in order in every phase. -/
theorem TowerRow.unstaged_ok {r : TowerRow} (h : r.ok) : { r with staged := 0 }.ok := by
  revert h
  simp only [TowerRow.ok]
  cases r.phase <;> simp +contextual

theorem State.zeroDuties_kept (s : State) : RowsKept s (s.onOm Om.zeroDuties) := by
  have hr : ∀ w, (s.onOm Om.zeroDuties).row w = { s.row w with staged := 0 } := fun w => by cases w <;> rfl
  exact ⟨rfl, fun w h => by rw [hr]; exact TowerRow.unstaged_ok h, fun w h => by rw [hr]; exact h⟩

/-- A duty is staged in the phases that have one (R50, R59). -/
theorem State.stage_kept (s : State) (t : Tower) (x : Int) : RowsKept s (s.stage t (s.reference t x)) := by
  refine (s.stage_row t _).kept ?_ id
  simp only [TowerRow.ok, State.row, State.reference]
  cases (s.tower t).phase <;> simp +contextual

theorem State.examineTower_kept (s : State) (t : Tower) : RowsKept s (s.examineTower t) := by
  unfold State.examineTower
  split
  · next h =>
    have hp : (s.row t).phase = .rampingDown := by simp at h; exact h.1
    exact (s.setBrake_row t).kept (by simp +contextual [TowerRow.ok, hp]) (by simp [hp])
  · exact .of_drives rfl

/-- A tower's record may change but for its phase. -/
theorem State.setTower_drives (s : State) (t : Tower) (r : TowerRec) (hp : r.phase = (s.tower t).phase) :
    (s.setTower t r).drives = s.drives := by
  refine Prod.ext rfl (funext fun w => ?_)
  have h := (s.setTower_moves t r).row w
  rw [hp] at h
  split at h
  · next e => subst e; exact h
  · exact h

theorem State.seatTower_kept (s : State) (t : Tower) : RowsKept s (s.seatTower t) := by
  unfold State.seatTower
  split
  · exact .of_drives rfl
  · exact ((RowsKept.of_drives (s.setTower_drives t { s.tower t with seated := true } rfl)).trans (State.stage_kept _ t 0)).trans (State.stopTower_kept _ t)

theorem State.seatIfMade_kept (s : State) (t : Tower) : RowsKept s (s.seatIfMade t) := by
  unfold State.seatIfMade
  split
  · exact s.seatTower_kept t
  · exact .of_drives rfl

/-! ### Starting the towers (R59, R60) -/

/-- The operation takes a tower at rest to a row in order. -/
def Starts (s u : State) (t : Tower) : Prop :=
  (s.row t).ok → (s.row t).phase = .atRest → ∃ r : TowerRow, r.ok ∧ RowMoves t r s u

/-- A tower at rest starts, or waits for its reversal record. -/
theorem State.startTower_starts (s : State) (raise : Bool) (t : Tower) : Starts s (s.startTower raise t) t := by
  intro h hp
  have hoff : s.cmd (towerFn t 0) = false ∧ s.cmd (towerFn t 1) = false ∧ s.cmd (towerFn t 2) = false ∧
      (s.om.speed.get t).staged = 0 := by
    rw [TowerRow.ok, hp] at h
    exact h
  obtain ⟨h0, h1, h2, h3⟩ := hoff
  have starts : ∃ r : TowerRow, r.ok ∧ RowMoves t r s (s.assertDirection t raise) :=
    ⟨_, by cases raise <;> simp [TowerRow.ok, State.row, h0, h1, h2, h3], s.assertDirection_row t raise⟩
  have waits : ∃ r : TowerRow, r.ok ∧ RowMoves t r s (s.setTower t { s.tower t with phase := .waitingReversal }) :=
    ⟨_, by simp [TowerRow.ok, State.row, h0, h1, h2, h3], s.setTower_moves t _⟩
  unfold State.startTower
  split
  · split
    · exact waits
    · exact starts
  · exact starts

/-- Both towers start from rest: their rows are in order, and the motion state stands. -/
theorem Starts.both {s u v : State} (h : ∀ t, (s.row t).ok) (hr : ∀ t, (s.row t).phase = .atRest) (ha : Starts s u .a)
    (hb : Starts u v .b) : v.smc.motion = s.smc.motion ∧ ∀ t, (v.row t).ok := by
  obtain ⟨ra, hra, hua⟩ := ha (h .a) (hr .a)
  have hub : u.row .b = s.row .b := by simp [hua.row]
  obtain ⟨rb, hrb, hvb⟩ := hb (by rw [hub]; exact h .b) (by rw [hub]; exact hr .b)
  refine ⟨hvb.motion.trans hua.motion, fun t => ?_⟩
  rw [hua.rows hvb]
  cases t
  exacts [hra, hrb]

end Sys2Proof.Machine
end


section
/-! SUPPORT. The operations of the span keep the law of the towers (R57, R59 to R80). -/

namespace Sys2Proof.Machine

theorem State.row_of_drives {s t : State} (h : t.drives = s.drives) : t.row = s.row := congrArg (·.2) h

theorem State.setLocks_row (s : State) {f g : Fin 40} (b c : Bool) (hf : 8 ≤ f.val) (hg : 8 ≤ g.val) :
    ((s.setCmd f b).setCmd g c).row = s.row :=
  State.row_of_drives (((s.setCmd f b).setCmd_drives c hg).trans (s.setCmd_drives b hf))

namespace TowersOk

variable {s : State}

theorem compare (h : TowersOk s) : TowersOk s.compare := h.congr s.compare_drives

theorem rests_of_bothAtRest (hr : s.bothAtRest = true) : ∀ w, (s.row w).phase = .atRest := by
  obtain ⟨ha, hb⟩ := s.bothAtRest_iff.1 hr
  rintro (_ | _)
  exacts [ha, hb]

/-- Any motion state may follow where the towers are at rest. -/
theorem onSmc_rests (h : TowersOk s) (f : Smc → Smc) (hf : (f s.smc).towers = s.smc.towers)
    (hr : ∀ w, (s.row w).phase = .atRest) : TowersOk (s.onSmc f) :=
  h.of_row (funext fun w => by simp only [State.row, State.tower, State.onSmc_smc, hf]; rfl) hr

/-! ### The blocks that no row reads -/

theorem onCs (h : TowersOk s) (f : Cs → Cs) : TowersOk (s.onCs f) := h.congr rfl
theorem onIq (h : TowersOk s) (f : Iq → Iq) : TowersOk (s.onIq f) := h.congr rfl
theorem onMu (h : TowersOk s) (f : Mu → Mu) : TowersOk (s.onMu f) := h.congr rfl
theorem onRcs (h : TowersOk s) (f : Rcs → Rcs) : TowersOk (s.onRcs f) := h.congr rfl
theorem onPg (h : TowersOk s) (f : Pg → Pg) : TowersOk (s.onPg f) := h.congr rfl
theorem onPau (h : TowersOk s) (f : Pau → Pau) : TowersOk (s.onPau f) := h.congr rfl
theorem onHt (h : TowersOk s) (f : Ht → Ht) : TowersOk (s.onHt f) := h.congr rfl
theorem onMfs (h : TowersOk s) (f : Mfs → Mfs) : TowersOk (s.onMfs f) := h.congr rfl

theorem onOm (h : TowersOk s) (f : Om → Om) (hs : (f s.om).speed = s.om.speed) (hc : (f s.om).command = s.om.command) :
    TowersOk (s.onOm f) :=
  h.congr (State.drives_ext rfl (fun _ => rfl) hs fun g _ => by simp only [State.cmd, State.onOm_om, hc])

theorem onSmc (h : TowersOk s) (f : Smc → Smc) (hm : (f s.smc).motion = s.smc.motion) (ht : (f s.smc).towers = s.smc.towers) :
    TowersOk (s.onSmc f) :=
  h.congr (State.drives_ext hm (fun _ => by simp only [State.tower, State.onSmc_smc, ht]) rfl fun _ _ => rfl)

theorem onPort (h : TowersOk s) (p : Port) (f : PortRec → PortRec) : TowersOk (s.onPort p f) := h.congr rfl
theorem reportFault (h : TowersOk s) (f : Fin 37) (b : Bool) : TowersOk (s.reportFault f b) := h.congr (s.reportFault_drives f b)

/-! ### Stops (R61, R72 to R75) -/

theorem quickStop (h : TowersOk s) : TowersOk s.quickStop := by
  unfold State.quickStop
  refine ite (fun _ => ?_) fun _ => h
  have stopping : TowersOk (s.onSmc fun m => { m with stop := .quick, attendance := .stopped, seatTimer := none, out := 0 }) :=
    h.congr rfl
  have stopped := stopping.kept
    (((State.zeroDuties_kept _).trans (State.quickStopTower_kept _ .a)).trans (State.quickStopTower_kept _ .b))
  exact (ite (fun hr => stopped.onSmc_rests _ rfl (rests_of_bothAtRest hr)) fun _ => stopped).compare

theorem trip (h : TowersOk s) : TowersOk s.trip := by
  by_cases hm : s.smc.motion = .tripped
  · rwa [State.trip, if_pos hm]
  · have ht := State.trip_tripped hm
    refine ⟨fun w => ?_, fun _ => ht.phase⟩
    have off : ∀ k : Fin 3, s.trip.cmd (towerFn w ⟨k.val, by omega⟩) = false := fun k =>
      ht.off.1 _ (by have := towerFn_lt w ⟨k.val, by omega⟩; omega) (by revert k; cases w <;> decide)
        (by revert k; cases w <;> decide)
    rw [TowerRow.ok, show (s.trip.row w).phase = .atRest from ht.phase w]
    exact ⟨off 0, off 1, off 2, (ht.off.2 w).1⟩

theorem tripReport (h : TowersOk s) (f : Fin 37) (b : Bool) : TowersOk (s.tripReport f b) := by
  have hr : TowersOk (s.reported f b) := h.congr (s.reported_drives f b)
  rw [State.tripReport_cases]
  exact ite (fun _ => hr.trip) fun _ => hr

theorem pulseFault (h : TowersOk s) (f : Fin 37) : TowersOk (s.pulseFault f) := (h.tripReport f true).tripReport f false

/-! ### Seating and locking (R67, R68) -/

theorem finishLocking (h : TowersOk s) : TowersOk s.finishLocking := by
  unfold State.finishLocking
  refine ite (fun hc => ?_) fun _ => h
  have hm : s.smc.motion = .locking := by simp at hc; exact hc.1
  exact h.of_row (s.setLocks_row false false (by decide) (by decide)) (h.rests (by rw [hm]; rfl))

theorem enterLocking (h : TowersOk s) (hr : ∀ w, (s.row w).phase = .atRest) : TowersOk s.enterLocking := by
  simp only [State.enterLocking]
  exact ((h.onSmc_rests _ rfl hr).congr
    ((State.setCmd_drives _ _ (by decide)).trans (State.setCmd_drives _ _ (by decide)))).finishLocking

theorem checkSeated (h : TowersOk s) : TowersOk s.checkSeated := by
  unfold State.checkSeated
  refine ite (fun _ => ?_) fun _ => h
  have hs : TowersOk (s.onSmc fun m => { m with seatTimer := none }) := h.congr rfl
  exact ite (fun hr => hs.enterLocking (rests_of_bothAtRest (by simp at hr; exact hr.1))) fun _ => hs

/-- SEATING is entered from LOWERING, or from rest. -/
theorem enterSeating (h : TowersOk s) (fromRest : Bool) (hr : fromRest = true → ∀ w, (s.row w).phase = .atRest) :
    TowersOk (s.enterSeating fromRest) := by
  obtain ⟨v, hv⟩ : ∃ v, v = s.onSmc fun m =>
      { m with motion := .seating, target := none, seatTimer := startTimer (secTicks s.act.seatTime)
               towers := { a := { m.towers.a with seated := false }, b := { m.towers.b with seated := false } } } := ⟨_, rfl⟩
  have hrow : v.row = s.row := by rw [hv]; funext w; cases w <;> rfl
  have moves : ∀ {u : State}, u.smc.motion = .seating → (∀ w, (u.row w).ok) → TowersOk u := fun hm hrows =>
    ⟨hrows, fun hn => by rw [hm] at hn; cases hn⟩
  have hvm : v.smc.motion = .seating := by rw [hv]; rfl
  have hkept := (State.seatIfMade_kept v .a).trans (State.seatIfMade_kept _ .b)
  have hseat := (moves hvm (by rw [hrow]; exact h.rows)).kept hkept
  simp only [State.enterSeating, ← hv]
  generalize (v.seatIfMade .a).seatIfMade .b = u at hkept hseat
  cases fromRest with
  | false => exact hseat.checkSeated
  | true =>
    have start : ∀ (u : State) t, Starts u (if (u.tower t).seated then u else u.startTower false t) t := fun u t => by
      split
      · exact fun ho _ => ⟨_, ho, RowMoves.refl u t⟩
      · exact u.startTower_starts false t
    obtain ⟨hm, hrows⟩ := Starts.both hseat.rows (fun t => hkept.rest t (by rw [hrow]; exact hr rfl t)) (start u .a) (start _ .b)
    exact checkSeated (congr (moves (hm.trans (hkept.motion.trans hvm)) hrows) rfl)

/-! ### The ends of stops, and halts (R61, R64, R68, R72) -/

theorem holdingLeft (h : TowersOk s) : TowersOk s.holdingLeft := h.congr (State.drives_of_offChannel s.holdingLeft_offChannel)

theorem holdingEntered (h : TowersOk s) : TowersOk s.holdingEntered :=
  h.congr (State.drives_of_offChannel s.holdingEntered_offChannel)

theorem checkRest (h : TowersOk s) : TowersOk s.checkRest := by
  unfold State.checkRest
  refine ite (fun hc => ?_) fun _ => h
  have hr := rests_of_bothAtRest (Bool.and_eq_true_iff.1 hc).2
  split
  · exact (h.onSmc_rests _ rfl hr).holdingEntered
  · exact h.onSmc_rests _ rfl hr
  · exact h.onSmc_rests _ rfl hr
  · exact h.checkSeated

theorem beginStop (h : TowersOk s) (k : StopKind) : TowersOk (s.beginStop k) := by
  simp only [State.beginStop]
  exact ((congr (t := s.onSmc _) h rfl).kept ((State.stopTower_kept _ .a).trans (State.stopTower_kept _ .b))).checkRest.compare

theorem haltUnlocking (h : TowersOk s) (hm : s.smc.motion = .unlocking) : TowersOk s.haltUnlocking := by
  have hr := h.rests (by rw [hm]; rfl)
  have hrow := s.setLocks_row (f := 9) (g := 11) false false (by decide) (by decide)
  exact ite (fun _ => h.of_row hrow hr) fun _ => h.of_row hrow hr

theorem haltLocking (h : TowersOk s) (hm : s.smc.motion = .locking) : TowersOk s.haltLocking :=
  h.of_row (s.setLocks_row (f := 8) (g := 10) false false (by decide) (by decide)) (h.rests (by rw [hm]; rfl))

theorem halt (h : TowersOk s) : TowersOk s.halt := by
  unfold State.halt
  split
  case h_1 | h_2 | h_3 =>
    split
    case h_1 | h_2 => exact h.beginStop .halt
    all_goals exact h
  case h_4 hm => exact (h.onSmc_rests _ rfl (h.rests (by rw [hm]; rfl))).holdingLeft
  case h_5 hm => exact h.haltUnlocking hm
  case h_6 hm => exact h.haltLocking hm
  all_goals exact h

theorem haltIn (h : TowersOk s) (l : List Motion) : TowersOk (s.haltIn l) := ite (fun _ => h.halt) fun _ => h

theorem smcHoldPlaced (h : TowersOk s) (k : HoldKind) : TowersOk (s.smcHoldPlaced k) := by
  cases k
  · exact h.haltIn _
  · exact h.quickStop
  · exact (h.haltIn _).quickStop
  all_goals exact h

/-! ### Starting a motion (R59, R63, R64, R66) -/

/-- The towers start from rest, under a motion state that moves them. -/
theorem startTowers {u : State} (h : TowersOk s) (hr : ∀ w, (s.row w).phase = .atRest) (hu : u.row = s.row)
    (hm : u.smc.motion.moving = true) (raise : Bool) : TowersOk ((u.startTowers raise).setAttendance).compare := by
  obtain ⟨hmotion, hrows⟩ := Starts.both (by rw [hu]; exact h.rows) (by rw [hu]; exact hr) (u.startTower_starts raise .a)
    (State.startTower_starts _ raise .b)
  have hs : TowersOk (u.startTowers raise) := ⟨hrows, fun hn => by
    have e : (u.startTowers raise).smc.motion = u.smc.motion := hmotion
    rw [e, hm] at hn
    cases hn⟩
  exact (congr (t := (u.startTowers raise).setAttendance) hs rfl).compare

theorem enterRaising (h : TowersOk s) (hr : ∀ w, (s.row w).phase = .atRest) : TowersOk s.enterRaising :=
  h.startTowers (u := ((s.setCmd 9 false).setCmd 11 false).onSmc fun m => { m with motion := .raising, stop := .none, lockTimer := none })
    hr (s.setLocks_row (f := 9) (g := 11) false false (by decide) (by decide)) rfl true

theorem enterLowering (h : TowersOk s) (hr : ∀ w, (s.row w).phase = .atRest) : TowersOk s.enterLowering :=
  h.startTowers (u := s.onSmc fun m => { m with motion := .lowering, stop := .none, target := none }) hr rfl rfl false

theorem enterUnlocking (h : TowersOk s) (hr : ∀ w, (s.row w).phase = .atRest) : TowersOk s.enterUnlocking :=
  h.of_row (State.setLocks_row _ _ _ (by decide) (by decide)) hr

theorem acceptRaise (h : TowersOk s) (hs : s.smc.motion = .raising ∨ s.smc.motion.moving = false) (t : Nat) :
    TowersOk (s.acceptRaise t) := by
  have hu : TowersOk (s.onSmc fun m => { m with target := some t }) := h.congr rfl
  have hr : s.smc.motion ≠ .raising → ∀ w, (s.row w).phase = .atRest := fun hn => h.rests (hs.resolve_left hn)
  simp only [State.acceptRaise]
  split
  · exact hu
  · next hm => exact (hu.enterRaising (hr (by simp [hm]))).holdingLeft
  · next hn _ => exact ite (fun _ => hu.enterRaising (hr hn)) fun _ => hu.enterUnlocking (hr hn)

theorem raise (h : TowersOk s) (w : RaiseWish) : TowersOk (s.raise w).2.2 := by
  have hand : ∀ (c : Bool) (f : Opening → Opening),
      TowersOk (if c then s.onOpening f else s) ∧ (if c then s.onOpening f else s).smc = s.smc := by
    rintro (_ | _) f
    · exact ⟨h, rfl⟩
    · exact ⟨h.congr rfl, rfl⟩
  unfold State.raise
  split
  · exact h
  · next hc =>
    split
    · exact h
    · simp only []
      split
      · obtain ⟨hu, hsmc⟩ := hand _ _
        refine hu.acceptRaise ?_ _
        have hs : s.raiseState = true := by simp at hc; exact hc.2
        rw [hsmc]
        revert hs
        unfold State.raiseState
        cases s.smc.motion <;> simp [Motion.moving]
      · exact h

theorem lower (h : TowersOk s) : TowersOk s.lower.2 := by
  have rest : ∀ {m : Motion}, m.moving = false → s.smc.motion = m → ∀ w, (s.row w).phase = .atRest := fun hm e =>
    h.rests (e ▸ hm)
  unfold State.lower
  split
  · exact h
  · split
    · next hl =>
      split
      · refine h.enterLocking ?_
        simp only [State.lowerLocks, Bool.or_eq_true, Bool.and_eq_true, decide_eq_true_eq, and_assoc] at hl
        obtain hm | ⟨hm, -⟩ := hl
        exacts [rest rfl hm, rest rfl hm]
      · exact h
    · split
      · next hc =>
        have hr : ∀ w, (s.row w).phase = .atRest := by
          simp only [Bool.or_eq_true, Bool.and_eq_true, decide_eq_true_eq] at hc
          obtain ⟨hm | hm, -⟩ := hc
          exacts [rest rfl hm, rest rfl hm]
        have hl : TowersOk (if s.act.ztol < s.spanHeight then s.enterLowering else (s.enterSeating true).compare) :=
          ite (fun _ => h.enterLowering hr) fun _ => (h.enterSeating true fun _ => hr).compare
        exact ite (fun _ => hl.holdingLeft) fun _ => hl
      · exact h

/-! ### Leaving INITIAL and TRIPPED (R58, R80) -/

theorem leaveInitial (h : TowersOk s) : TowersOk s.leaveInitial := by
  unfold State.leaveInitial
  refine ite (fun hc => ?_) fun _ => h
  have hm : s.smc.motion = .initial := by simp at hc; exact hc.1.1
  exact h.onSmc_rests _ rfl (h.rests (by rw [hm]; rfl))

theorem smcAcknowledged (h : TowersOk s) : TowersOk s.smcAcknowledged := by
  unfold State.smcAcknowledged
  refine ite (fun hc => ?_) fun _ => h
  have hm : s.smc.motion = .tripped := by simp at hc; exact hc.1
  exact h.onSmc_rests _ rfl (h.rests (by rw [hm]; rfl))

/-! ### Timers of the towers and locks (R59 to R61, R71, R77, R79) -/

theorem brakeExpiry (h : TowersOk s) (t : Tower) : TowersOk (s.brakeExpiry t) := by
  have hphase : (s.tower t).phase = (s.row t).phase := rfl
  have hok := h.rows t
  unfold State.brakeExpiry
  simp only []
  split
  · next hp _ =>
    rw [hphase] at hp
    have released : RowMoves t { s.row t with phase := .running, brake := true } s
        ((s.setCmd (towerFn t 2) true).setTower t { s.tower t with phase := .running, brakeTimer := none }) := by
      refine ⟨rfl, fun w => ?_⟩
      by_cases e : t = w
      · subst e; simp [State.row, State.tower, towerFn_inj]
      · simp [State.row, State.tower, towerFn_inj, e]
    exact (h.kept (released.kept (by simp +contextual [TowerRow.ok, hp]) (by simp [hp]))).compare
  · next hp _ =>
    rw [hphase] at hp
    have stopped := (s.releaseDirection_row t).trans
      ((s.releaseDirection t).setTower_moves t { (s.releaseDirection t).tower t with phase := .atRest, brakeTimer := none })
    refine (h.kept (stopped.kept (fun hk => ?_) fun _ => rfl)).checkRest.compare
    rw [(s.releaseDirection_row t).row, if_pos rfl]
    rw [TowerRow.ok, hp] at hk
    exact ⟨rfl, rfl, hk.2⟩
  · exact h

theorem reversalExpiry (h : TowersOk s) (t : Tower) : TowersOk (s.reversalExpiry t) := by
  unfold State.reversalExpiry
  refine ite (fun _ => h) fun _ => ?_
  have emptied : TowersOk (s.setTower t { s.tower t with reversal := none }) := h.congr (s.setTower_drives t _ rfl)
  simp only []
  generalize s.setTower t { s.tower t with reversal := none } = u at emptied ⊢
  refine ite (fun hp => ?_) fun _ => emptied
  have hp' : (u.row t).phase = .waitingReversal := hp
  refine (emptied.kept ((u.assertDirection_row t _).kept (fun hk => ?_) (by simp [hp']))).compare
  rw [TowerRow.ok, hp'] at hk
  obtain ⟨h0, h1, h2, h3⟩ := hk
  rw [show u.cmd (towerFn t 0) = false from h0, show u.cmd (towerFn t 1) = false from h1]
  refine ⟨?_, h2, h3⟩
  cases decide (u.smc.motion = .raising) <;> rfl

theorem lockTimeout (h : TowersOk s) : TowersOk s.lockTimeout := ite (fun _ => h.pulseFault 10) fun _ => h

theorem seatTimeout (h : TowersOk s) : TowersOk s.seatTimeout := ite (fun _ => h.pulseFault 11) fun _ => h

theorem attendanceExpiry (h : TowersOk s) : TowersOk s.attendanceExpiry := by
  unfold State.attendanceExpiry
  split
  · exact h.halt
  · exact h

theorem disagreementExpiry (h : TowersOk s) (t : Tower) (p : Proving) : TowersOk (s.disagreementExpiry t p) := by
  unfold State.disagreementExpiry
  split
  · exact ((h.congr (s.setTower_drives t _ (by cases p <;> rfl))).tripReport _ true).compare
  · exact h

/-! ### The measurement set (R33) -/

theorem speedControl (h : TowersOk s) : TowersOk s.speedControl := by
  unfold State.speedControl
  refine ite (fun _ => ?_) fun _ => h
  have hu : TowersOk (s.onSmc fun m => { m with out := s.outNow }) := h.congr rfl
  simp only []
  generalize (s.onSmc fun m => { m with out := s.outNow }) = u at hu ⊢
  have hb : u.reference .b (u.candidate .b) = (u.stage .a (u.reference .a (u.candidate .a))).reference .b (u.candidate .b) := by
    simp [State.reference, State.act, State.tower]
  rw [hb]
  exact (hu.kept (u.stage_kept .a _)).kept (State.stage_kept _ .b _)

theorem goalTest (h : TowersOk s) : TowersOk s.goalTest := by
  unfold State.goalTest
  split
  · exact h
  · exact ite (fun _ => h) fun _ => ite (fun _ => h.beginStop .arrival) fun _ =>
      ite (fun _ => (h.enterSeating false (by simp)).compare) fun _ => h

theorem doSetTask (h : TowersOk s) (x : SetTask) : TowersOk (s.doSetTask x) := by
  cases x
  · exact h.leaveInitial.goalTest.speedControl
  · exact h.tripReport 1 _
  · exact h.tripReport 2 _

theorem smcTakesSet (h : TowersOk s) : TowersOk s.smcTakesSet := by
  unfold State.smcTakesSet
  split
  · exact h.doSetTask .motion
  · exact inAnyOrder _ (fun _ x hu => hu.doSetTask x) _ (congr (t := s.noteHeights _) h rfl)

/-! ### Input events (R1) -/

theorem attendanceSource (h : TowersOk s) : TowersOk s.attendanceSource := by
  unfold State.attendanceSource
  split
  · exact h
  · split
    · exact h.congr rfl
    · exact h.congr rfl
    · exact h

theorem lockWithdrawn (h : TowersOk s) (t : Tower) : TowersOk (s.lockWithdrawn t) := by
  unfold State.lockWithdrawn
  refine ite (fun hm => ?_) fun _ => h
  have hc : (s.setCmd (withdrawFn t) false).drives = s.drives := s.setCmd_drives false (by cases t <;> decide)
  refine ite (fun _ => (h.congr hc).enterRaising ?_) fun _ => h.congr hc
  rw [State.row_of_drives hc]
  exact h.rests (by rw [hm]; rfl)

theorem withdrawnLost (h : TowersOk s) : TowersOk s.withdrawnLost := ite (fun _ => h.pulseFault 10) fun _ => h

theorem lockDriven (h : TowersOk s) (t : Tower) : TowersOk (s.lockDriven t) :=
  ite (fun _ => (h.congr (s.setCmd_drives false (by cases t <;> decide))).finishLocking) fun _ => h

theorem seatedLockedLost (h : TowersOk s) : TowersOk s.seatedLockedLost :=
  ite (fun hm => h.onSmc_rests _ rfl (h.rests (by rw [hm]; rfl))) fun _ => h

theorem seatEvent (h : TowersOk s) (t : Tower) (made : Bool) : TowersOk (s.seatEvent t made) :=
  ite (fun _ => ite (fun _ => (h.kept (s.seatTower_kept t)).checkSeated.compare) fun _ => h) fun _ => h.seatedLockedLost

theorem smcLine (h : TowersOk s) (l : Fin 48) (b : Bool) : TowersOk (s.smcLine l b) := by
  unfold State.smcLine
  split
  case h_1 | h_2 => exact h.seatEvent _ b
  case h_3 | h_4 => exact h.tripReport 2 _
  case h_5 | h_6 | h_7 | h_8 | h_9 | h_10 => exact h.compare
  case h_11 | h_12 => exact ite (fun _ => h.lockWithdrawn _) fun _ => h.withdrawnLost
  case h_13 | h_14 => exact ite (fun _ => h.lockDriven _) fun _ => h.seatedLockedLost
  case h_15 | h_16 => exact ite (fun _ => h) fun _ => h.haltIn _
  case h_17 | h_18 => exact ite (fun _ => h) fun _ => h.quickStop
  case h_19 | h_20 => exact h.attendanceSource
  case h_21 => exact ite (fun _ => h.raise .panel) fun _ => h
  case h_22 => exact ite (fun _ => h.lower) fun _ => h
  case h_23 => exact h

/-! ### The E-stop loop (R14, R15) -/

theorem reportEstop (h : TowersOk s) : TowersOk s.reportEstop := ite (fun _ => h.tripReport 0 _) fun _ => h

theorem setLatch (h : TowersOk s) : TowersOk s.setLatch :=
  ite (fun _ => h) fun _ => congr (t := s.onOm fun o => { o.zeroDuties with latch := true }) (h.kept s.zeroDuties_kept) rfl

end TowersOk

end Sys2Proof.Machine
end


section
/-! SUPPORT. The channel and the road keep the law of the towers (chapters 5, 7 and 8): they reach the towers by quick stops and
halts alone. -/

namespace Sys2Proof.Machine

/-! ### What the road leaves of the rows -/

@[simp] theorem State.onRcs_drives (s : State) (f : Rcs → Rcs) : (s.onRcs f).drives = s.drives := rfl
@[simp] theorem State.onPg_drives (s : State) (f : Pg → Pg) : (s.onPg f).drives = s.drives := rfl
@[simp] theorem State.onPau_drives (s : State) (f : Pau → Pau) : (s.onPau f).drives = s.drives := rfl
@[simp] theorem State.setGate_drives (s : State) (g : Gate) (r : GateRec) : (s.setGate g r).drives = s.drives := rfl
@[simp] theorem State.setRoad_drives (s : State) (r : Road) : (s.setRoad r).drives = s.drives := rfl
@[simp] theorem State.stopTravel_drives (s : State) : s.stopTravel.drives = s.drives := rfl
@[simp] theorem State.armClearing_drives (s : State) : s.armClearing.drives = s.drives := rfl

@[simp] theorem State.issueGate_drives (s : State) (g : Gate) : (s.issueGate g).drives = s.drives :=
  State.drives_of_spanReads (s.issueGate_spanReads g)

@[simp] theorem State.issueGates_drives (s : State) : s.issueGates.drives = s.drives :=
  foldl_keeps _ State.issueGate_drives _ _

@[simp] theorem State.requestAspect_drives (s : State) (h : Head) (a : Aspect) : (s.requestAspect h a).drives = s.drives :=
  State.drives_of_offChannel (s.requestAspect_offChannel h a)

@[simp] theorem State.startAspect_drives (s : State) (h : Head) (a : Aspect) : (s.startAspect h a).drives = s.drives :=
  State.drives_of_offChannel (s.startAspect_offChannel h a)

@[simp] theorem State.setWarn_drives (s : State) (a : Aspect) : (s.setWarn a).drives = s.drives := by simp [State.setWarn]

@[simp] theorem State.setTraf_drives (s : State) (a : Aspect) : (s.setTraf a).drives = s.drives := by simp [State.setTraf]

@[simp] theorem State.setCauses_drives (s : State) (f : Rcs → Rcs) : (s.setCauses f).drives = s.drives := by
  simp [State.setCauses]

@[simp] theorem State.noteGateFaults_drives (s : State) : s.noteGateFaults.drives = s.drives := by simp [State.noteGateFaults]

@[simp] theorem State.dropCommands_drives (s : State) : s.dropCommands.drives = s.drives := by simp [State.dropCommands]

@[simp] theorem State.startBudget_drives (s : State) : s.startBudget.drives = s.drives := by simp [State.startBudget]

@[simp] theorem State.moveGate_drives (s : State) (g : Gate) (c : GateCmd) : (s.moveGate g c).drives = s.drives := by
  simp [State.moveGate]

@[simp] theorem State.flagObstructed_drives (s : State) (g : Gate) (c : GateCmd) : (s.flagObstructed g c).drives = s.drives := by
  simp [State.flagObstructed]

@[simp] theorem State.enterPrewarn_drives (s : State) : s.enterPrewarn.drives = s.drives := by simp [State.enterPrewarn]

@[simp] theorem State.loopEvent_drives (s : State) : s.loopEvent.drives = s.drives := by simp [State.loopEvent]

@[simp] theorem State.closeRoad_drives (s : State) : s.closeRoad.drives = s.drives := by
  unfold State.closeRoad
  split <;> simp

@[simp] theorem State.requestDanger_drives (s : State) : s.requestDanger.drives = s.drives := by
  unfold State.requestDanger
  split <;> simp

@[simp] theorem State.evaluateClearance_drives (s : State) : s.evaluateClearance.drives = s.drives := by
  simp [State.evaluateClearance]

@[simp] theorem State.intrusion_drives (s : State) : s.intrusion.drives = s.drives := by simp [State.intrusion]

@[simp] theorem State.endIntrusion_drives (s : State) : s.endIntrusion.drives = s.drives := by simp [State.endIntrusion]

namespace TowersOk

variable {s : State}

/-! ### The channel (chapters 7 and 8) -/

/-- What touches the channel alone keeps the law. -/
theorem channel {t : State} (h : TowersOk s) (hc : t.offChannel = s.offChannel) : TowersOk t :=
  h.congr (State.drives_of_offChannel hc)

theorem decideAspects (h : TowersOk s) : TowersOk s.decideAspects := h.channel s.decideAspects_offChannel

theorem finishingTest (h : TowersOk s) : TowersOk s.finishingTest := h.channel s.finishingTest_offChannel

theorem admissionTest (h : TowersOk s) : TowersOk s.admissionTest := h.channel s.admissionTest_offChannel

theorem evaluateClearance (h : TowersOk s) : TowersOk s.evaluateClearance := h.congr s.evaluateClearance_drives

theorem departed (h : TowersOk s) : TowersOk s.departed := by
  have left : TowersOk s.settleDirection.closeIfEmpty.closeIfSpent := h.channel (by
    rw [State.closeIfSpent_offChannel, State.closeIfEmpty_offChannel, State.settleDirection_offChannel])
  exact left.evaluateClearance.finishingTest.decideAspects

theorem retirePassage (h : TowersOk s) (i : Fin 16) : TowersOk (s.retirePassage i) := by
  have hu : TowersOk (s.onPau fun u => u.retire i) := h.congr rfl
  exact ite (fun _ => hu.departed) fun _ => hu

theorem enters (h : TowersOk s) (x : Handle 16) : TowersOk (s.enters x) := by
  unfold State.enters
  split
  · exact h
  · next p _ =>
    have entered : TowersOk (s.setPassage x.slot { p with state := .transiting }) := h.congr rfl
    exact entered.evaluateClearance.quickStop

theorem beamBreaks (h : TowersOk s) (b : Beam) : TowersOk (s.beamBreaks b) := by
  have intrudes : TowersOk s.intrusion := h.congr s.intrusion_drives
  unfold State.beamBreaks
  split
  · exact intrudes
  · simp only []
    split
    · split
      · exact h.enters _
      · exact intrudes
    · exact ite (fun _ => intrudes) fun _ => h

theorem beamRestores (h : TowersOk s) (b : Beam) : TowersOk (s.beamRestores b) := by
  unfold State.beamRestores
  split
  · exact h
  · refine ite (fun _ => h) fun _ => ?_
    split
    · exact h.retirePassage _
    · exact h.congr s.intrusion_drives

theorem beamEvent (h : TowersOk s) (b : Beam) (clear : Bool) : TowersOk (s.beamEvent b clear) := by
  have hu : TowersOk (if clear then (s.beamRestores b).finishingTest else s.beamBreaks b) :=
    ite (fun _ => (h.beamRestores b).finishingTest) fun _ => h.beamBreaks b
  exact decideAspects (hu.congr (State.endIntrusion_drives _))

theorem group (h : TowersOk s) (x : Handle 16) : TowersOk (s.group x) := by
  unfold State.group
  split
  · exact h
  · exact h.congr rfl

theorem joinTest (h : TowersOk s) (i : Fin 16) : TowersOk (s.joinTest i) := by
  unfold State.joinTest
  simp only []
  split
  · exact h
  · refine ite (fun _ => ?_) fun _ => h
    have joined := h.group (s.handleAt i)
    exact decideAspects (ite (fun _ => joined.admissionTest) fun _ => joined)

theorem markUnreachable (h : TowersOk s) (i : Fin 16) : TowersOk (s.markUnreachable i) := by
  unfold State.markUnreachable
  split
  · exact ite (fun _ => h.congr rfl) fun _ => h
  · exact h

theorem formOpening (h : TowersOk s) : TowersOk s.formOpening := by
  have marked := h.foldl State.markUnreachable (fun _ i hu => hu.markUnreachable i) (List.finRange 16)
  simp only [State.formOpening]
  generalize (List.finRange 16).foldl State.markUnreachable s = u at marked ⊢
  have opened : TowersOk (u.onOpening fun _ =>
      { Opening.absent with state := .gathered, target := some (u.targetFor (u.eligibleOrder.take 8)) }) := marked.congr rfl
  have stopped := (opened.foldl State.group (fun _ x hu => hu.group x) (u.eligibleOrder.take 8)).quickStop
  exact decideAspects (ite (fun _ => stopped.holdingEntered) fun _ => stopped)

theorem countWait (h : TowersOk s) (i : Fin 16) : TowersOk (s.countWait i) := by
  unfold State.countWait
  split
  · exact h
  · next p _ =>
    have counted : TowersOk (s.setPassage i { p with wait := p.wait - 1 }) := h.congr rfl
    exact ite (fun _ => counted.joinTest i) fun _ => counted

theorem lapse (h : TowersOk s) (i : Fin 16) (p : Passage) : TowersOk (s.lapse i p) :=
  ite (fun _ => h.retirePassage i) fun _ => h.congr rfl

theorem countExpiry (h : TowersOk s) (i : Fin 16) : TowersOk (s.countExpiry i) := by
  unfold State.countExpiry
  split
  · exact h
  · split
    · exact ite (fun _ => h.lapse i _) fun _ => h.congr rfl
    · exact ite (fun _ => h.retirePassage i) fun _ => h.congr rfl
    · exact h

theorem tickPassages (h : TowersOk s) : TowersOk s.tickPassages := by
  have tick : ∀ (u : State) (i : Fin 16), TowersOk u → TowersOk (u.tickRecord i) := fun _ i hu => (hu.countWait i).countExpiry i
  exact inAnyOrder _ tick _ (h.foldl _ tick _)

theorem pauTakesSet (h : TowersOk s) : TowersOk s.pauTakesSet := by
  have admitted : TowersOk s.setAdmission := h.channel s.setAdmission_offChannel
  rw [State.pauTakesSet_eq]
  refine decideAspects ?_
  unfold State.setClearance
  split
  · exact admitted
  · next c _ =>
    have noted : TowersOk (s.setAdmission.onPau fun u => { u with lastClearance := some c }) := admitted.congr rfl
    exact noted.evaluateClearance

theorem channelHeadChanged (h : TowersOk s) (d : Dir) : TowersOk (s.channelHeadChanged d) :=
  decideAspects (ite (fun _ => h.channel (State.callBack_offChannel _ _)) fun _ => h)

/-! ### The road (chapter 5) -/

theorem reportGate (h : TowersOk s) (g : Gate) (b : Bool) : TowersOk (s.reportGate g b) := by
  have reported : TowersOk
      (if s.faultChanges (gateFault g) b then (s.reportFault (gateFault g) b).noteGateFaults else s) := h.congr (by simp)
  exact ite (fun _ => reported.haltIn _) fun _ => reported

theorem pulseGate (h : TowersOk s) (g : Gate) : TowersOk (s.pulseGate g) := (h.reportGate g true).reportGate g false

theorem driveGates (h : TowersOk s) (l : List (Gate × GateCmd)) : TowersOk (s.driveGates l) := by
  refine foldl _ (fun _ x hu => hu.pulseGate x.1) _ (foldl _ (fun _ x hu => ?_) _ (h.foldl _ (fun _ x hu => ?_) _))
  · exact hu.congr (State.moveGate_drives _ _ _)
  · exact hu.congr (State.flagObstructed_drives _ _ _)

theorem driveStep (h : TowersOk s) : TowersOk s.driveStep := h.driveGates _

theorem nextStep {t : State} (h : TowersOk s) (hn : s.nextStep = some t) : TowersOk t := by
  have drive : ∀ f, TowersOk (s.onRcs f).driveStep := fun f => driveStep (h.congr (s.onRcs_drives f))
  unfold State.nextStep at hn
  repeat' split at hn
  all_goals cases hn
  · exact h.congr rfl
  · exact drive _
  · exact drive fun m => { m with road := .barrierLowering }
  · exact h.congr (by simp)
  · exact drive _
  · exact drive _
  · exact h.congr (by simp)

theorem advance (h : TowersOk s) : TowersOk s.advance := by
  have steps : ∀ (n : Nat) {u : State}, TowersOk u → TowersOk (State.advanceSteps n u) := by
    intro n
    induction n with
    | zero => exact fun hu => hu
    | succ n ih =>
      intro u hu
      unfold State.advanceSteps
      split
      · exact hu
      · split
        · exact hu
        · next e => exact ih (hu.nextStep e)
  exact steps 6 h

theorem enterEntryLowering (h : TowersOk s) : TowersOk s.enterEntryLowering :=
  (driveStep (h.congr (by simp))).advance

theorem headsChecked (h : TowersOk s) : TowersOk s.headsChecked := ite (fun _ => h.enterEntryLowering) fun _ => h

theorem restartStep (h : TowersOk s) : TowersOk s.restartStep := ite (fun _ => h.driveStep.headsChecked.advance) fun _ => h

theorem changeCauses (h : TowersOk s) (f : Rcs → Rcs) : TowersOk (s.changeCauses f) := by
  have hu : TowersOk (s.setCauses f) := h.congr (s.setCauses_drives f)
  exact ite (fun _ => hu.restartStep) fun _ => hu

theorem leaveSealed (h : TowersOk s) : TowersOk s.leaveSealed :=
  ite (fun _ => h.foldl _ (fun _ g hu => hu.reportGate g false) _) fun _ => h

theorem enterBarrierRaising (h : TowersOk s) : TowersOk s.enterBarrierRaising := by
  simp only [State.enterBarrierRaising]
  exact (driveStep (h.leaveSealed.congr (by simp))).advance

theorem reopenRoad (h : TowersOk s) : TowersOk s.reopenRoad.2 := by
  unfold State.reopenRoad
  split
  case h_1 | h_2 | h_3 | h_4 => exact h
  all_goals
    split
    · exact h.enterBarrierRaising
    · exact h

theorem prewarnExpiry (h : TowersOk s) : TowersOk s.prewarnExpiry := by
  have hu : TowersOk (s.onRcs fun m => { m with prewarn := none }) := h.congr rfl
  exact ite (fun _ => h) fun _ => ite (fun _ => h.congr rfl) fun _ => hu.enterEntryLowering

theorem amberExpiry (h : TowersOk s) : TowersOk s.amberExpiry := by
  have hu : TowersOk (s.onRcs fun m => { m with amber := none }) := h.congr rfl
  exact ite (fun _ => h) fun _ => ite (fun _ => hu.congr (State.setTraf_drives _ _)) fun _ => hu

theorem clearingExpiry (h : TowersOk s) : TowersOk s.clearingExpiry := by
  unfold State.clearingExpiry
  split
  · exact ite (fun _ => h) fun _ => advance (h.congr rfl)
  · exact h

theorem extinguishExpiry (h : TowersOk s) : TowersOk s.extinguishExpiry := h.congr (by simp [State.extinguishExpiry])

theorem travelExpiry (h : TowersOk s) (g : Gate) : TowersOk (s.travelExpiry g) :=
  ite (fun _ => h) fun _ => pulseGate (h.congr (by simp)) g

theorem lowerAgain (h : TowersOk s) (g : Gate) : TowersOk (s.lowerAgain g) := driveGates (h.congr (by simp)) _

theorem settleExpiry (h : TowersOk s) (g : Gate) : TowersOk (s.settleExpiry g) := by
  unfold State.settleExpiry
  split
  · exact ite (fun _ => h.lowerAgain g) fun _ => h.congr rfl
  · exact h

theorem budgetTick (h : TowersOk s) : TowersOk s.budgetTick := by
  refine ite (fun _ => h) fun _ => ite (fun _ => ?_) fun _ => h.congr rfl
  exact channel (s := s.onRcs _) (h.congr rfl) (State.budgetSpent_offChannel _)

theorem gateMoved (h : TowersOk s) (g : Gate) (p : GatePos) : TowersOk (s.gateMoved g p) := by
  have stopped : TowersOk
      (if s.rcs.live && (s.gate g).cmd ≠ .none && some (s.gate g).pos = cmdPos (s.gate g).cmd then
        (s.setGate g { s.gate g with cmd := .none, travel := none }).issueGate g
      else s) := h.congr (by simp)
  exact ite (fun _ => stopped.lowerAgain g) fun _ => ite (fun _ => stopped.driveGates _) fun _ => stopped

theorem provingEvent (h : TowersOk s) (g : Gate) : TowersOk (s.provingEvent g) := by
  have hu : TowersOk (s.setGate g { s.gate g with pos := s.provenPos g }) := h.congr rfl
  exact ite (fun _ => hu.reportGate g _) fun _ => (hu.gateMoved g _).advance

theorem zoneEvent (h : TowersOk s) (g : Gate) : TowersOk (s.zoneEvent g) := by
  have set : ∀ r, TowersOk (s.setGate g r) := fun r => h.congr rfl
  exact ite (fun _ => ite (fun _ => set _) fun _ => h) fun _ => ite (fun _ => set _) fun _ =>
    ite (fun _ => (set _).driveGates _) fun _ => h

theorem rcsLine (h : TowersOk s) (l : Fin 48) (b : Bool) : TowersOk (s.rcsLine l b) := by
  unfold State.rcsLine
  split
  case h_1 => exact h.changeCauses _
  case h_18 | h_19 => exact h.congr s.loopEvent_drives
  case h_20 => exact ite (fun _ => h.congr s.closeRoad_drives) fun _ => h
  case h_21 => exact ite (fun _ => h.reopenRoad) fun _ => h
  case h_22 => exact h
  case h_14 | h_15 | h_16 | h_17 => exact h.zoneEvent _
  all_goals exact h.provingEvent _

theorem rcsQualified (h : TowersOk s) : TowersOk s.rcsQualified := by
  have poses := h.foldl (fun s g => s.setGate g { s.gate g with pos := s.provenPos g }) (fun _ _ hu => hu.congr rfl) Gate.all
  exact changeCauses (ite (fun _ => poses.congr (by simp)) fun _ => poses) _

theorem keepClosedPlaced (h : TowersOk s) : TowersOk s.keepClosedPlaced :=
  h.congr (State.drives_of_spanReads s.keepClosedPlaced_spanReads)

theorem keepClosedReleased (h : TowersOk s) : TowersOk s.keepClosedReleased :=
  ite (fun _ => restartStep (h.congr rfl)) fun _ => h

end TowersOk

end Sys2Proof.Machine
end


section
/-! SUPPORT. The heads, the holds, the monitors, the lines, the scans and the entries keep the law of the towers. -/

namespace Sys2Proof.Machine

@[simp] theorem State.driveAlarm_drives (s : State) : s.driveAlarm.drives = s.drives := s.setCmd_drives _ (by decide)

namespace TowersOk

variable {s : State}

/-! ### Heads and lamp proving (chapter 6) -/

theorem deliverImpaired (h : TowersOk s) (hd : Head) : TowersOk (s.deliverImpaired hd) := by
  cases hd
  case chanU => exact h.channelHeadChanged .down
  case chanD => exact h.channelHeadChanged .up
  case horn => exact h
  all_goals exact h.headsChecked

theorem reportLamp (h : TowersOk s) (i : Fin 15) (b : Bool) : TowersOk (s.reportLamp i b) := by
  have reported := h.reportFault (lampFault i) b
  exact ite (fun _ => ite (fun _ => reported) fun _ => (reported.onPg _).deliverImpaired _) fun _ => h

theorem checkLamp (h : TowersOk s) (x : Fin 15 × Bool) : TowersOk (s.checkLamp x) := ite (fun _ => h) fun _ => h.onPg _

theorem proveHead (h : TowersOk s) (hd : Head) : TowersOk (s.proveHead hd) :=
  ite (fun _ => h) fun _ => inAnyOrder _ (fun _ x hu => hu.reportLamp x.1 x.2) _ (h.foldl _ (fun _ x hu => hu.checkLamp x) _)

theorem provingPointOf (h : TowersOk s) (hd : Head) : TowersOk (s.provingPointOf hd) := by
  have hu : TowersOk (s.setRun hd { s.pg.heads.get hd with proving := none }) := h.onPg _
  exact ite (fun _ => h) fun _ => hu.proveHead hd

theorem startAspect (h : TowersOk s) (hd : Head) (a : Aspect) : TowersOk (s.startAspect hd a) := h.congr (s.startAspect_drives hd a)

theorem endStep (h : TowersOk s) (hd : Head) : TowersOk (s.endStep hd) := by
  unfold State.endStep
  simp only []
  split
  · exact h
  · exact h.startAspect hd _
  · exact ite (fun _ => h.startAspect hd _) fun _ => h.channel (s.showStep_offChannel hd _)

theorem stepExpiry (h : TowersOk s) (hd : Head) : TowersOk (s.stepExpiry hd) := by
  have hu : TowersOk (s.setRun hd { s.pg.heads.get hd with stepTimer := none }) := h.onPg _
  have proved := hu.provingPointOf hd
  exact ite (fun _ => h) fun _ => ite (fun _ => ite (fun _ => proved) fun _ => proved.endStep hd) fun _ => h.endStep hd

theorem displaceLamps (h : TowersOk s) (was : List (Fin 40)) : TowersOk (s.displaceLamps was) := by
  refine h.foldl _ (fun u i hu => ?_) _
  have zero := hu.onPg fun g => { g with lamps := g.lamps.set i { litMiss := 0, darkMiss := 0 } }
  exact ite (fun _ => zero.reportLamp i true) fun _ => ite (fun _ => zero.reportLamp i false) fun _ => hu

/-! ### Holds (chapter 9) -/

theorem deliverPlaced (h : TowersOk s) (k : HoldKind) (was : Bool) : TowersOk (s.deliverPlaced k was) := by
  cases k
  case keepClosed => exact h.keepClosedPlaced
  case marineStop => exact ite (fun _ => h) fun _ => h.channel s.marineStopPlaced_offChannel
  case noRaise => exact h.smcHoldPlaced .noRaise
  case noLower => exact h.smcHoldPlaced .noLower
  case noMotion => exact h.smcHoldPlaced .noMotion

theorem deliverReleased (h : TowersOk s) (k : HoldKind) : TowersOk (s.deliverReleased k) := by
  cases k
  case keepClosed => exact h.keepClosedReleased
  case marineStop => exact ite (fun _ => h) fun _ => h.decideAspects
  all_goals exact h

theorem setFixed (h : TowersOk s) (l : List (Fin 4)) (on : Bool) : TowersOk (s.setFixed l on) := by
  refine ite (fun _ => ?_) fun _ => ?_
  · exact foldl _ (fun _ i hu => hu.deliverPlaced _ false) _ (h.foldl State.placeFixed (fun _ _ hu => hu.onHt _) _)
  · refine foldl _ (fun _ i hu => hu.deliverReleased _) _ (h.foldl State.retireFixed (fun u i hu => ?_) _)
    exact ite (fun _ => hu.onHt _) fun _ => hu

theorem htLine (h : TowersOk s) (l : Fin 48) (b : Bool) : TowersOk (s.htLine l b) := by
  unfold State.htLine
  split
  case h_4 => exact h
  all_goals exact h.setFixed _ b

theorem htQualified (h : TowersOk s) : TowersOk s.htQualified := by
  have step : ∀ {u : State} (c : Bool) (l : List (Fin 4)), TowersOk u → TowersOk (if c then u.setFixed l true else u) :=
    fun _ l hu => ite (fun _ => hu.setFixed l true) fun _ => hu
  exact step _ [2, 3] (step _ [1] (step _ [0] h))

theorem placeHold (h : TowersOk s) (p : Port) (k : HoldKind) (reason : Nat) : TowersOk (s.placeHold p k reason).2 := by
  unfold State.placeHold
  split
  · simp only []
    split
    · exact h.onHt _
    · exact h
  · split
    · exact h
    · exact (h.onHt _).deliverPlaced k _

/-! ### Monitors and acknowledgement (chapter 10) -/

theorem windEvent (h : TowersOk s) (e : MonitorEvent) : TowersOk (s.windEvent e) := by
  cases e with
  | none => exact h
  | toAlert => exact (h.onMfs _).haltIn _
  | toNormal _ => exact h.onMfs fun m => m.flagBoth fun f => { f with windFall := true }

theorem supplyEvent (h : TowersOk s) (e : MonitorEvent) : TowersOk (s.supplyEvent e) := by
  cases e with
  | none => exact h
  | toAlert => exact ((h.onMfs _).haltIn _).changeCauses _
  | toNormal _ =>
    have flagged := h.onMfs fun m => m.flagBoth fun f => { f with supplyFall := true }
    exact ite (fun _ => flagged.changeCauses _) fun _ => flagged

theorem windowEnd (h : TowersOk s) : TowersOk s.windowEnd := ite (fun _ => h) fun _ => ((h.onIq _).onMfs _).windEvent _

theorem mfsTakesSet (h : TowersOk s) : TowersOk s.mfsTakesSet := by
  unfold State.mfsTakesSet
  split
  · exact h
  · exact (h.onMfs _).supplyEvent _

theorem supplyExpiry (h : TowersOk s) : TowersOk s.supplyExpiry := ite (fun _ => h) fun _ => (h.onMfs _).supplyEvent _

theorem acknowledge (h : TowersOk s) : TowersOk s.acknowledge.2 := by
  have cleared : TowersOk s.clearLatched := by
    unfold State.clearLatched
    exact (h.onMfs _).congr (State.driveAlarm_drives _)
  have released : TowersOk s.clearLatched.releaseLatch :=
    (cleared.onOm (fun o => { o with latch := false }) rfl rfl).compare
  exact (changeCauses (ite (fun _ => released) fun _ => cleared) _).smcAcknowledged

/-! ### Drive periods and scans (chapter 2) -/

theorem periodBoundary (h : TowersOk s) : TowersOk s.periodBoundary := by
  refine ite (fun _ => h) fun _ => ?_
  have transferred : TowersOk ((s.onSmc fun m => { m with periodTimer := startTimer (msTicks s.act.tp) }).onOm Om.transfer) :=
    h.congr (Prod.ext rfl (funext fun w => by cases w <;> rfl))
  exact ((transferred.kept ((State.examineTower_kept _ .a).trans (State.examineTower_kept _ .b))).compare).congr rfl

theorem deliverSet (h : TowersOk s) (c : Consumer) : TowersOk (s.deliverSet c) := by
  cases c
  exacts [h.smcTakesSet, h.pauTakesSet, h.mfsTakesSet]

theorem completeScan (h : TowersOk s) (codes : RawCodes) : TowersOk (s.completeScan codes) := by
  unfold State.completeScan
  split
  · exact h
  · refine inAnyOrder _ (fun _ c hu => hu.deliverSet c) _ (onMu ?_ _)
    exact inAnyOrder _ (fun _ (x : Fin 37 × Bool) hu => hu.tripReport x.1 x.2) _ (h.onMu _)

/-! ### Lines (chapter 1) -/

theorem deliverLine (h : TowersOk s) (l : Fin 48) : TowersOk (s.deliverLine l) := by
  have beams : ∀ {u : State} (b : Bool), TowersOk u →
      TowersOk (if l = 33 then u.beamEvent .u b else if l = 34 then u.beamEvent .d b else u) := fun b hu =>
    ite (fun _ => hu.beamEvent .u b) fun _ => ite (fun _ => hu.beamEvent .d b) fun _ => hu
  have loop : ∀ {u : State}, TowersOk u → TowersOk (if l = 0 then u.reportEstop else u) := fun hu =>
    ite (fun _ => hu.reportEstop) fun _ => hu
  exact (loop (beams _ ((h.rcsLine l _).htLine l _))).smcLine l _

theorem takeFirstLevels (h : TowersOk s) (x : FirstLevels) : TowersOk (s.takeFirstLevels x) := by
  cases x
  · exact h.reportEstop
  · exact (h.compare.tripReport 2 _).leaveInitial

theorem qualificationComplete (h : TowersOk s) : TowersOk s.qualificationComplete :=
  (rcsQualified (inAnyOrder _ (fun _ x hu => hu.takeFirstLevels x) _ h)).htQualified

theorem sample (h : TowersOk s) (lines : BitVec 48) (lamps : BitVec 15) : TowersOk (s.sample lines lamps) := by
  refine ite (fun _ => h) fun _ => ?_
  have sampled : TowersOk (s.onIq fun q =>
      { q with samples := addSample s.iq.samples (s.sampleColumn lines),
               qualified := qualify (addSample s.iq.samples (s.sampleColumn lines)), sensed := some lamps,
               samplingTimer := startTimer (msTicks 5) }) := h.congr rfl
  simp only []
  split
  · exact inAnyOrder _ (fun _ l hu => hu.deliverLine l) _ sampled.compare
  · exact sampled.qualificationComplete
  · exact sampled

theorem loopOpens (h : TowersOk s) : TowersOk s.loopOpens := by
  have hu : TowersOk (s.onOm fun o => { o with loopClosed := false }) := h.congr rfl
  exact ite (fun _ => hu.setLatch.reportEstop.compare) fun _ => hu.congr rfl

theorem loopCloses (h : TowersOk s) : TowersOk s.loopCloses := by
  have hu : TowersOk (s.onOm fun o => { o with loopClosed := true }) := h.congr rfl
  exact ite (fun _ => hu.reportEstop) fun _ => hu.congr rfl

/-! ### The entry to CONFIGURED and the resets (R215 to R218) -/

/-- The towers at rest with every line off, whatever else holds. -/
theorem of_off (hp : ∀ t, (s.tower t).phase = .atRest) (hc : ∀ f, s.cmd f = false) (hs : ∀ t, (s.om.speed.get t).staged = 0) :
    TowersOk s :=
  ⟨fun t => by rw [TowerRow.ok, show (s.row t).phase = .atRest from hp t]; exact ⟨hc _, hc _, hc _, hs t⟩, fun _ => hp⟩

theorem entryValues (s : State) : TowersOk s.entryValues := by
  refine of_off (fun t => by cases t <;> rfl) (fun f => ?_) fun t => by cases t <;> rfl
  show (Vector.replicate 40 false)[f] = false
  simp

theorem reportDisplaced (h : TowersOk s) : TowersOk s.reportDisplaced := h.reportFault 36 _

theorem entryLoop (h : TowersOk s) : TowersOk s.entryLoop := ite (fun _ => h) fun _ => h.setLatch.reportEstop

theorem startPeriod (h : TowersOk s) : TowersOk (s.onSmc fun m => { m with periodTimer := startTimer 0 }) := h.onSmc _ rfl rfl

theorem resolve (h : TowersOk s) (c : Settings) : TowersOk (s.onOm fun o => o.resolve c) :=
  h.onOm _ (by rw [Om.resolve]) (by rw [Om.resolve])

theorem enterConfigured (s : State) : TowersOk s.enterConfigured := by
  have lit := (entryValues s).foldl (fun u hd => u.startAspect hd (entryAspect hd)) (fun _ hd hu => hu.startAspect hd _) Head.all
  unfold State.enterConfigured
  exact (lit.reportDisplaced.displaceLamps []).entryLoop.startPeriod.periodBoundary

theorem restartHead (h : TowersOk s) (hd : Head) : TowersOk (s.restartHead hd) := by
  unfold State.restartHead
  split
  · exact h
  · exact h.startAspect hd _

theorem recommit (h : TowersOk s) : TowersOk s.recommit := by
  have lit := ((h.resolve s.act).onRcs fun m => { m with budget := s.act.bmax.toNat }).foldl State.restartHead
    (fun _ hd hu => hu.restartHead hd) Head.all
  unfold State.recommit
  exact lit.reportDisplaced.displaceLamps _

theorem commit (h : TowersOk s) : TowersOk s.commit :=
  ite (fun _ => ((h.onCs _).onMu _).recommit) fun _ => enterConfigured _

theorem restartActs (s : State) : TowersOk s.restartActs := enterConfigured _

theorem powerOn (s : State) : TowersOk s.powerOn := by
  refine of_off (fun t => by cases t <;> rfl) (fun f => ?_) fun t => by cases t <;> rfl
  show (Vector.replicate 40 false)[f] = false
  simp

/-! ### The ports (chapter 11) -/

theorem replyEnded (h : TowersOk s) (r : Reply) : TowersOk (s.replyEnded r) :=
  ite (fun _ => restartActs _) fun _ => (onPort (ite (fun _ => (h.onPort _ _).onPort _ _) fun _ => h) _ _).onPort _ _

theorem replyCompletes (h : TowersOk s) (p : Port) : TowersOk (s.replyCompletes p) := by
  unfold State.replyCompletes
  split
  · exact (h.onPort p _).replyEnded _
  · exact h

theorem abandonReply (h : TowersOk s) (p : Port) (e f : Bool) : TowersOk (s.abandonReply p e f) := by
  unfold State.abandonReply
  split
  · exact h
  · exact (h.onPort p _).replyEnded _
  · exact (h.onPort p _).replyEnded _

theorem charReceived (h : TowersOk s) (p : Port) (x : RxChar) : TowersOk (s.charReceived p x) := by
  unfold State.charReceived
  split
  · exact h
  · split
    · unfold State.readBack
      split
      · exact h
      · exact ite (fun _ => h.onPort p _) fun _ => h.abandonReply p _ _
    · exact ite (fun _ => h.abandonReply p _ _) fun _ => h.onPort p _
    · exact h.onPort p _

theorem takeRequest (h : TowersOk s) (p : Port) (row : Instr) (owner : Frame → State → Answer × State)
    (ho : ∀ f u, TowersOk u → TowersOk (owner f u).2) : TowersOk (s.takeRequest p row owner) := by
  unfold State.takeRequest
  split
  · exact h
  · split
    · simp only []
      split
      · exact (h.onPort p _).onPort p _
      · exact (ho _ _ (h.onPort p _)).onPort p _
    · exact h

end TowersOk

end Sys2Proof.Machine
end

section
/-! SUPPORT. The requests, the ports, time and every command keep the law of the towers. -/

namespace Sys2Proof.Machine

namespace TowersOk

variable {s : State}

/-! ### What the requests do (R62 to R72, R133 to R153, R181 to R184, R210, R214, R215) -/

theorem clearFlags (h : TowersOk s) (p : Port) : TowersOk (s.clearFlags p) := h.onMfs _

theorem setPending (h : TowersOk s) (c : Settings) : TowersOk (s.onCs fun x => { x with pendingSet := c }) := h.onCs _

theorem setPassage (h : TowersOk s) (i : Fin 16) (r : Passage) : TowersOk (s.setPassage i r) := h.onPau _

theorem fileAt (h : TowersOk s) (i : Fin 16) (r : Passage) : TowersOk (s.fileAt i r) := by
  have filed := (h.setPassage i r).onPau fun u => { u with queue := u.queue ++ [s.handleAt i] }
  exact ite (fun _ => filed.joinTest i) fun _ => filed

theorem releaseHold (h : TowersOk s) (i : Fin 12) (k : HoldKind) : TowersOk (s.releaseHold i k) := (h.onHt _).deliverReleased k

theorem refreshAttendance (h : TowersOk s) : TowersOk s.refreshAttendance := ite (fun _ => h.onSmc _ rfl rfl) fun _ => h

theorem ownReadStatus (h : TowersOk s) (p : Port) (f : Frame) : TowersOk (s.ownReadStatus p f).2 := by
  unfold State.ownReadStatus
  simp only []
  split
  · exact h
  · exact h.clearFlags p

theorem ownFilePassage (h : TowersOk s) (p : Port) (f : Frame) : TowersOk (s.ownFilePassage p f).2 := by
  unfold State.ownFilePassage
  split
  · exact h
  · split
    · exact h
    · split
      · exact h
      · split
        · exact h.fileAt _ _
        · exact h

theorem ownAmendPassage (h : TowersOk s) (p : Port) (f : Frame) : TowersOk (s.ownAmendPassage p f).2 := by
  unfold State.ownAmendPassage
  split
  · exact h
  · split
    · exact h
    · split
      · exact h
      · split
        · exact h
        · split
          · exact h
          · exact ite (fun _ => (h.setPassage _ _).joinTest _) fun _ => h.setPassage _ _

theorem ownWithdrawPassage (h : TowersOk s) (p : Port) (f : Frame) : TowersOk (s.ownWithdrawPassage p f).2 := by
  unfold State.ownWithdrawPassage
  split
  · exact h
  · split
    · exact h
    · split
      · exact h
      · split
        · exact h
        · exact h.retirePassage _

theorem ownBeginOpening (h : TowersOk s) (f : Frame) : TowersOk (s.ownBeginOpening f).2 := by
  have formed := h.formOpening
  generalize hf : s.formOpening = u at formed
  rw [State.ownBeginOpening, hf, apply_ite Prod.snd]
  exact ite (fun _ => formed) fun _ => h

theorem ownEndOpening (h : TowersOk s) (f : Frame) : TowersOk (s.ownEndOpening f).2 := by
  unfold State.ownEndOpening
  split
  · exact (h.channel s.enterClosing_offChannel).decideAspects
  · exact (h.channel s.enterClosing_offChannel).decideAspects
  · exact h
  · exact h

theorem ownPlaceHold (h : TowersOk s) (p : Port) (f : Frame) : TowersOk (s.ownPlaceHold p f).2 := by
  unfold State.ownPlaceHold
  split
  · exact h
  · split
    · exact h
    · simp only []
      split
      · exact h.placeHold p _ _
      · exact h.placeHold p _ _

theorem ownReleaseHold (h : TowersOk s) (p : Port) (f : Frame) : TowersOk (s.ownReleaseHold p f).2 := by
  unfold State.ownReleaseHold
  split
  · exact h
  · split
    · exact h
    · split
      · exact h.releaseHold _ _
      · exact h

theorem ownLoadSetting (h : TowersOk s) (f : Frame) : TowersOk (s.ownLoadSetting f).2 := by
  unfold State.ownLoadSetting
  split
  · exact h
  · exact h.setPending _

theorem ownCommit (h : TowersOk s) (f : Frame) : TowersOk (s.ownCommit f).2 := by
  unfold State.ownCommit
  split
  · exact h
  · split
    · exact h
    · exact h.commit

/-! ### The ports and the passing of time -/

theorem frameCompletes (h : TowersOk s) (p : Port) (f : Frame) : TowersOk (s.frameCompletes p f) := by
  unfold State.frameCompletes
  split
  · exact h
  · split
    · exact h
    · exact h.onPort p _

theorem frameAbandons (h : TowersOk s) (p : Port) : TowersOk (s.frameAbandons p) := by
  unfold State.frameAbandons
  split
  · exact h.onPort p _
  · exact h

theorem driverRises (h : TowersOk s) (p : Port) : TowersOk (s.driverRises p) := by
  unfold State.driverRises
  split
  · exact h.onPort p _
  · exact h

theorem dropFrame (h : TowersOk s) (p : Port) :
    TowersOk (match s.takeable p with
      | none => s
      | some b => if takeCommand p b.frame = .frameDropped p then s.onPort p PortRec.pop else s) := by
  split
  · exact h
  · exact ite (fun _ => h.onPort p _) fun _ => h

theorem startPeriodOf (h : TowersOk s) (t : Tower) :
    TowersOk (s.onOm fun o => { o with speed := o.speed.set t (o.speed.get t).startPeriod }) :=
  h.congr (Prod.ext rfl (funext fun w => by cases t <;> cases w <;> rfl))

theorem elapse (h : TowersOk s) (d : Ticks) : TowersOk (s.elapse d) :=
  h.congr (Prod.ext rfl (funext fun w => by cases w <;> rfl))

theorem choose (h : TowersOk s) (l : List Instr) : TowersOk (s.choose l).2 := by
  unfold State.choose
  split
  · exact h
  · exact h
  · exact h.congr rfl

theorem nextEvent (h : TowersOk s) : TowersOk s.nextEvent.2 := by
  unfold State.nextEvent
  split
  · exact h.choose _
  · split
    · exact h
    · next d _ => exact choose (TowersOk.congr (t := { s.elapse d with free := s.free + 1 }) (h.elapse d) rfl) _

end TowersOk

/-! ### Every command -/

theorem exec_towersOk (c : Instr) {s : State} (h : TowersOk s) : ∀ t, exec c s = .next t → TowersOk t := by
  have request : ∀ (p : Port) (row : Instr) (owner : Frame → State → Answer × State),
      (∀ f u, TowersOk u → TowersOk (owner f u).2) → TowersOk (s.takeRequest p row owner) :=
    fun p row owner ho => h.takeRequest p row owner ho
  cases c with
  | powerOnReset => exact keeps_next (TowersOk.powerOn _)
  | resetLine => exact keeps_next (TowersOk.powerOn _)
  | readStatus p => exact keeps_next (request _ _ _ fun f _ hu => hu.ownReadStatus p f)
  | readMeasurements p => exact keeps_next (request _ _ _ fun _ _ hu => hu)
  | readFaults p => exact keeps_next (request _ _ _ fun _ _ hu => hu)
  | readHolds p => exact keeps_next (request _ _ _ fun f u hu => by rwa [u.ownReadHolds_state])
  | readPassage p => exact keeps_next (request _ _ _ fun f u hu => by rwa [u.ownReadPassage_state])
  | findPassage p => exact keeps_next (request _ _ _ fun f u hu => by rwa [u.ownFindPassage_state])
  | listPassages p => exact keeps_next (request _ _ _ fun _ _ hu => hu)
  | filePassage p => exact keeps_next (request _ _ _ fun f _ hu => hu.ownFilePassage p f)
  | amendPassage p => exact keeps_next (request _ _ _ fun f _ hu => hu.ownAmendPassage p f)
  | withdrawPassage p => exact keeps_next (request _ _ _ fun f _ hu => hu.ownWithdrawPassage p f)
  | beginOpening p => exact keeps_next (request _ _ _ fun f _ hu => hu.ownBeginOpening f)
  | endOpening p => exact keeps_next (request _ _ _ fun f _ hu => hu.ownEndOpening f)
  | closeRoad p => exact keeps_next (request _ _ _ fun _ u hu => hu.congr u.closeRoad_drives)
  | reopenRoad p => exact keeps_next (request _ _ _ fun _ _ hu => hu.reopenRoad)
  | raiseSpan p => exact keeps_next (request _ _ _ fun _ _ hu => hu.refreshAttendance.raise _)
  | lowerSpan p => exact keeps_next (request _ _ _ fun _ _ hu => hu.refreshAttendance.lower)
  | haltSpan p => exact keeps_next (request _ _ _ fun _ _ hu => hu.halt)
  | attend p => exact keeps_next (request _ _ _ fun _ _ hu => hu.refreshAttendance)
  | placeHold p => exact keeps_next (request _ _ _ fun f _ hu => hu.ownPlaceHold p f)
  | releaseHold p => exact keeps_next (request _ _ _ fun f _ hu => hu.ownReleaseHold p f)
  | acknowledgeFaults p => exact keeps_next (request _ _ _ fun _ _ hu => hu.acknowledge)
  | loadSetting p => exact keeps_next (request _ _ _ fun f _ hu => hu.ownLoadSetting f)
  | loadSettingItemAlone p => exact keeps_next (request _ _ _ fun f u hu => by rwa [u.ownShowSetting_state])
  | commitSettings p => exact keeps_next (request _ _ _ fun f _ hu => hu.ownCommit f)
  | restart p => exact keeps_next (request _ _ _ fun f u hu => by rwa [u.ownRestart_state])
  | restartActs => exact keeps_next (TowersOk.ite (fun _ => TowersOk.restartActs _) fun _ => h)
  | unknownRequest p => exact keeps_next (request _ _ _ fun _ _ hu => hu)
  | frameDropped p => exact keeps_next (h.dropFrame p)
  | frameComplete p f => exact keeps_next (h.frameCompletes p f)
  | frameAbandoned p => exact keeps_next (h.frameAbandons p)
  | driverEnableRises p => exact keeps_next (h.driverRises p)
  | replyCompleted p => exact keeps_next (h.replyCompletes p)
  | replyAbandoned p => exact keeps_next (h.abandonReply p _ _)
  | samplingInstant lines lamps => exact keeps_next (h.sample lines lamps)
  | anemometerPulse => exact keeps_next (TowersOk.ite (fun _ => h) fun _ => h.onIq _)
  | windWindowEnd => exact keeps_next h.windowEnd
  | windDelayEnd => exact keeps_next (TowersOk.ite (fun _ => h.windowEnd) fun _ => h)
  | supplyDelayExpiry => exact keeps_next h.supplyExpiry
  | estopLoopOpens => exact keeps_next h.loopOpens
  | estopLoopCloses => exact keeps_next h.loopCloses
  | drivePeriodBoundary => exact keeps_next h.periodBoundary
  | scanCompletion codes => exact keeps_next (h.completeScan codes)
  | brakeTimerExpiry t => exact keeps_next (h.brakeExpiry t)
  | reversalIntervalExpiry t => exact keeps_next (h.reversalExpiry t)
  | lockTravelTimeout => exact keeps_next h.lockTimeout
  | seatTimeout => exact keeps_next h.seatTimeout
  | attendanceTimerExpiry => exact keeps_next h.attendanceExpiry
  | disagreementTimerExpiry t v => exact keeps_next (h.disagreementExpiry t v)
  | prewarnTimerExpiry => exact keeps_next h.prewarnExpiry
  | amberTimerExpiry => exact keeps_next h.amberExpiry
  | clearingTimerExpiry => exact keeps_next h.clearingExpiry
  | extinguishTimerExpiry => exact keeps_next h.extinguishExpiry
  | gateTravelTimeout g => exact keeps_next (h.travelExpiry g)
  | settleTimerExpiry g => exact keeps_next (h.settleExpiry g)
  | budgetTick => exact keeps_next h.budgetTick
  | budgetExhausted => exact keeps_next (TowersOk.ite (fun _ => h.budgetTick) fun _ => h)
  | stepTimerExpiry hd => exact keeps_next (h.stepExpiry hd)
  | hornGivesUp => exact keeps_next (TowersOk.ite (fun _ => h.stepExpiry .horn) fun _ => h)
  | provingPoint hd => exact keeps_next (h.provingPointOf hd)
  | passageClockTick => exact keeps_next (TowersOk.ite (fun _ => h) fun _ => (h.onPau _).tickPassages)
  | windowOpens i => exact keeps_next (TowersOk.ite (fun _ => h.countWait i) fun _ => h)
  | lapse i => exact keeps_next (TowersOk.ite (fun _ => h.countExpiry i) fun _ => h)
  | lingerEnd i => exact keeps_next (TowersOk.ite (fun _ => h.countExpiry i) fun _ => h)
  | holdClockTick => exact keeps_next (TowersOk.ite (fun _ => h) fun _ => h.onHt _)
  | characterReceived p x => exact keeps_next (h.charReceived p x)
  | resetLineRises => exact keeps_next (h.onCs _)
  | carrierPeriodStart t => exact keeps_next (TowersOk.ite (fun _ => h) fun _ => h.startPeriodOf t)

/-- Settles O54: every command keeps the towers' law, and so do the passing of time and the choice of the part's own next event. -/
theorem everyStepKeepsTheTowersLaw : Obligations.EveryStepKeepsTheTowersLaw := by
  intro s t h hs
  rw [State.towersLaw_iff] at h ⊢
  unfold step at hs
  split at hs
  · next rest _ => exact exec_towersOk _ (TowersOk.congr (t := { s with pending := rest }) h rfl) t hs
  · have hn := h.nextEvent
    split at hs
    · next he => exact exec_towersOk _ (by rwa [he] at hn) t hs
    · next he =>
      rw [he] at hn
      cases hs
      exact hn

end Sys2Proof.Machine
end


section
/-! SUPPORT. A request that its owner answers, and a line's event in the state that its sampling instant leaves (R1 to R3, R77,
R208). -/

namespace Sys2Proof.Machine

/-! ### A request that passes its screening (R208, R211) -/

theorem Buffered.asks_iff (b : Buffered) (k : Nat) (l : List Byte) :
    b.asks k l = true ↔ b.frame.kind.toNat = k ∧ b.frame.payload = l := by
  simp [Buffered.asks]

theorem State.operatorAsks_iff (s : State) (b : Buffered) (rest : List Buffered) (k : Nat) (l : List Byte) :
    s.operatorAsks b rest k l = true ↔
      s.offers .operator b rest = true ∧ b.asks k l = true ∧ s.configured = true ∧ s.isLocal = false := by
  simp [State.operatorAsks, and_assoc]

/-- A request of a row of R208's table that OPERATOR may send passes the screening in CONFIGURED. -/
theorem State.screen_operator {s : State} {f : Frame} {r : RequestRow} (hr : requestRow f.kind.toNat = some r)
    (hl : f.payload.length ∈ r.lengths) (hc : s.configured = true) (hk : s.isLocal = false ∨ r.inLocal = true) :
    s.screen .operator f = none := by
  obtain hk | hk := hk <;> simp [State.screen, hr, hl, hc, hk]

/-- A state with the ports of another moment. -/
def State.withPorts (s : State) (x : PerPort PortRec) : State := { s with sp := x }

/-- A request that reaches its owner, whose operation leaves CS and the ports alone: what the owner makes of the state, with the
reply formed. -/
theorem State.takeRequest_answered {s : State} {p : Port} {b : Buffered} {rest : List Buffered} {row : Instr}
    (owner : Frame → State → Answer × State) (h : s.offers p b rest = true) (hr : takeCommand p b.frame = row)
    (hs : s.screen p b.frame = none) {a : Answer} {u : State} (ho : owner b.frame (s.popped p rest) = (a, u))
    (hu : u.stores = (s.popped p rest).stores) (hc : a.commits = false) (hre : a.restarts = false) :
    s.takeRequest p row owner =
      u.withPorts (s.replied p b rest (s.replyWith p b a.status.ctorIdx a.clamped a.body)).sp := by
  have hsp : u.sp = (s.popped p rest).sp := congrArg (·.2.2.2.2) hu
  have hcs : u.cs = s.cs := congrArg (·.2.1) hu
  rw [State.takeRequest_owner owner h hr hs, ho, State.formReply_ok b rest a hsp hc hre]
  simp only [State.replied, State.withPorts, State.act, hcs]

/-! ### The event of the one line that an instant qualifies (R1 to R3, R77) -/

/-- The state in which a line's event is delivered: the new levels are held and the comparisons are looked at again. -/
structure Qualified (s : State) (l : Fin 48) (b : Bool) (w : State) : Prop where
  compared : w = ({ s with iq := w.iq } : State).compare
  line : w.line l = b
  other : ∀ k, k ≠ l → w.line k = s.line k
  isQualified : w.isQualified = true

theorem State.sample_qualified {s : State} {lines : BitVec 48} {l : Fin 48} {b : Bool} (lamps : BitVec 15) (hl : l.val < 45)
    (h35 : l.val ≠ 35) (h : s.qualifies lines l b) :
    ∃ w : State, s.sample lines lamps = w.deliverLine l ∧ Qualified s l b w := by
  obtain ⟨q, hq, hother, hs⟩ := State.sample_of_qualifies lamps hl h35 h
  generalize hv : (s.onIq fun i =>
    { i with samples := addSample i.samples (s.sampleColumn lines), qualified := some q, sensed := some lamps,
             samplingTimer := some 14400 }) = v at hs
  have hiq : v.compare.iq = v.iq := State.stores_iq v.compare_stores
  have hqv : v.compare.iq.qualified = some q := by rw [hiq, ← hv]; rfl
  have hline := State.line_of_qualified hqv
  refine ⟨v.compare, hs, ?_, (hline l).trans hq, fun k hk => (hline k).trans (hother k hk), ?_⟩
  · rw [hiq, ← hv]; rfl
  · simp [State.isQualified, hqv]

namespace Qualified

variable {s w : State} {l : Fin 48} {b : Bool} (h : Qualified s l b w)
include h

theorem looks : LooksAgain { s with iq := w.iq } w := by
  have look := State.compare_looks { s with iq := w.iq }
  rwa [← h.compared] at look

theorem stands : SmcStands s w := h.looks.stands

theorem offDrive : w.offDrive = ({ s with iq := w.iq } : State).offDrive := h.looks.offDrive

theorem smc : w.smc = { s.smc with towers := w.smc.towers } := h.looks.smc

theorem motion : w.smc.motion = s.smc.motion := h.looks.motion

theorem stop : w.smc.stop = s.smc.stop := h.looks.stop

theorem cmd (f : Fin 40) (hf : f ≠ 39) : w.cmd f = s.cmd f := h.looks.cmd f hf

theorem act : w.act = s.act := by rw [h.looks.rest]; rfl

theorem latch : w.om.latch = s.om.latch := by rw [h.looks.rest]

theorem pau : w.pau = s.pau := h.looks.pau

/-- What leaves all but OM, SMC and MFS in that state leaves all but them and IQ in `s`. -/
theorem rest {t : State} (ht : t.offDrive = w.offDrive) : t = { s with iq := t.iq, om := t.om, smc := t.smc, mfs := t.mfs } := by
  have hx := ht.trans h.offDrive
  have hiq : t.iq = w.iq := (congrArg State.iq hx :)
  rw [← hiq] at hx
  exact State.offDrive_eq hx

end Qualified

end Sys2Proof.Machine
end

section
/-! ATTEND, the key and hold-to-run (R70). -/

namespace Sys2Proof.Machine

theorem State.attendanceRequired_iff (s : State) :
    s.attendanceRequired = true ↔
      (s.smc.motion = .raising ∨ s.smc.motion = .lowering ∨ s.smc.motion = .seating) ∧ s.smc.stop = .none := by
  rw [State.attendanceRequired, Bool.and_eq_true, Motion.moving_iff, decide_eq_true_iff]

theorem State.refreshAttendance_remote {s : State} (h : s.isLocal = false) :
    s.refreshAttendance =
      if s.attendanceRequired = true then { s with smc := { s.smc with attendance := .counting (msTicks s.act.attendance) } } else s := by
  simp only [State.refreshAttendance, h, Bool.not_false, Bool.and_true]
  rfl

/-- The attendance timer after a change of the key or of hold-to-run (R70). -/
theorem State.attendanceSource_eq (s : State) :
    s.attendanceSource =
      { s with
        smc := { s.smc with
          attendance :=
            if s.attendanceRequired = true then
              (if s.line 36 = true ∧ s.line 38 = true then .standing
               else if s.smc.attendance = .standing then .counting (msTicks s.act.attendance) else s.smc.attendance)
            else s.smc.attendance } } := by
  have hlocal : s.isLocal = s.line 36 := rfl
  unfold State.attendanceSource
  split
  · next hreq => rw [if_neg (by simpa using hreq)]
  · next hreq =>
    rw [if_pos (by simpa using hreq)]
    split
    case h_1 h36 h38 => rw [if_pos ⟨h36, h38⟩]; rfl
    case h_2 ha hn => rw [if_neg fun h => hn h.1 h.2, if_pos ha]; rfl
    case h_3 hn ha => rw [if_neg fun h => hn h.1 h.2, if_neg ha]

/-- Settles O20. -/
theorem attendRefreshesTheTimer : Obligations.AttendRefreshesTheTimer := by
  intro s b rest h
  obtain ⟨hoffers, hasks, hconf, hlocal⟩ := (s.operatorAsks_iff b rest _ _).1 h
  obtain ⟨hkind, hpayload⟩ := (b.asks_iff _ _).1 hasks
  have hrow : takeCommand .operator b.frame = .attend .operator := by
    simp [takeCommand, State.not_dropped hoffers (by omega), hkind]
  have hscreen : s.screen .operator b.frame = none :=
    State.screen_operator (r := remoteRow [0]) (by rw [hkind]; rfl) (by simp [hpayload, remoteRow]) hconf (.inl hlocal)
  refine ⟨congrArg Host.Outcome.next ?_, fun u lines lamps l level hl hq => ⟨_, rfl, ?_⟩⟩
  · rw [State.takeRequest_answered _ hoffers hrow hscreen rfl (State.refreshAttendance_stores _) rfl rfl,
      State.refreshAttendance_remote (s := s.popped .operator rest) hlocal]
    have hreq := s.attendanceRequired_iff
    by_cases ha : s.attendanceRequired = true
    · rw [if_pos (show (s.popped .operator rest).attendanceRequired = true from ha), if_pos (hreq.1 ha)]; rfl
    · rw [if_neg (show ¬ (s.popped .operator rest).attendanceRequired = true from ha), if_neg (mt hreq.2 ha)]; rfl
  · obtain ⟨w, hs, hw⟩ := State.sample_qualified lamps (by omega) (by omega) hq
    have hdeliver : w.deliverLine l = w.attendanceSource := by obtain rfl | rfl := hl <;> rfl
    rw [hs, hdeliver, w.attendanceSource_eq]
    refine ⟨hw.rest rfl, by rw [hw.smc], ?_⟩
    simp only [w.attendanceRequired_iff, hw.motion, hw.stop, hw.act, hw.looks.attendance]
    rfl

end Sys2Proof.Machine
end


section
/-! SUPPORT. Leaving HOLDING, and the halts of the locks (R64, R68, R158). -/

namespace Sys2Proof.Machine

/-! ### Leaving HOLDING (R158) -/

theorem State.offChannel_eq {s t : State} (h : t.offChannel = s.offChannel) :
    t = { s with om := t.om, pg := t.pg, pau := t.pau } := by
  have h1 := congrArg Prod.fst h
  simp only [State.offChannel, State.mk.injEq] at h1
  obtain ⟨h1, h2, h3, h4, -, h6, h7, h8, -, -, h11, h12, h13⟩ := h1
  cases t
  simp_all

theorem State.holdingLeft_rest (s : State) :
    s.holdingLeft =
      { s with smc := s.holdingLeft.smc, om := s.holdingLeft.om, pg := s.holdingLeft.pg, pau := s.holdingLeft.pau } := by
  have hoff := s.holdingLeft_offChannel
  rw [State.offChannel_smc hoff]
  exact State.offChannel_eq hoff

theorem CalledBack.of_channelReads {s t u : State} {test : Passage → Bool} (h : CalledBack s t test)
    (hu : u.channelReads = t.channelReads) : CalledBack s u test := by
  simpa only [CalledBack, State.channelReads_opening hu, State.channelReads_queue hu, State.channelReads_slots hu] using h

theorem State.holdingLeft_stays {s : State} (h : s.pau.opening.state ≠ .admitting) : s.holdingLeft = s := if_neg h

/-- ADMITTING falls back to GATHERED with every ADMITTED member called back, and both aspects are decided (R158). -/
theorem State.holdingLeft_calls {s : State} (h : s.pau.opening.state = .admitting) :
    CalledBack { s with pau := { s.pau with opening := { s.pau.opening with state := .gathered } } } s.holdingLeft
        (fun _ => true) ∧ s.holdingLeft.aspectsDecided := by
  have hleft : s.holdingLeft =
      ((s.onOpening fun o => { o with state := .gathered }).callBack fun _ => true).decideAspects := if_pos h
  rw [hleft]
  refine ⟨?_, State.decideAspects_decided _⟩
  obtain ⟨u, -, hcalled, hcall⟩ := (s.onOpening fun o => { o with state := .gathered }).callBack_calledBack fun _ => true
  refine CalledBack.of_channelReads ?_ (State.decideAspects_channelReads _)
  obtain hc | ⟨hc, -⟩ := hcall
  · rw [hc]; exact hcalled
  · cases hc

/-! ### The locks at a halt (R64, R68) -/

theorem State.setCmd_off_two (s : State) (f g x : Fin 40) :
    ((s.setCmd f false).setCmd g false).cmd x = if x = f ∨ x = g then false else s.cmd x := by
  rw [State.cmd_setCmd, State.cmd_setCmd]
  by_cases hf : f = x
  · simp [hf]
  · by_cases hg : g = x
    · simp [hg]
    · rw [if_neg hg, if_neg hf, if_neg fun h => h.elim (hf ·.symm) (hg ·.symm)]

theorem State.haltUnlocking_cmd (s : State) (f : Fin 40) :
    s.haltUnlocking.cmd f = if f = 9 ∨ f = 11 then false else s.cmd f := by
  have hcmd : s.haltUnlocking.cmd f = ((s.setCmd 9 false).setCmd 11 false).cmd f := by
    unfold State.haltUnlocking
    simp only []
    split <;> rfl
  rw [hcmd, State.setCmd_off_two]

theorem State.haltUnlocking_rest (s : State) :
    s.haltUnlocking = { s with smc := s.haltUnlocking.smc, om := s.haltUnlocking.om } := by
  unfold State.haltUnlocking
  simp only []
  split <;> rfl

theorem State.haltLocking_cmd (s : State) (f : Fin 40) :
    s.haltLocking.cmd f = if f = 8 ∨ f = 10 then false else s.cmd f := s.setCmd_off_two 8 10 f

/-- A halt changes nothing in the states in which nothing moves, and during a stop that a halt does not change (R72). -/
theorem State.halt_stays {s : State}
    (h : s.smc.motion = .initial ∨ s.smc.motion = .seatedLocked ∨ s.smc.motion = .seated ∨ s.smc.motion = .halted ∨
      s.smc.motion = .tripped) : s.halt = s := by
  obtain h | h | h | h | h := h <;> simp only [State.halt, h]

end Sys2Proof.Machine
end

section
/-! HALT SPAN and the attendance expiry (R64, R68, R71, R72, R81). -/

namespace Sys2Proof.Machine

/-- HALT SPAN halts the state that its frame has left, and answers OK (R72, R81). -/
theorem execHaltSpan_eq {s : State} {b : Buffered} {rest : List Buffered} (h : s.offers .operator b rest = true)
    (hc : s.configured = true) (ha : b.asks 0x2A [] = true) :
    exec (.haltSpan .operator) s =
      .next ((s.popped .operator rest).halt.withPorts (s.answered .operator b rest 0 []).sp) := by
  obtain ⟨hkind, hpayload⟩ := (b.asks_iff _ _).1 ha
  have hrow : takeCommand .operator b.frame = .haltSpan .operator := by
    simp [takeCommand, State.not_dropped h (by omega), hkind]
  have hscreen : s.screen .operator b.frame = none :=
    State.screen_operator (r := operatorRow [0]) (by rw [hkind]; rfl) (by simp [hpayload, operatorRow]) hc (.inr rfl)
  exact congrArg Host.Outcome.next
    (State.takeRequest_answered (fun _ s => (.plain .ok, s.halt)) h hrow hscreen rfl (State.halt_stores (s.popped .operator rest)) rfl rfl)

/-- A halt that the span takes in motion is HaltTaken, and reaches OM, SMC and MFS alone. -/
theorem State.halt_taken {s : State} (hm : s.smc.motion = .raising ∨ s.smc.motion = .lowering ∨ s.smc.motion = .seating)
    (hs : s.smc.stop = .none ∨ s.smc.stop = .arrival) :
    HaltTaken s s.halt ∧ s.halt = { s with smc := s.halt.smc, om := s.halt.om, mfs := s.halt.mfs } := by
  have hmoves := s.halt_moving ((Motion.moving_iff _).2 hm)
  rw [if_pos hs] at hmoves
  refine ⟨hmoves, State.offDrive_eq (s.halt_offDrive fun e => ?_)⟩
  simp [e] at hm

/-- Settles O21: the halt of each motion state, taken in the state that the request's frame has left. -/
theorem controlledHaltByState : Obligations.ControlledHaltByState := by
  refine ⟨fun s b rest hoffers hconf hasks => ?_, fun u r hm hs ha => ⟨_, rfl, ?_⟩⟩
  · have hexec := execHaltSpan_eq hoffers hconf hasks
    have answers : (s.popped .operator rest).halt = s.popped .operator rest →
        exec (.haltSpan .operator) s = .next (s.answered .operator b rest 0 []) := fun h => by rw [hexec, h]; rfl
    have as (m : Motion) (hm : s.smc.motion = m) : (s.popped .operator rest).smc.motion = m := hm
    refine ⟨fun hm hs => ⟨_, hexec, ?_⟩, fun hm hs => answers ?_, fun hm => ⟨_, hexec, ?_⟩, fun hm => ⟨_, hexec, ?_⟩,
      fun hm => ⟨_, hexec, ?_⟩, fun hm => answers (State.halt_stays hm)⟩
    · obtain ⟨htaken, hrest⟩ := State.halt_taken (s := s.popped .operator rest) hm hs
      exact ⟨htaken, congrArg (fun u => State.withPorts u _) hrest⟩
    · have hmoves := (s.popped .operator rest).halt_moving ((Motion.moving_iff _).2 hm)
      rwa [if_neg (by rw [show (s.popped .operator rest).smc.stop = s.smc.stop from rfl]; obtain h | h := hs <;> simp [h])] at hmoves
    · have hhalt : (s.popped .operator rest).halt = (s.popped .operator rest).enterHalted.holdingLeft := by
        simp only [State.halt, as _ hm]
      have hoff := (s.popped .operator rest).enterHalted.holdingLeft_offChannel
      rw [hhalt]
      refine ⟨State.offChannel_smc hoff, ?_, fun hn => ?_, fun ho => ?_⟩
      · exact congrArg (fun u => State.withPorts u _) (State.holdingLeft_rest _)
      · rw [State.holdingLeft_stays (by exact hn)]; rfl
      · exact (State.holdingLeft_calls (s := (s.popped .operator rest).enterHalted) ho).1.of_pau rfl rfl
    · have hhalt : (s.popped .operator rest).halt = (s.popped .operator rest).haltUnlocking := by
        simp only [State.halt, as _ hm]
      rw [hhalt]
      obtain ⟨hmotion, -, htimer, -⟩ := (s.popped .operator rest).haltUnlocking_spec
      exact ⟨hmotion, htimer, State.haltUnlocking_cmd _, congrArg (fun u => State.withPorts u _) (State.haltUnlocking_rest _)⟩
    · have hhalt : (s.popped .operator rest).halt = (s.popped .operator rest).haltLocking := by
        simp only [State.halt, as _ hm]
      rw [hhalt]
      exact ⟨rfl, State.haltLocking_cmd _, rfl⟩
  · have hhalt : u.attendanceExpiry = u.halt := by simp only [State.attendanceExpiry, ha]
    rw [hhalt]
    exact State.halt_taken hm (.inl hs)

end Sys2Proof.Machine
end


section
/-! SUPPORT. The trips of the locks, the seats and the proving comparisons, beyond those of the condition faults (R75, R76, R79). -/

namespace Sys2Proof.Machine

/-! ### What a trip clears besides (R75) -/

theorem State.trip_timers {s : State} (h : s.smc.motion ≠ .tripped) :
    s.trip.smc.stop = .none ∧ s.trip.smc.lockTimer = none ∧ s.trip.smc.seatTimer = none := by
  have looks := (if s.smc.motion = .holding then s.tripBase.holdingLeft else s.tripBase).compare_looks.smc
  have hsmc : (if s.smc.motion = .holding then s.tripBase.holdingLeft else s.tripBase).smc = s.tripBase.smc := by
    split
    · exact State.offChannel_smc s.tripBase.holdingLeft_offChannel
    · rfl
  rw [← State.trip_eq h, hsmc] at looks
  rw [looks]
  exact ⟨rfl, rfl, rfl⟩

/-- The faults that trip in every motion state (R75, R77 to R79). -/
theorem tripsIn_of_val {f : Fin 37} (hf : f.val < 3 ∨ 5 < f.val ∧ f.val ≤ 11) (m : Motion) : tripsIn f m = true := by
  rw [tripsIn, if_neg (by simp; omega), isTripFault]
  simp; omega

theorem State.reported_cmd (s : State) (f : Fin 37) (b : Bool) (g : Fin 40) (hg : g ≠ 39) : (s.reported f b).cmd g = s.cmd g := by
  unfold State.reported
  split
  · rw [State.reportFault_cmd, if_neg hg]
  · rfl

theorem State.reported_smc (s : State) (f : Fin 37) (b : Bool) : (s.reported f b).smc = s.smc :=
  (congrArg State.smc (s.reported_rest f b) :)

/-- A report that changes a fault has the alarm follow the faults (R200). -/
theorem State.reported_alarmed {s : State} {f : Fin 37} {b : Bool} (h : s.faultChanges f b = true)
    (hc : (s.fault f).report b ≠ .clear) : (s.reported f b).cmd 39 = true := by
  have halarm : (s.reported f b).cmd 39 = (s.reported f b).mfs.alarm := by
    rw [State.reported, if_pos h, State.reportFault_cmd, if_pos rfl]
  rw [halarm]
  exact State.mfs_alarm_of_fault (f := f) (by rwa [State.reported_fault, if_pos rfl])

/-! ### A trip from a report that enters (R76) -/

/-- The state in which a trip that follows the report of `f` is taken. -/
theorem State.reported_enters {s : State} {f : Fin 37} (hf : f.val ≤ 11) (he : s.fault f ≠ .active) :
    (s.reported f true).fault f = .active ∧
      (s.reported f true).mfs.firstTrip = (if s.mfs.firstTrip = none then some f else s.mfs.firstTrip) ∧
      (s.reported f true).cmd 39 = true := by
  have henters : s.faultEnters f true = true := by simp [State.faultEnters, he]
  refine ⟨by rw [State.reported_fault, if_pos rfl]; rfl, ?_, State.reported_alarmed (by simp [State.faultChanges, henters]) (by simp [FaultValue.report])⟩
  have htrip : isTripFault f = true := by simpa [isTripFault] using hf
  rw [State.reported_firstTrip, henters, htrip]
  simp

theorem State.tripReport_enters {s : State} {f : Fin 37} (hf : f.val < 3 ∨ 5 < f.val ∧ f.val ≤ 11) (he : s.fault f ≠ .active) :
    s.tripReport f true = (s.reported f true).trip := by
  rw [State.tripReport_cases, if_pos ⟨by simp [State.faultEnters, he], tripsIn_of_val hf _⟩]

theorem State.tripReport_false (s : State) (f : Fin 37) : s.tripReport f false = s.reported f false := by
  rw [State.tripReport_cases, if_neg (by simp [State.faultEnters])]

/-- From `s` to `t` the fault `f` was reported present, tripped the span, and was reported absent (R79). -/
structure Pulsed (f : Fin 37) (s t : State) : Prop where
  fault : t.fault f = .latched
  motion : t.smc.motion = .tripped
  stop : t.smc.stop = .none
  target : t.smc.target = none
  off : t.spanIsOff
  phase : ∀ w, (t.tower w).phase = .atRest
  lockTimer : t.smc.lockTimer = none
  seatTimer : t.smc.seatTimer = none
  firstTrip : t.mfs.firstTrip = if s.mfs.firstTrip = none then some f else s.mfs.firstTrip
  alarm : t.cmd 39 = true
  rest : t.offLive = s.offLive

theorem State.pulseFault_pulsed {s : State} {f : Fin 37} (hf : f = 10 ∨ f = 11) (hm : s.smc.motion ≠ .tripped)
    (he : s.fault f ≠ .active) : Pulsed f s (s.pulseFault f) := by
  have hval : 5 < f.val ∧ f.val ≤ 11 := by obtain rfl | rfl := hf <;> decide
  obtain ⟨hactive, hfirst, -⟩ := State.reported_enters hval.2 he
  have hsmc := s.reported_smc f true
  have hpulse : s.pulseFault f = (s.reported f true).trip.reported f false := by
    rw [State.pulseFault, State.tripReport_false, State.tripReport_enters (.inr hval) he]
  have hlive := s.reported_offLive f true
  generalize s.reported f true = v at hactive hfirst hsmc hpulse hlive
  have hv : v.smc.motion ≠ .tripped := by rwa [hsmc]
  have tripped := State.trip_tripped hv
  obtain ⟨hstop, hlock, hseat⟩ := State.trip_timers hv
  have hfault : v.trip.fault f = .active := (tripped.fault f (.inr (by omega))).trans hactive
  have hsmc' := v.trip.reported_smc f false
  have hrest := v.trip.reported_rest f false
  rw [hpulse]
  refine ⟨?_, by rw [hsmc', tripped.motion], by rw [hsmc', hstop], by rw [hsmc', tripped.target], ⟨fun g hg h3 h7 => ?_, fun w => ?_⟩,
    fun w => ?_, by rw [hsmc', hlock], by rw [hsmc', hseat], ?_, State.reported_alarmed ?_ ?_, ?_⟩
  · rw [State.reported_fault, if_pos rfl, hfault]; rfl
  · rw [State.reported_cmd _ _ _ _ (by rintro rfl; simp at hg)]
    exact tripped.off.1 g hg h3 h7
  · rw [show (v.trip.reported f false).om.speed = v.trip.om.speed from congrArg (·.om.speed) hrest]
    exact tripped.off.2 w
  · rw [State.tower, hsmc']
    exact tripped.phase w
  · rw [State.reported_firstTrip, State.faultEnters, Bool.false_and, Bool.false_and, Bool.false_and, if_neg (by simp),
      tripped.firstTrip, hfirst]
  · simp [State.faultChanges, State.faultLatches, hfault]
  · rw [hfault]; simp [FaultValue.report]
  · exact ((v.trip.reported_offLive f false).trans (congrArg State.offLive tripped.rest :)).trans hlive

end Sys2Proof.Machine
end

section
/-! The lock travel timer, the seat timer and a withdrawn proving lost in motion (R57, R75, R79). -/

namespace Sys2Proof.Machine

/-- Whether a withdrawn proving that is lost trips (R79). -/
def State.lostTrips (s : State) : Prop :=
  s.smc.motion ∈ [Motion.raising, .holding, .lowering, .seating] ∨ ∃ f ∈ ([0, 1, 2, 4, 5, 6] : List (Fin 40)), s.cmd f = true

theorem State.driveCommanded_iff (s : State) :
    s.driveCommanded = true ↔ ∃ f ∈ ([0, 1, 2, 4, 5, 6] : List (Fin 40)), s.cmd f = true := List.any_eq_true

theorem State.withdrawnLost_trips {s : State} (h : s.lostTrips) : s.withdrawnLost = s.pulseFault 10 := by
  refine if_pos ?_
  obtain h | h := h
  · simp only [List.mem_cons, List.not_mem_nil, or_false] at h
    obtain h | h | h | h := h <;> simp [h]
  · simp [s.driveCommanded_iff.2 h]

theorem State.withdrawnLost_stays {s : State} (h : ¬ s.lostTrips) : s.withdrawnLost = s := by
  refine if_neg fun hc => h ?_
  simp only [Bool.or_eq_true, decide_eq_true_iff, s.driveCommanded_iff, or_assoc] at hc
  obtain hc | hc | hc | hc | hc := hc
  · exact .inr hc
  all_goals exact .inl (by simp [hc])

/-- The event of a withdrawn proving that is lost (R79). -/
theorem State.sample_withdrawnLost {s : State} {lines : BitVec 48} {l : Fin 48} (lamps : BitVec 15) (hl : l = 11 ∨ l = 13)
    (h : s.qualifies lines l false) :
    ∃ w : State, s.sample lines lamps = w.withdrawnLost ∧ Qualified s l false w ∧ (w.lostTrips ↔ s.lostTrips) := by
  obtain ⟨w, hs, hw⟩ := State.sample_qualified lamps (by omega) (by omega) h
  have hdeliver : w.deliverLine l = w.withdrawnLost := by
    rw [State.deliverLine_eq, hw.line]
    obtain rfl | rfl := hl <;> rfl
  refine ⟨w, hs.trans hdeliver, hw, ?_⟩
  simp only [State.lostTrips, hw.motion, List.mem_cons, List.not_mem_nil, or_false, exists_eq_or_imp, exists_eq_left,
    hw.cmd 0 (by decide), hw.cmd 1 (by decide), hw.cmd 2 (by decide), hw.cmd 4 (by decide), hw.cmd 5 (by decide),
    hw.cmd 6 (by decide)]

/-- The command `c` pulses the fault `f` in `w`, which is `s` but for what a line's instant writes. -/
structure PulsesIn (c : Instr) (f : Fin 37) (s w : State) : Prop where
  exec : exec c s = .next (w.pulseFault f)
  motion : w.smc.motion = s.smc.motion
  fault : w.fault f = s.fault f
  firstTrip : w.mfs.firstTrip = s.mfs.firstTrip
  rest : w.offLive = ({ s with iq := w.iq } : State).offLive
  iq : (∀ lines lamps, c ≠ .samplingInstant lines lamps) → w.iq = s.iq

/-- Each of the three events pulses its fault. -/
theorem pulsesIn_of_event {s : State} {c : Instr} {f : Fin 37}
    (h : (c = .lockTravelTimeout ∧ f = 10 ∧ s.smc.lockTimer.isSome = true) ∨
      (c = .seatTimeout ∧ f = 11 ∧ s.smc.seatTimer.isSome = true) ∨
      (f = 10 ∧ (∃ lines lamps l, c = .samplingInstant lines lamps ∧ (l = 11 ∨ l = 13) ∧ s.qualifies lines l false) ∧
        s.lostTrips)) : ∃ w, PulsesIn c f s w := by
  obtain ⟨rfl, rfl, ht⟩ | ⟨rfl, rfl, ht⟩ | ⟨rfl, ⟨lines, lamps, l, rfl, hl, hq⟩, htrips⟩ := h
  · exact ⟨s, congrArg Host.Outcome.next (if_pos ht), rfl, rfl, rfl, rfl, fun _ => rfl⟩
  · exact ⟨s, congrArg Host.Outcome.next (if_pos ht), rfl, rfl, rfl, rfl, fun _ => rfl⟩
  · obtain ⟨w, hs, hw, hlost⟩ := State.sample_withdrawnLost lamps hl hq
    exact ⟨w, congrArg Host.Outcome.next (hs.trans (State.withdrawnLost_trips (hlost.2 htrips))), hw.motion,
      hw.looks.fault 10 (by decide), congrArg (·.mfs.firstTrip) hw.looks.rest, (congrArg State.offLive hw.looks.rest :),
      fun hn => absurd rfl (hn lines lamps)⟩

/-- Settles O43: each of the three events is the pulse of its fault, which trips. -/
theorem lockAndSeatTimeoutsTrip : Obligations.LockAndSeatTimeoutsTrip := by
  refine ⟨fun s lines lamps l hl hq hn => ⟨_, rfl, ?_⟩, fun s c f hm he hc => ?_⟩
  · obtain ⟨w, hs, hw, hlost⟩ := State.sample_withdrawnLost lamps hl hq
    rw [hs, State.withdrawnLost_stays (mt hlost.1 hn)]
    exact ⟨hw.rest rfl, hw.smc, hw.looks.fault 10 (by decide)⟩
  · have hf : f = 10 ∨ f = 11 := by
      obtain ⟨-, h, -⟩ | ⟨-, h, -⟩ | ⟨h, -⟩ := hc
      · exact .inl h
      · exact .inr h
      · exact .inl h
    obtain ⟨w, hexec, hmotion, hfault, hfirst, hrest, hiq⟩ := pulsesIn_of_event hc
    have pulsed := State.pulseFault_pulsed hf (hmotion ▸ hm) (hfault ▸ he)
    refine ⟨_, hexec, pulsed.fault, pulsed.motion, pulsed.stop, pulsed.target, pulsed.off, pulsed.phase, pulsed.lockTimer,
      pulsed.seatTimer, by rw [pulsed.firstTrip, hfirst], pulsed.alarm, ?_, fun hn => ?_⟩
    · have hlive := pulsed.rest.trans hrest
      have hsame : (w.pulseFault f).iq = w.iq := (congrArg State.iq hlive :)
      rw [← hsame] at hlive
      exact State.offLive_eq hlive
    · exact (congrArg State.iq pulsed.rest :).trans (hiq hn)

end Sys2Proof.Machine
end


section
/-! SUPPORT. What SMC finds when it looks at its comparisons (R77). -/

namespace Sys2Proof.Machine

/-! ### One comparison -/

theorem Comparison.look_eq (c : Comparison) (d : Bool) (tp : Ticks) :
    c.look d tp = if (!d) = true then .agrees else if c = .agrees then .disagrees tp else c := by
  cases c <;> cases d <;> rfl

theorem Comparison.look_look (c : Comparison) (d : Bool) (tp tp' : Ticks) : (c.look d tp).look d tp' = c.look d tp := by
  cases c <;> cases d <;> rfl

theorem Comparison.look_agrees_iff (c : Comparison) (d : Bool) (tp : Ticks) : c.look d tp = .agrees ↔ d = false := by
  cases c <;> cases d <;> simp [Comparison.look]

theorem FaultValue.report_false_twice (v : FaultValue) : (v.report false).report false = v.report false := by
  cases v <;> rfl

/-- A comparison's line against its command, as the latch modifies it (R77). -/
theorem State.differs_eq (s : State) (w : Tower) (k : Fin 3) :
    (!s.differs w k) = (s.line (towerLine w ⟨k.val + 2, by omega⟩) == (s.cmd (towerFn w ⟨k.val, by omega⟩) && !s.om.latch)) := by
  simp [State.differs, bne]

/-! ### One tower's comparisons -/

/-- What a look at a tower's comparisons makes of them and of its two faults. -/
structure Compared (w : Tower) (s t : State) : Prop where
  raise : (t.tower w).raiseCmp = (s.tower w).raiseCmp.look (t.differs w 0) (msTicks t.act.tprove)
  lower : (t.tower w).lowerCmp = (s.tower w).lowerCmp.look (t.differs w 1) (msTicks t.act.tprove)
  brake : (t.tower w).brakeCmp = (s.tower w).brakeCmp.look (t.differs w 2) (msTicks t.act.tprove)
  output : t.fault (outputProveFault w) =
    if (!t.differs w 0 && !t.differs w 1) = true then (s.fault (outputProveFault w)).report false else s.fault (outputProveFault w)
  release : t.fault (brakeProveFault w) =
    if (!t.differs w 2) = true then (s.fault (brakeProveFault w)).report false else s.fault (brakeProveFault w)

theorem comparedFrom_iff (s t : State) : ComparedFrom s t ↔ ∀ w, Compared w s t := by
  refine forall_congr' fun w => ?_
  have hfaults : (match w with | .a => (6 : Fin 37) | .b => 7) = outputProveFault w ∧
      (match w with | .a => (8 : Fin 37) | .b => 9) = brakeProveFault w := by cases w <;> exact ⟨rfl, rfl⟩
  have hticks : msTicks t.act.tprove = 2880 * t.act.tprove.toNat := rfl
  have h0 := t.differs_eq w 0
  have h1 := t.differs_eq w 1
  have h2 := t.differs_eq w 2
  constructor
  · rintro ⟨hr, hl, hb, ho, hf⟩
    refine ⟨?_, ?_, ?_, ?_, ?_⟩
    · rw [Comparison.look_eq, h0]; exact hr
    · rw [Comparison.look_eq, h1]; exact hl
    · rw [Comparison.look_eq, h2]; exact hb
    · rw [h0, h1, ← hfaults.1]; exact ho
    · rw [h2, ← hfaults.2]; exact hf
  · rintro ⟨hr, hl, hb, ho, hf⟩
    rw [Comparison.look_eq, h0] at hr
    rw [Comparison.look_eq, h1] at hl
    rw [Comparison.look_eq, h2] at hb
    rw [h0, h1, ← hfaults.1] at ho
    rw [h2, ← hfaults.2] at hf
    exact ⟨hr, hl, hb, ho, hf⟩

namespace LooksAgain

variable {s t : State} (h : LooksAgain s t)
include h

theorem line (l : Fin 48) : t.line l = s.line l := by rw [State.line, State.line, h.rest]

theorem act : t.act = s.act := by rw [State.act, State.act, h.rest]

theorem latch : t.om.latch = s.om.latch := by rw [h.rest]

theorem differs (w : Tower) (k : Fin 3) : t.differs w k = s.differs w k := by
  have hfn : towerFn w ⟨k.val, by omega⟩ ≠ 39 := by
    have : ∀ (w : Tower) (f : Fin 4), towerFn w f ≠ 39 := fun w f => by cases w <;> revert f <;> decide
    exact this w _
  rw [State.differs, State.differs, h.line, h.latch, h.cmd _ hfn]

end LooksAgain

/-- Looking once more changes nothing of what a look has found. -/
theorem Compared.again {w : Tower} {s t u : State} (h : Compared w s t) (k : Compared w t u) (look : LooksAgain t u) :
    Compared w s u := by
  obtain ⟨hr, hl, hb, ho, hf⟩ := h
  simp only [← look.differs, ← look.act] at hr hl hb ho hf
  refine ⟨?_, ?_, ?_, ?_, ?_⟩
  · rw [k.raise, hr, Comparison.look_look]
  · rw [k.lower, hl, Comparison.look_look]
  · rw [k.brake, hb, Comparison.look_look]
  · rw [k.output, ho]; split
    · exact FaultValue.report_false_twice _
    · rfl
  · rw [k.release, hf]; split
    · exact FaultValue.report_false_twice _
    · rfl

/-- What the look finds depends on the comparisons and the faults alone. -/
theorem Compared.of_eq {w : Tower} {s s' t : State} (h : Compared w s' t) (hr : (s'.tower w).raiseCmp = (s.tower w).raiseCmp)
    (hl : (s'.tower w).lowerCmp = (s.tower w).lowerCmp) (hb : (s'.tower w).brakeCmp = (s.tower w).brakeCmp)
    (hf : s'.fault = s.fault) : Compared w s t := by
  obtain ⟨h1, h2, h3, h4, h5⟩ := h
  rw [hr] at h1
  rw [hl] at h2
  rw [hb] at h3
  rw [hf] at h4 h5
  exact ⟨h1, h2, h3, h4, h5⟩

/-! ### The look itself -/

theorem State.reportAgreed_fault (s : State) (f : Fin 37) (agreed : Bool) (g : Fin 37) :
    (s.reportAgreed f agreed).fault g = if f = g ∧ agreed = true then (s.fault g).report false else s.fault g := by
  have hreported : s.reportAgreed f agreed = if agreed = true then s.reported f false else s := by
    cases agreed <;> simp [State.reportAgreed, State.reported, State.faultChanges, State.faultEnters]
  rw [hreported]
  cases agreed
  · simp
  · rw [if_pos rfl, State.reported_fault]
    by_cases hg : f = g
    · rw [if_pos hg, if_pos ⟨hg, rfl⟩, hg]
    · rw [if_neg hg, if_neg fun h => hg h.1]

theorem State.reportAgreed_tower (s : State) (f : Fin 37) (agreed : Bool) (w : Tower) :
    (s.reportAgreed f agreed).tower w = s.tower w := by
  unfold State.reportAgreed
  split <;> rfl

theorem State.setTower_same (s : State) (w : Tower) (r : TowerRec) : (s.setTower w r).tower w = r := by
  simp [State.tower]

theorem State.setTower_other (s : State) {w v : Tower} (r : TowerRec) (h : w ≠ v) : (s.setTower w r).tower v = s.tower v := by
  simp [State.tower, h]

/-- A tower's comparisons after its own look. -/
theorem State.compareTower_compared {s : State} (hq : s.isQualified = true) (w : Tower) : Compared w s (s.compareTower w) := by
  have look := s.compareTower_looks w
  have hne : outputProveFault w ≠ brakeProveFault w := by cases w <;> decide
  have agreed (d : Bool) (c : Comparison) (tp : Ticks) : decide (c.look d tp = .agrees) = !d := by
    rw [decide_eq_decide.2 (c.look_agrees_iff d tp)]; cases d <;> rfl
  have heq : s.compareTower w =
      ((s.setTower w { s.tower w with
          raiseCmp := (s.tower w).raiseCmp.look (s.differs w 0) (msTicks s.act.tprove)
          lowerCmp := (s.tower w).lowerCmp.look (s.differs w 1) (msTicks s.act.tprove)
          brakeCmp := (s.tower w).brakeCmp.look (s.differs w 2) (msTicks s.act.tprove) }).reportAgreed (outputProveFault w)
        (!s.differs w 0 && !s.differs w 1)).reportAgreed (brakeProveFault w) (!s.differs w 2) := by
    simp only [State.compareTower, hq, Bool.not_true, Bool.false_eq_true, if_false, agreed]
  refine ⟨?_, ?_, ?_, ?_, ?_⟩ <;> simp only [look.differs, look.act]
  · rw [heq, State.reportAgreed_tower, State.reportAgreed_tower, State.setTower_same]
  · rw [heq, State.reportAgreed_tower, State.reportAgreed_tower, State.setTower_same]
  · rw [heq, State.reportAgreed_tower, State.reportAgreed_tower, State.setTower_same]
  · rw [heq, State.reportAgreed_fault, if_neg fun h => hne h.1.symm, State.reportAgreed_fault]
    simp only [true_and]
    rfl
  · rw [heq, State.reportAgreed_fault, State.reportAgreed_fault, if_neg (c := outputProveFault w = _ ∧ _) fun h => hne h.1]
    simp only [true_and]
    rfl

/-- A tower's look leaves the other tower's comparisons and its faults. -/
theorem State.compareTower_other (s : State) {w v : Tower} (h : w ≠ v) :
    (s.compareTower w).tower v = s.tower v ∧ (s.compareTower w).fault (outputProveFault v) = s.fault (outputProveFault v) ∧
      (s.compareTower w).fault (brakeProveFault v) = s.fault (brakeProveFault v) := by
  have hf : outputProveFault w ≠ outputProveFault v ∧ outputProveFault w ≠ brakeProveFault v ∧
      brakeProveFault w ≠ outputProveFault v ∧ brakeProveFault w ≠ brakeProveFault v := by
    revert h
    cases w <;> cases v <;> decide
  unfold State.compareTower
  split
  · exact ⟨rfl, rfl, rfl⟩
  · simp only [State.reportAgreed_fault, State.reportAgreed_tower, hf.1, hf.2.1, hf.2.2.1, hf.2.2.2, false_and, if_false]
    exact ⟨State.setTower_other _ _ h, rfl, rfl⟩

theorem State.compare_compared {s : State} (hq : s.isQualified = true) (w : Tower) : Compared w s s.compare := by
  cases w with
  | a =>
    have h := s.compareTower_compared hq .a
    obtain ⟨ht, ho, hb⟩ := (s.compareTower .a).compareTower_other (w := .b) (v := .a) (by decide)
    have look := (s.compareTower .a).compareTower_looks .b
    refine ⟨?_, ?_, ?_, ?_, ?_⟩
    all_goals simp only [State.compare, look.differs, look.act, ht, ho, hb]
    exacts [h.raise, h.lower, h.brake, h.output, h.release]
  | b =>
    have hqa : (s.compareTower .a).isQualified = true := by
      rw [State.stores_isQualified (State.compareTower_stores s .a)]; exact hq
    have h := State.compareTower_compared hqa .b
    obtain ⟨ht, ho, hb⟩ := s.compareTower_other (w := .a) (v := .b) (by decide)
    rw [State.compare]
    obtain ⟨h1, h2, h3, h4, h5⟩ := h
    rw [ht] at h1 h2 h3
    rw [ho] at h4
    rw [hb] at h5
    exact ⟨h1, h2, h3, h4, h5⟩

theorem State.compare_unqualified {s : State} (hq : s.isQualified = false) : s.compare = s := by
  have h : ∀ w, s.compareTower w = s := fun w => by simp [State.compareTower, hq]
  rw [State.compare, h, h]

end Sys2Proof.Machine
end


section
/-! Disagreements of the proving lines and the limit lines (R75 to R78). -/

namespace Sys2Proof.Machine

/-! ### Proving lines and commands that change (R77) -/

/-- The comparisons as a line's event finds them. -/
theorem Qualified.found {s w : State} {l : Fin 48} {b : Bool} (h : Qualified s l b w) (v : Tower) : Compared v s w := by
  have hq : ({ s with iq := w.iq } : State).isQualified = true := h.isQualified
  have found := State.compare_compared hq v
  rw [← h.compared] at found
  exact found.of_eq rfl rfl rfl rfl

theorem State.deliverLine_proving {w : State} {l : Fin 48} (hl : l ∈ ([3, 4, 5, 8, 9, 10] : List (Fin 48))) :
    w.deliverLine l = w.compare := by
  simp only [List.mem_cons, List.not_mem_nil, or_false] at hl
  obtain rfl | rfl | rfl | rfl | rfl | rfl := hl <;> rfl

/-- The end of RELEASING_BRAKE (R59). -/
theorem State.brakeExpiry_releasing {s : State} {w : Tower} (hp : (s.tower w).phase = .releasingBrake)
    (ht : (s.tower w).brakeTimer.isSome = true) :
    s.brakeExpiry w =
      ((s.setCmd (towerFn w 2) true).setTower w { s.tower w with phase := .running, brakeTimer := none }).compare := by
  obtain ⟨r, hr⟩ := Option.isSome_iff_exists.1 ht
  simp only [State.brakeExpiry, hp, hr]

theorem State.brakeExpiry_found {s : State} {w : Tower} (hp : (s.tower w).phase = .releasingBrake)
    (ht : (s.tower w).brakeTimer.isSome = true) (hq : s.isQualified = true) (v : Tower) : Compared v s (s.brakeExpiry w) := by
  rw [State.brakeExpiry_releasing hp ht]
  have found := State.compare_compared
    (s := (s.setCmd (towerFn w 2) true).setTower w { s.tower w with phase := .running, brakeTimer := none }) hq v
  by_cases hv : w = v
  · subst hv
    exact found.of_eq (by rw [State.setTower_same]) (by rw [State.setTower_same]) (by rw [State.setTower_same]) rfl
  · exact found.of_eq (by rw [State.setTower_other _ _ hv]; rfl) (by rw [State.setTower_other _ _ hv]; rfl)
      (by rw [State.setTower_other _ _ hv]; rfl) rfl

/-! ### The limit lines (R78) -/

/-- The event of an ultimate limit line. -/
theorem State.sample_limit {s : State} {lines : BitVec 48} {l : Fin 48} {b : Bool} (lamps : BitVec 15) (hl : l = 2 ∨ l = 7)
    (h : s.qualifies lines l b) :
    ∃ w : State, Qualified s l b w ∧ s.sample lines lamps = w.tripReport 2 (s.smc.heightOver || !w.line 2 || !w.line 7) := by
  obtain ⟨w, hs, hw⟩ := State.sample_qualified lamps (by omega) (by omega) h
  refine ⟨w, hw, hs.trans ?_⟩
  have hover : w.isOvertravel = (s.smc.heightOver || !w.line 2 || !w.line 7) := by
    rw [State.isOvertravel, State.limitReached, hw.isQualified, Bool.true_and, Bool.or_assoc, hw.smc]
  rw [← hover]
  obtain rfl | rfl := hl <;> rfl

/-! ### A disagreement timer's expiry (R77) -/

/-- What a report present, and the look that follows it, make of the state: where the fault was reported and the trip taken, SMC has
looked at its comparisons from a state `x` in which the fault is ACTIVE. -/
theorem State.tripReport_found (s : State) (f : Fin 37) :
    ∃ x : State, x.fault f = .active ∧ x.isQualified = s.isQualified ∧
      (s.isQualified = true → ∀ w, Compared w x (s.tripReport f true).compare) ∧
      (s.isQualified = false → (s.tripReport f true).compare = x) := by
  have active : (s.reported f true).fault f = .active := by rw [State.reported_fault, if_pos rfl]; rfl
  have hqv : (s.reported f true).isQualified = s.isQualified :=
    State.stores_isQualified (congrArg State.stores (s.reported_rest f true) :)
  have hcases := s.tripReport_cases f true
  generalize s.reported f true = v at active hqv hcases
  by_cases ht : (s.faultEnters f true = true ∧ tripsIn f s.smc.motion = true) ∧ v.smc.motion ≠ .tripped
  · rw [if_pos ht.1, State.trip_eq ht.2] at hcases
    obtain ⟨x, hx⟩ : ∃ x, x = if v.smc.motion = .holding then v.tripBase.holdingLeft else v.tripBase := ⟨_, rfl⟩
    have hmfs : x.mfs = v.mfs := by
      rw [hx]
      split
      · exact (State.offChannel_mfs v.tripBase.holdingLeft_offChannel).trans v.tripBase_stops.1.mfs
      · exact v.tripBase_stops.1.mfs
    have hqx : x.isQualified = s.isQualified := by
      have hstores := State.trip_stores v
      rw [State.trip_eq ht.2, ← hx, State.compare_stores] at hstores
      rw [State.stores_isQualified hstores, hqv]
    rw [hcases, ← hx]
    refine ⟨x, by rw [State.fault, hmfs]; exact active, hqx, fun hq w => ?_, fun hq => ?_⟩
    · have hq' : x.compare.isQualified = true := by rw [State.stores_isQualified x.compare_stores, hqx, hq]
      exact (State.compare_compared (hqx.trans hq) w).again (State.compare_compared hq' w) x.compare.compare_looks
    · rw [State.compare_unqualified (hqx.trans hq), State.compare_unqualified (hqx.trans hq)]
  · have hstays : s.tripReport f true = v := by
      rw [hcases]
      split
      · next he => rw [State.trip, if_pos (not_not.1 fun hm => ht ⟨he, hm⟩)]
      · rfl
    rw [hstays]
    exact ⟨v, active, hqv, fun hq => State.compare_compared (hqv.trans hq), fun hq => State.compare_unqualified (hqv.trans hq)⟩

theorem State.tripReport_offLive (s : State) (f : Fin 37) (b : Bool) : (s.tripReport f b).offLive = s.offLive := by
  rw [State.tripReport_cases]
  split
  · rw [← s.reported_offLive f b]
    by_cases hm : (s.reported f b).smc.motion = .tripped
    · rw [State.trip, if_pos hm]
    · exact (congrArg State.offLive (State.trip_tripped hm).rest :)
  · exact s.reported_offLive f b

/-- A report of a fault that is ACTIVE already, or to a span that is tripped already, is a report alone. -/
theorem State.tripReport_stays {s : State} {f : Fin 37} (h : s.fault f = .active ∨ s.smc.motion = .tripped) :
    s.tripReport f true = s.reported f true := by
  rw [State.tripReport_cases]
  split
  · next he =>
    obtain h | h := h
    · simp [State.faultEnters, h] at he
    · rw [State.trip, if_pos (by rw [State.reported_smc, h])]
  · rfl

/-- The state with a comparison marked as failed, and what of it stands. -/
theorem State.disagreementExpiry_eq {s : State} {w : Tower} {k : Proving} {r : Ticks}
    (h : (s.tower w).comparison k = .disagrees r) :
    s.disagreementExpiry w k =
      ((s.setTower w ((s.tower w).setComparison k .failed)).tripReport (proveFault w k) true).compare := by
  simp only [State.disagreementExpiry, h]

theorem TowerRec.setComparison_phase (r : TowerRec) (k : Proving) (c : Comparison) : (r.setComparison k c).phase = r.phase := by
  cases k <;> rfl

/-- The comparisons of a PROVE fault's condition. -/
theorem Compared.proveFault {w : Tower} {x t : State} (h : Compared w x t) (k : Proving) :
    t.fault (proveFault w k) =
      if (if k = .brake then t.differs w 2 = false else t.differs w 0 = false ∧ t.differs w 1 = false) then
        (x.fault (Machine.proveFault w k)).report false
      else x.fault (Machine.proveFault w k) := by
  cases k with
  | brake =>
    have hr := h.release
    simpa [Machine.proveFault] using hr
  | raiseAux =>
    have ho := h.output
    simpa [Machine.proveFault] using ho
  | lowerAux =>
    have ho := h.output
    simpa [Machine.proveFault] using ho

/-- A comparison agrees (R77). -/
theorem State.differs_iff (s : State) (w : Tower) (k : Fin 3) :
    s.differs w k = false ↔
      s.line (towerLine w ⟨k.val + 2, by omega⟩) = (s.cmd (towerFn w ⟨k.val, by omega⟩) && !s.om.latch) := by
  rw [State.differs, bne_eq_false_iff_eq]

/-- The fault of a comparison that has disagreed for too long (R77). -/
theorem State.disagreementExpiry_fault {s : State} {w : Tower} {k : Proving} {r : Ticks}
    (h : (s.tower w).comparison k = .disagrees r) :
    (s.disagreementExpiry w k).fault (proveFault w k) =
      if s.isQualified = true ∧
          (if k = .brake then (s.disagreementExpiry w k).differs w 2 = false
            else (s.disagreementExpiry w k).differs w 0 = false ∧ (s.disagreementExpiry w k).differs w 1 = false) then
        .latched
      else .active := by
  obtain ⟨x, hactive, hqx, hfound, hsame⟩ :=
    (s.setTower w ((s.tower w).setComparison k .failed)).tripReport_found (proveFault w k)
  rw [← State.disagreementExpiry_eq h] at hfound hsame
  cases hq : s.isQualified with
  | true =>
    rw [(hfound hq w).proveFault, hactive]
    simp only [true_and]
    rfl
  | false => rw [hsame hq, hactive, if_neg (by simp)]

/-- The span and its commands after that expiry, where it trips (R75, R76). -/
theorem State.disagreementExpiry_trips {s : State} {w : Tower} {k : Proving} {r : Ticks}
    (h : (s.tower w).comparison k = .disagrees r) (hf : s.fault (proveFault w k) ≠ .active) (hm : s.smc.motion ≠ .tripped) :
    let t := s.disagreementExpiry w k
    t.smc.motion = .tripped ∧ t.spanIsOff ∧ (∀ v, (t.tower v).phase = .atRest) ∧ t.smc.target = none ∧
      t.mfs.firstTrip = if s.mfs.firstTrip = none then some (proveFault w k) else s.mfs.firstTrip := by
  have hval : 5 < (proveFault w k).val ∧ (proveFault w k).val ≤ 11 := by cases w <;> cases k <;> decide
  have heq := State.disagreementExpiry_eq h
  generalize hv : s.setTower w ((s.tower w).setComparison k .failed) = v at heq
  have hfault : v.fault (proveFault w k) ≠ .active := by rw [← hv]; exact hf
  have hmotion : v.smc.motion ≠ .tripped := by rw [← hv]; exact hm
  have hfirst : v.mfs.firstTrip = s.mfs.firstTrip := by rw [← hv]; rfl
  rw [State.tripReport_enters (.inr hval) hfault] at heq
  have tripped := State.trip_tripped (s := v.reported (proveFault w k) true) (by rwa [State.reported_smc])
  have look := (v.reported (proveFault w k) true).trip.compare_looks
  simp only [heq]
  refine ⟨by rw [look.motion, tripped.motion], ⟨fun f hle h3 h7 => ?_, fun u => by rw [look.speed]; exact tripped.off.2 u⟩,
    fun u => by rw [look.phase, tripped.phase], by rw [look.target, tripped.target], ?_⟩
  · rw [look.cmd f (by rintro rfl; simp at hle)]
    exact tripped.off.1 f hle h3 h7
  · rw [show (State.compare _).mfs.firstTrip = _ from congrArg (·.mfs.firstTrip) look.rest, tripped.firstTrip,
      (State.reported_enters hval.2 hfault).2.1, hfirst]

/-- Where it does not trip, it is a report and a look at the comparisons. -/
theorem State.disagreementExpiry_stays {s : State} {w : Tower} {k : Proving} {r : Ticks}
    (h : (s.tower w).comparison k = .disagrees r) (hf : s.fault (proveFault w k) = .active ∨ s.smc.motion = .tripped) :
    let t := s.disagreementExpiry w k
    t.smc = { s.smc with towers := t.smc.towers } ∧ (∀ v, (t.tower v).phase = (s.tower v).phase) ∧ t.pau = s.pau ∧
      ∀ g, g ≠ 39 → t.cmd g = s.cmd g := by
  have heq := State.disagreementExpiry_eq h
  rw [State.tripReport_stays (by exact hf)] at heq
  have look := State.compare_looks ((s.setTower w ((s.tower w).setComparison k .failed)).reported (proveFault w k) true)
  simp only [heq]
  have hrest := (s.setTower w ((s.tower w).setComparison k .failed)).reported_rest (proveFault w k) true
  refine ⟨by rw [look.smc, State.reported_smc]; rfl, fun v => ?_, by rw [look.pau]; exact (congrArg State.pau hrest :),
    fun g hg => by rw [look.cmd g hg, State.reported_cmd _ _ _ _ hg]; rfl⟩
  rw [look.phase, State.tower, State.reported_smc]
  by_cases hv : w = v
  · subst hv
    exact (congrArg TowerRec.phase (State.setTower_same _ _ _)).trans (TowerRec.setComparison_phase _ _ _)
  · exact congrArg TowerRec.phase (State.setTower_other _ _ hv)

/-- Settles O44. -/
theorem disagreementExpiryTrips : Obligations.DisagreementExpiryTrips := by
  refine ⟨fun s lines lamps l level hl hq => ⟨_, rfl, ?_⟩, fun s w hp ht hq => ⟨_, rfl, ?_⟩,
    fun s lines lamps l level hl hq => ⟨_, rfl, ?_⟩, fun s w k r hk => ?_⟩
  · have hval : l.val < 45 ∧ l.val ≠ 35 := by
      have : ∀ l ∈ ([3, 4, 5, 8, 9, 10] : List (Fin 48)), l.val < 45 ∧ l.val ≠ 35 := by decide
      exact this l hl
    obtain ⟨w, hs, hw⟩ := State.sample_qualified lamps hval.1 hval.2 hq
    have look := w.compare_looks
    rw [hs, State.deliverLine_proving hl]
    exact ⟨hw.rest look.offDrive, hw.stands.trans look.stands,
      (comparedFrom_iff _ _).2 fun v => (hw.found v).again (State.compare_compared hw.isQualified v) look,
      fun f hf => (look.cmd f hf).trans (hw.cmd f hf)⟩
  · exact (comparedFrom_iff _ _).2 (State.brakeExpiry_found hp ht hq)
  · obtain ⟨w, hw, hs⟩ := State.sample_limit lamps hl hq
    have hstores : (s.sample lines lamps).line = w.line := by
      rw [hs]; exact funext (State.stores_line (State.tripReport_stores _ _ _))
    have hfault : w.fault 2 = s.fault 2 := hw.looks.fault 2 (by decide)
    have hfirst : w.mfs.firstTrip = s.mfs.firstTrip := congrArg (·.mfs.firstTrip) hw.looks.rest
    rw [hstores]
    rw [hs]
    generalize (s.smc.heightOver || !w.line 2 || !w.line 7) = present
    have hreport : (w.tripReport 2 present).fault 2 = (s.fault 2).report present := by
      rw [State.tripReport_fault (by decide) _ _ _ (by decide), if_pos rfl, hfault]
    refine ⟨hreport, ?_⟩
    rw [hreport]
    have henters := report_enters (s.fault 2) present
    by_cases he : present = true ∧ s.fault 2 ≠ .active
    · have taken : TripTaken 2 w (w.tripReport 2 present) :=
        State.tripReport_tripTaken (by decide) (by simp [State.faultEnters, he.1, hfault, he.2])
      rw [if_pos (henters.2 he)]
      refine ⟨taken.motion, by rw [taken.firstTrip, hfirst], fun hm => ?_⟩
      obtain ⟨hoff, hphase, htarget, -⟩ := taken.stops (by rwa [hw.motion])
      exact ⟨hoff, hphase, htarget⟩
    · have hnot : w.faultEnters 2 present = false := by
        rw [← Bool.not_eq_true]
        exact fun h => he (by simpa [State.faultEnters, hfault] using h)
      rw [if_neg (mt henters.1 he), State.tripReport_of_not_enters (by decide) hnot]
      have hrest := w.reported_rest 2 present
      exact ⟨hw.stands.trans ⟨by rw [State.reported_smc], fun v => by rw [State.tower, State.reported_smc]; rfl⟩,
        hw.rest (congrArg State.offDrive hrest :)⟩
  · have hcomparison : (s.tower w).comparison k = .disagrees r := by cases k <;> exact hk
    have hlatch : (s.disagreementExpiry w k).om.latch = s.om.latch := State.offSpan_latch (s.disagreementExpiry_offSpan w k)
    have hline := State.stores_line (s.disagreementExpiry_stores w k)
    have hdiffers := (s.disagreementExpiry w k).differs_iff w
    simp only [hlatch, hline] at hdiffers
    intro f
    have hf : f = proveFault w k := by cases k <;> cases w <;> rfl
    rw [hf]
    refine ⟨_, rfl, ?_, ?_, State.disagreementExpiry_trips hcomparison, State.disagreementExpiry_stays hcomparison⟩
    · have hlive : (s.disagreementExpiry w k).offLive = s.offLive := by
        rw [State.disagreementExpiry_eq hcomparison,
          show (State.compare _).offLive = _ from (congrArg State.offLive (State.compare_looks _).rest :)]
        exact State.tripReport_offLive _ _ _
      exact State.offLive_eq hlive
    · have hvalue := State.disagreementExpiry_fault hcomparison
      simp only [hdiffers] at hvalue
      exact hvalue

end Sys2Proof.Machine
end


section
/-! SUPPORT. The end of a stop and the entries to HOLDING and LOCKING (R57, R61, R65, R67, R68, R157). -/

namespace Sys2Proof.Machine

/-! ### LOCKING (R68) -/

/-- The entry to LOCKING: it is passed through at once where both locks are driven-proven. -/
theorem State.enterLocking_eq (s : State) :
    s.enterLocking =
      let u := ((s.onSmc fun m =>
        { m with motion := .locking, stop := .none, out := 0, attendance := .stopped, seatTimer := none,
                 lockTimer := startTimer (secTicks s.act.lockTravel) }).setCmd 8 (!s.line 12)).setCmd 10 (!s.line 14)
      if s.bothDriven = true then
        ((u.setCmd 8 false).setCmd 10 false).onSmc fun m =>
          { m with motion := if s.seatsMade = true then .seatedLocked else .seated, lockTimer := none }
      else u := rfl

theorem State.seatsMade_iff (s : State) : s.seatsMade = true ↔ s.line 1 = true ∧ s.line 6 = true := Bool.and_eq_true_iff

theorem State.bothDriven_iff (s : State) : s.bothDriven = true ↔ s.line 12 = true ∧ s.line 14 = true := Bool.and_eq_true_iff

theorem State.bothWithdrawn_iff (s : State) : s.bothWithdrawn = true ↔ s.line 11 = true ∧ s.line 13 = true :=
  Bool.and_eq_true_iff

theorem State.enterLocking_smc (s : State) :
    s.enterLocking.smc =
      { s.smc with
        stop := .none, out := 0, attendance := .stopped, seatTimer := none
        motion := if s.line 12 = true ∧ s.line 14 = true then
          (if s.line 1 = true ∧ s.line 6 = true then .seatedLocked else .seated) else .locking
        lockTimer := if s.line 12 = true ∧ s.line 14 = true then none else some (2880000 * s.act.lockTravel.toNat) } := by
  rw [State.enterLocking_eq]
  simp only [← s.seatsMade_iff, ← s.bothDriven_iff]
  split <;> rfl

theorem State.enterLocking_rest (s : State) : s.enterLocking = { s with om := s.enterLocking.om, smc := s.enterLocking.smc } := by
  rw [State.enterLocking_eq]
  simp only []
  split <;> rfl

theorem State.enterLocking_cmd (s : State) (f : Fin 40) :
    s.enterLocking.cmd f = if f = 8 then !s.line 12 else if f = 10 then !s.line 14 else s.cmd f := by
  have hlocks : s.enterLocking.cmd f =
      if s.bothDriven = true then ((((s.setCmd 8 (!s.line 12)).setCmd 10 (!s.line 14)).setCmd 8 false).setCmd 10 false).cmd f
      else ((s.setCmd 8 (!s.line 12)).setCmd 10 (!s.line 14)).cmd f := by
    rw [State.enterLocking_eq]
    simp only []
    split <;> rfl
  have hdriven := s.bothDriven_iff
  rw [hlocks]
  by_cases h8 : f = 8
  · subst h8
    split <;> rename_i h
    · simp [(hdriven.1 h).1]
    · simp
  · by_cases h10 : f = 10
    · subst h10
      split <;> rename_i h
      · simp [(hdriven.1 h).2]
      · simp
    · rw [if_neg h8, if_neg h10]
      split <;> simp [Ne.symm h8, Ne.symm h10]

/-! ### HOLDING (R65, R157) -/

theorem State.holdingEntered_stays {s : State} (h : s.pau.opening.state ≠ .gathered) : s.holdingEntered = s := if_neg h

/-- A channel without members closes, and may be finished at once (R157, R171, R173). -/
theorem State.closeIfEmpty_empty {s : State} (ha : s.pau.opening.state = .admitting) (hm : s.pau.opening.members = []) :
    s.closeIfEmpty.pau.opening.state = .closingChannel ∨ s.closeIfEmpty.pau.opening.state = .none := by
  have hmembers : ∀ x, s.membersIn x = [] := fun x => by
    show s.inState s.pau.opening.members x = []
    rw [hm]; rfl
  have hclose : s.closeIfEmpty = (s.onOpening fun o => { o with state := .closingChannel }).settleDirection.finishingTest := by
    have hc : (s.opening.state = .admitting && s.opening.members.isEmpty) = true := by
      simp [State.opening, ha, hm]
    rw [State.closeIfEmpty, if_pos hc, State.enterClosing, hmembers, hmembers]
    rfl
  obtain ⟨u, hu, hsettle⟩ := (s.onOpening fun o => { o with state := .closingChannel }).settleDirection_eq
  have hstate : u.pau.opening.state = .closingChannel := by rw [hu]; rfl
  rw [if_neg (fun h => by cases h.2.2)] at hsettle
  rw [hclose, hsettle, State.finishingTest]
  split
  · exact .inr rfl
  · exact .inl hstate

/-- Members keep the channel open. -/
theorem State.closeIfEmpty_stays {s : State} (hm : s.pau.opening.members ≠ []) : s.closeIfEmpty = s := by
  refine if_neg ?_
  simp [State.opening, hm]

/-- A GATHERED opening at the entry to HOLDING (R157). -/
theorem State.holdingEntered_gathered {s : State} (h : s.pau.opening.state = .gathered) :
    s.holdingEntered.aspectsDecided ∧
      (s.pau.opening.members = [] →
        s.holdingEntered.pau.opening.state = .closingChannel ∨ s.holdingEntered.pau.opening.state = .none) ∧
      (s.pau.opening.members ≠ [] →
        AdmissionTested { s with pau := { s.pau with opening := { s.pau.opening with state := .admitting } } }
          s.holdingEntered) := by
  have henter : s.holdingEntered =
      (((s.onOpening fun o => { o with state := .admitting }).admissionTest).closeIfEmpty).decideAspects := if_pos h
  obtain ⟨-, htested⟩ := (s.onOpening fun o => { o with state := .admitting }).admissionTest_tested
  have hopen := htested.1
  generalize (s.onOpening fun o => { o with state := .admitting }).admissionTest = v at henter htested hopen
  have hreads := v.closeIfEmpty.decideAspects_channelReads
  have hdecided := v.closeIfEmpty.decideAspects_decided
  rw [← henter] at hreads hdecided
  refine ⟨hdecided, fun hm => ?_, fun hm => ?_⟩
  · rw [State.channelReads_opening hreads]
    exact State.closeIfEmpty_empty (by rw [hopen]; rfl) (by rw [hopen]; exact hm)
  · rw [State.closeIfEmpty_stays (by rw [hopen]; exact hm)] at hreads
    have hread : AdmissionTested (s.onOpening fun o => { o with state := .admitting }) s.holdingEntered := by
      simpa only [AdmissionTested, State.channelReads_opening hreads, State.channelReads_queue hreads,
        State.channelReads_slots hreads] using htested
    exact hread

/-! ### The end of a stop (R61) -/

theorem State.checkRest_stays {s : State} (h : ¬ (s.smc.motion.moving = true ∧ s.bothAtRest = true)) : s.checkRest = s :=
  if_neg (mt Bool.and_eq_true_iff.1 h)

section
variable {s : State} (hm : s.smc.motion.moving = true) (hr : s.bothAtRest = true)
include hm hr

theorem State.checkRest_halt (hs : s.smc.stop = .halt ∨ s.smc.stop = .quick) : s.checkRest = s.enterHalted := by
  obtain hs | hs := hs <;> simp only [State.checkRest, hm, hr, hs, Bool.and_self, if_true]

theorem State.checkRest_arrival (hs : s.smc.stop = .arrival) :
    s.checkRest = (s.onSmc fun m => { m with motion := .holding, stop := .none }).holdingEntered := by
  simp only [State.checkRest, hm, hr, hs, Bool.and_self, if_true]

theorem State.checkRest_none (hs : s.smc.stop = .none) : s.checkRest = s.checkSeated := by
  simp only [State.checkRest, hm, hr, hs, Bool.and_self, if_true]

end

theorem State.checkSeated_stays {s : State} (h : ¬ (s.smc.motion = .seating ∧ s.bothSeated = true)) : s.checkSeated = s := by
  refine if_neg ?_
  simpa using h

theorem State.checkSeated_locks {s : State} (hm : s.smc.motion = .seating) (hb : s.bothSeated = true) (hr : s.bothAtRest = true)
    (hs : s.smc.stop = .none) : s.checkSeated = (s.onSmc fun m => { m with seatTimer := none }).enterLocking := by
  have hr' : (s.onSmc fun m => { m with seatTimer := none }).bothAtRest = true := hr
  simp [State.checkSeated, hm, hb, hr', hs]

/-- What the end of a stop leaves: the towers, the drive commands and the duties, and every other block but the channel's. -/
structure RestTested (s t : State) : Prop where
  towers : t.smc.towers = s.smc.towers
  cmd : ∀ f : Fin 40, f.val < 8 → t.cmd f = s.cmd f
  rest : t.offLive = s.offLive

theorem RestTested.refl (s : State) : RestTested s s := ⟨rfl, fun _ _ => rfl, rfl⟩

theorem RestTested.onSmc (s : State) {f : Smc → Smc} (h : (f s.smc).towers = s.smc.towers) : RestTested s (s.onSmc f) :=
  ⟨h, fun _ _ => rfl, rfl⟩

theorem RestTested.trans {s t u : State} (h : RestTested s t) (k : RestTested t u) : RestTested s u :=
  ⟨k.towers.trans h.towers, fun f hf => (k.cmd f hf).trans (h.cmd f hf), k.rest.trans h.rest⟩

theorem State.offChannel_restTested {s t : State} (h : t.offChannel = s.offChannel) : RestTested s t := by
  refine ⟨by rw [State.offChannel_smc h], fun f hf => State.offChannel_cmd h f (by omega), ?_⟩
  rw [State.offChannel_eq h]
  rfl

theorem State.enterLocking_restTested (s : State) : RestTested s s.enterLocking := by
  refine ⟨by rw [s.enterLocking_smc], fun f hf => ?_, by rw [s.enterLocking_rest]; rfl⟩
  have h8 : f ≠ 8 := by rintro rfl; simp at hf
  have h10 : f ≠ 10 := by rintro rfl; simp at hf
  rw [s.enterLocking_cmd, if_neg h8, if_neg h10]

theorem State.checkSeated_restTested (s : State) : RestTested s s.checkSeated := by
  unfold State.checkSeated
  simp only []
  split
  · split
    · exact (RestTested.onSmc s rfl).trans (State.enterLocking_restTested _)
    · exact .onSmc s rfl
  · exact .refl s

theorem State.checkRest_restTested (s : State) : RestTested s s.checkRest := by
  unfold State.checkRest
  split
  · split
    · exact (RestTested.onSmc s rfl).trans (State.offChannel_restTested (State.holdingEntered_offChannel _))
    · exact .onSmc s rfl
    · exact .onSmc s rfl
    · exact s.checkSeated_restTested
  · exact .refl s

end Sys2Proof.Machine
end


section
/-! The brake timers and the reversal intervals (R59 to R61, R65, R67, R157). -/

namespace Sys2Proof.Machine

/-! ### A brake that is set (R59, R60) -/

/-- A tower whose brake is set: its direction line released, at rest (R59). -/
def State.braked (s : State) (w : Tower) : State :=
  (s.releaseDirection w).setTower w { (s.releaseDirection w).tower w with phase := .atRest, brakeTimer := none }

theorem State.brakeExpiry_setting {s : State} {w : Tower} {r : Ticks} (hp : (s.tower w).phase = .settingBrake)
    (ht : (s.tower w).brakeTimer = some r) : s.brakeExpiry w = (s.braked w).checkRest.compare := by
  simp only [State.brakeExpiry, hp, ht, State.braked]

/-- What setting a brake makes of the tower, of whose two direction lines one was on, and of the rest. -/
structure Braked (w : Tower) (s u : State) : Prop where
  rest : u = { s with om := u.om, smc := u.smc }
  smc : u.smc = { s.smc with towers := u.smc.towers }
  record : u.tower w =
    { s.tower w with
      phase := .atRest, brakeTimer := none
      reversal := some { blocked := if s.cmd (towerFn w 0) = true then .lower else .raise, remaining := 2880 * s.act.tdead.toNat } }
  other : ∀ v, w ≠ v → u.tower v = s.tower v
  off : u.cmd (towerFn w 0) = false ∧ u.cmd (towerFn w 1) = false

theorem State.braked_braked {s : State} {w : Tower} (h : (s.cmd (towerFn w 0) != s.cmd (towerFn w 1)) = true) :
    Braked w s (s.braked w) := by
  obtain ⟨b, hb⟩ : ∃ b : Blocked, b = if s.cmd (towerFn w 0) = true then .lower else .raise := ⟨_, rfl⟩
  have hreleased : s.releaseDirection w =
      ((s.setCmd (towerFn w 0) false).setCmd (towerFn w 1) false).setTower w
        { s.tower w with reversal := some { blocked := b, remaining := msTicks s.act.tdead } } := by
    rw [hb]
    cases h0 : s.cmd (towerFn w 0) <;> cases h1 : s.cmd (towerFn w 1) <;> simp [h0, h1] at h <;>
      simp [State.releaseDirection, h0, h1]
  rw [State.braked, hreleased]
  refine ⟨rfl, rfl, ?_, fun v hv => ?_, ?_, ?_⟩
  · rw [State.setTower_same, State.setTower_same, ← hb]; rfl
  · rw [State.setTower_other _ _ hv, State.setTower_other _ _ hv]; rfl
  · simp
  · simp

/-- The other tower. -/
def otherTower : Tower → Tower
  | .a => .b
  | .b => .a

theorem otherTower_ne (w : Tower) : w ≠ otherTower w := by cases w <;> decide

theorem Braked.bothAtRest {w : Tower} {s u : State} (h : Braked w s u) :
    u.bothAtRest = true ↔ (s.tower (otherTower w)).phase = .atRest := by
  have hw : (u.tower w).phase = .atRest := by rw [h.record]
  have ho := h.other _ (otherTower_ne w)
  rw [u.bothAtRest_iff]
  cases w with
  | a => rw [← ho]; exact and_iff_right hw
  | b => rw [← ho]; exact and_iff_left hw

theorem Braked.seated {w : Tower} {s u : State} (h : Braked w s u) (v : Tower) : (u.tower v).seated = (s.tower v).seated := by
  by_cases hv : w = v
  · rw [← hv, h.record]
  · rw [h.other v hv]

theorem Braked.line {w : Tower} {s u : State} (h : Braked w s u) (l : Fin 48) : u.line l = s.line l := by
  rw [h.rest]; rfl

theorem Braked.pau {w : Tower} {s u : State} (h : Braked w s u) : u.pau = s.pau := by rw [h.rest]

/-! ### The end of SEATING in LOCKING (R67, R68) -/

/-- LOCKING, or the state past it, as it is entered from `s`. -/
structure LockingEntered (s t : State) : Prop where
  stop : t.smc.stop = .none
  attendance : t.smc.attendance = .stopped
  seatTimer : t.smc.seatTimer = none
  out : t.smc.out = 0
  locks :
    if s.line 12 = true ∧ s.line 14 = true then
      t.smc.motion = (if s.line 1 = true ∧ s.line 6 = true then .seatedLocked else .seated) ∧ t.cmd 8 = false ∧
        t.cmd 10 = false ∧ t.smc.lockTimer = none
    else
      t.smc.motion = .locking ∧ (t.cmd 8 = !s.line 12) ∧ (t.cmd 10 = !s.line 14) ∧
        t.smc.lockTimer = some (2880000 * s.act.lockTravel.toNat)

theorem State.enterLocking_entered (s : State) : LockingEntered s s.enterLocking := by
  have hsmc := s.enterLocking_smc
  have h8 : s.enterLocking.cmd 8 = !s.line 12 := by rw [s.enterLocking_cmd, if_pos rfl]
  have h10 : s.enterLocking.cmd 10 = !s.line 14 := by rw [s.enterLocking_cmd, if_neg (by decide), if_pos rfl]
  refine ⟨by rw [hsmc], by rw [hsmc], by rw [hsmc], by rw [hsmc], ?_⟩
  rw [h8, h10, hsmc]
  split
  · next h => exact ⟨rfl, by rw [h.1]; rfl, by rw [h.2]; rfl, rfl⟩
  · exact ⟨rfl, rfl, rfl, rfl⟩

theorem LockingEntered.looks {s t u : State} (h : LockingEntered s t) (k : LooksAgain t u) : LockingEntered s u := by
  obtain ⟨h1, h2, h3, h4, h5⟩ := h
  refine ⟨k.stop.trans h1, k.attendance.trans h2, k.seatTimer.trans h3, k.out.trans h4, ?_⟩
  rw [k.motion, k.cmd 8 (by decide), k.cmd 10 (by decide), show u.smc.lockTimer = t.smc.lockTimer by rw [k.smc]]
  exact h5

theorem LockingEntered.of_line {s s' t : State} (h : LockingEntered s' t) (hl : s'.line = s.line) (ha : s'.act = s.act) :
    LockingEntered s t := by
  obtain ⟨h1, h2, h3, h4, h5⟩ := h
  rw [hl, ha] at h5
  exact ⟨h1, h2, h3, h4, h5⟩

/-! ### What an event's end makes of the aspects -/

theorem LooksAgain.channelReads {s t : State} (h : LooksAgain s t) : t.channelReads = s.channelReads := by
  rw [h.rest]; rfl

theorem AdmissionTested.looks {s t u : State} (h : AdmissionTested s t) (k : LooksAgain t u) : AdmissionTested s u :=
  h.of_pau k.pau

/-- The admission test does not depend on OM or SMC. -/
theorem AdmissionTested.of_drive {s v t : State} {p : Pau} (h : AdmissionTested { v with pau := p } t)
    (hv : v = { s with om := v.om, smc := v.smc }) : AdmissionTested { s with pau := p } t := by
  rw [hv] at h
  exact h

/-! ### The stop's end at a brake that is set (R61, R65, R67, R157) -/

section
variable {w : Tower} {s u : State} (h : Braked w s u)
  (hrest : (s.tower (otherTower w)).phase = .atRest)
  (hm : s.smc.motion = .raising ∨ s.smc.motion = .lowering ∨ s.smc.motion = .seating)
include h hm

theorem Braked.moving : u.smc.motion.moving = true := by
  rw [h.smc]; exact (Motion.moving_iff _).2 hm

include hrest

theorem Braked.halts (hs : s.smc.stop = .halt ∨ s.smc.stop = .quick) :
    u.checkRest.compare.smc.motion = .halted ∧ u.checkRest.compare.smc.stop = .none ∧ u.checkRest.compare.smc.target = none := by
  rw [State.checkRest_halt (h.moving hm) (h.bothAtRest.2 hrest) (by rw [h.smc]; exact hs)]
  have look := u.enterHalted.compare_looks
  exact ⟨look.motion, look.stop, look.target⟩

theorem Braked.arrives (hs : s.smc.stop = .arrival) :
    let t := u.checkRest.compare
    t.smc.motion = .holding ∧ t.smc.stop = .none ∧ t.smc.target = s.smc.target ∧
      (s.pau.opening.state ≠ .gathered → t.pau = s.pau) ∧
      (s.pau.opening.state = .gathered → t.aspectsDecided ∧
        (s.pau.opening.members = [] → t.pau.opening.state = .closingChannel ∨ t.pau.opening.state = .none) ∧
        (s.pau.opening.members ≠ [] →
          AdmissionTested { s with pau := { s.pau with opening := { s.pau.opening with state := .admitting } } } t)) := by
  rw [State.checkRest_arrival (h.moving hm) (h.bothAtRest.2 hrest) (by rw [h.smc]; exact hs)]
  obtain ⟨v, hv⟩ : ∃ v, v = u.onSmc fun m => { m with motion := .holding, stop := .none } := ⟨_, rfl⟩
  rw [← hv]
  have look := v.holdingEntered.compare_looks
  have hsmc := State.offChannel_smc v.holdingEntered_offChannel
  have hpau : v.pau = s.pau := by rw [hv]; exact h.pau
  refine ⟨by rw [look.motion, hsmc, hv]; rfl, by rw [look.stop, hsmc, hv]; rfl,
    by rw [look.target, hsmc, hv, State.onSmc_smc, h.smc], fun hg => ?_, fun hg => ?_⟩
  · rw [look.pau, State.holdingEntered_stays (by rwa [hpau]), hpau]
  · obtain ⟨hdecided, hempty, htested⟩ := State.holdingEntered_gathered (s := v) (by rwa [hpau])
    rw [hpau] at hempty htested
    refine ⟨State.aspectsDecided_of_eq look.channelReads look.pau hdecided, fun he => ?_, fun he => ?_⟩
    · rw [look.pau]; exact hempty he
    · have hrest : v = { s with om := v.om, smc := v.smc } := by rw [hv, h.rest]; rfl
      exact ((htested he).looks look).of_drive hrest

theorem Braked.seats (hs : s.smc.stop = .none) (hseating : s.smc.motion = .seating) :
    let t := u.checkRest.compare
    if (s.tower .a).seated = true ∧ (s.tower .b).seated = true then LockingEntered s t
    else t.smc.motion = .seating ∧ t.smc.stop = .none := by
  have hmotion : u.smc.motion = .seating := by rw [h.smc]; exact hseating
  have hstop : u.smc.stop = .none := by rw [h.smc]; exact hs
  have hseated : u.bothSeated = true ↔ (s.tower .a).seated = true ∧ (s.tower .b).seated = true := by
    rw [← h.seated, ← h.seated]; exact Bool.and_eq_true_iff
  rw [State.checkRest_none (h.moving hm) (h.bothAtRest.2 hrest) hstop]
  split
  · next hb =>
    rw [State.checkSeated_locks hmotion (hseated.2 hb) (h.bothAtRest.2 hrest) hstop]
    have entered := (u.onSmc fun m => { m with seatTimer := none }).enterLocking_entered
    exact (entered.looks (State.compare_looks _)).of_line (funext h.line) (by rw [h.rest]; rfl)
  · next hb =>
    rw [State.checkSeated_stays fun hh => hb (hseated.1 hh.2)]
    exact ⟨u.compare_looks.motion.trans hmotion, u.compare_looks.stop.trans hstop⟩

end

/-! ### The reversal interval (R59, R60) -/

/-- The reversal interval's expiry empties the record, and a tower that waits for it asserts its direction. -/
theorem State.reversalExpiry_eq {s : State} {w : Tower} {v : Reversal} (hv : (s.tower w).reversal = some v) :
    s.reversalExpiry w =
      let u := s.setTower w { s.tower w with reversal := none }
      if (s.tower w).phase = .waitingReversal then (u.assertDirection w (decide (s.smc.motion = .raising))).compare else u := by
  have hphase : ((s.setTower w { s.tower w with reversal := none }).tower w).phase = (s.tower w).phase := by
    rw [State.setTower_same]
  simp only [State.reversalExpiry, hv, Option.isNone_some, Bool.false_eq_true, if_false, hphase]
  rfl

/-- Asserting a direction (R59). -/
theorem State.assertDirection_spec (s : State) (w : Tower) (raise : Bool) :
    (s.assertDirection w raise).tower w =
        { s.tower w with phase := .releasingBrake, brakeTimer := some (2880 * s.act.tbrk.toNat) } ∧
      (s.assertDirection w raise).cmd (towerFn w (if raise = true then 0 else 1)) = true := by
  refine ⟨?_, ?_⟩
  · rw [State.assertDirection, State.setTower_same]; rfl
  · simp [State.assertDirection]

/-! ### The obligation -/

/-- The end of RELEASING_BRAKE: the brake is released and the tower runs (R59). -/
theorem State.brakeExpiry_runs {s : State} {w : Tower} (hp : (s.tower w).phase = .releasingBrake)
    (ht : (s.tower w).brakeTimer.isSome = true) :
    let t := s.brakeExpiry w
    (t.tower w).phase = .running ∧ (t.tower w).brakeTimer = none ∧ t = { s with om := t.om, smc := t.smc, mfs := t.mfs } ∧
      (∀ f, f ≠ towerFn w 2 → f ≠ 39 → t.cmd f = s.cmd f) ∧ t.cmd (towerFn w 2) = true ∧ t.smc.motion = s.smc.motion := by
  rw [State.brakeExpiry_releasing hp ht]
  have look := ((s.setCmd (towerFn w 2) true).setTower w { s.tower w with phase := .running, brakeTimer := none }).compare_looks
  refine ⟨by rw [look.phase, State.setTower_same], by rw [look.brakeTimer, State.setTower_same],
    State.offDrive_eq (look.offDrive.trans rfl), fun f hf h39 => ?_, ?_, look.motion⟩
  · rw [look.cmd f h39, State.setTower_cmd, State.cmd_setCmd, if_neg hf.symm]
  · rw [look.cmd _ (towerFn_brake_ne_alarm w), State.setTower_cmd, State.cmd_setCmd, if_pos rfl]

/-- The end of SETTING_BRAKE, whatever becomes of the stop (R59, R60). -/
theorem Braked.tested {w : Tower} {s u : State} (h : Braked w s u) :
    let t := u.checkRest.compare
    t = { s with om := t.om, smc := t.smc, pg := t.pg, pau := t.pau, mfs := t.mfs } ∧ (t.tower w).phase = .atRest ∧
      t.cmd (towerFn w 0) = false ∧ t.cmd (towerFn w 1) = false ∧
      (t.tower w).reversal =
        some { blocked := if s.cmd (towerFn w 0) = true then .lower else .raise, remaining := 2880 * s.act.tdead.toNat } := by
  have rested := u.checkRest_restTested
  have look := u.checkRest.compare_looks
  have htower : ∀ v, u.checkRest.tower v = u.tower v := fun v => by rw [State.tower, rested.towers]; rfl
  have hcmd : ∀ f : Fin 4, u.checkRest.compare.cmd (towerFn w f) = u.cmd (towerFn w f) := fun f => by
    have hval : (towerFn w f).val < 8 := towerFn_lt w f
    rw [look.cmd _ (by rintro e; rw [e] at hval; simp at hval), rested.cmd _ hval]
  refine ⟨?_, by rw [look.phase, htower, h.record], by rw [hcmd, h.off.1], by rw [hcmd, h.off.2], ?_⟩
  · refine State.offLive_eq ((congrArg State.offLive look.offDrive :).trans (rested.rest.trans ?_))
    rw [h.rest]; rfl
  · rw [look.tower w, htower, h.record]

/-- With the other tower still on its way the stop goes on (R61). -/
theorem Braked.waits {w : Tower} {s u : State} (h : Braked w s u)
    (hrest : (s.tower (otherTower w)).phase ≠ .atRest) :
    u.checkRest.compare.smc.motion = s.smc.motion ∧ u.checkRest.compare.smc.stop = s.smc.stop := by
  rw [State.checkRest_stays fun hh => hrest (h.bothAtRest.1 hh.2), u.compare_looks.motion, u.compare_looks.stop, h.smc]
  exact ⟨rfl, rfl⟩

/-- Settles O42: the phases of the tower first, then the stop's end by its kind, then the reversal interval. -/
theorem towerTimersFollowThePhases : Obligations.TowerTimersFollowThePhases := by
  intro s w
  refine ⟨fun r hp ht => ⟨_, rfl, State.brakeExpiry_runs hp (by rw [ht]; rfl)⟩, fun r hp ht hone => ?_, fun v hv => ?_⟩
  · have braked := State.braked_braked hone
    refine ⟨_, congrArg Host.Outcome.next (State.brakeExpiry_setting hp ht), ?_⟩
    obtain ⟨hrest, hphase, hraise, hlower, hreversal⟩ := braked.tested
    refine ⟨hrest, hphase, hraise, hlower, hreversal, fun ho hm => ?_,
      fun ho => braked.waits (by cases w <;> exact ho)⟩
    have ho' : (s.tower (otherTower w)).phase = .atRest := by cases w <;> exact ho
    refine ⟨braked.halts ho' hm, braked.arrives ho' hm, fun hs hseat => ?_⟩
    have seats := braked.seats ho' hm hs hseat
    split
    · next hb =>
      rw [if_pos hb] at seats
      exact ⟨seats.stop, seats.attendance, seats.seatTimer, seats.out, seats.locks⟩
    · next hb => rwa [if_neg hb] at seats
  · refine ⟨_, congrArg Host.Outcome.next (State.reversalExpiry_eq hv), ?_⟩
    by_cases hp : (s.tower w).phase = .waitingReversal
    · obtain ⟨hrecord, hcmd⟩ :=
        (s.setTower w { s.tower w with reversal := none }).assertDirection_spec w (decide (s.smc.motion = .raising))
      have look := ((s.setTower w { s.tower w with reversal := none }).assertDirection w
        (decide (s.smc.motion = .raising))).compare_looks
      simp only [if_pos hp]
      rw [State.setTower_same] at hrecord
      simp only [decide_eq_true_iff] at hcmd
      have hne : towerFn w (if s.smc.motion = .raising then 0 else 1) ≠ 39 := by
        split <;> cases w <;> decide
      refine ⟨State.offDrive_eq (look.offDrive.trans rfl), by rw [look.tower w, hrecord], look.motion,
        by rw [look.phase, hrecord], by rw [look.brakeTimer, hrecord]; rfl, ?_⟩
      rw [look.cmd _ hne, hcmd]
    · simp only [if_neg hp]
      exact ⟨rfl, by rw [State.setTower_same], rfl, rfl⟩

end Sys2Proof.Machine
end


section
/-! SUPPORT. The start of a motion: the towers, the attendance timer and the comparisons (R59, R60, R64, R66, R70). -/

namespace Sys2Proof.Machine

/-! ### A look at the comparisons with no trip fault ACTIVE (R77) -/

/-- No trip fault is ACTIVE (R63, R66, R76). -/
def State.calm (s : State) : Prop := ∀ f : Fin 37, f.val ≤ 11 → s.fault f ≠ .active

theorem State.calm_iff (s : State) : s.tripFaultActive = false ↔ s.calm := by
  simp [State.tripFaultActive, State.calm, isTripFault]

theorem State.calm_of_mfs {s t : State} (h : t.mfs = s.mfs) : t.calm ↔ s.calm := by
  simp only [State.calm, State.fault, h]

theorem State.compareTower_mfs {s : State} (h : s.calm) (w : Tower) : (s.compareTower w).mfs = s.mfs := by
  have agreed : ∀ (u : State) (f : Fin 37) (b : Bool), f.val ≤ 11 → u.mfs = s.mfs → (u.reportAgreed f b).mfs = s.mfs := by
    intro u f b hf hu
    have hlatch : u.faultLatches f false = false := by
      have := (State.calm_of_mfs hu).2 h f hf
      simp [State.faultLatches, this]
    rw [State.reportAgreed, hlatch, Bool.and_false, if_neg (by simp), hu]
  unfold State.compareTower
  split
  · rfl
  · exact agreed _ _ _ (by cases w <;> decide) (agreed _ _ _ (by cases w <;> decide) rfl)

theorem State.compare_mfs {s : State} (h : s.calm) : s.compare.mfs = s.mfs := by
  have ha := State.compareTower_mfs h .a
  rw [State.compare, State.compareTower_mfs ((State.calm_of_mfs ha).2 h) .b, ha]

/-! ### One tower starts (R59, R60) -/

/-- From `s` to `t` the tower starts: its direction line is on and its brake timer runs, or it waits for the reversal record that
blocks the direction. -/
def TowerStarted (raise : Bool) (w : Tower) (s t : State) : Prop :=
  if (s.tower w).reversal.any (fun v => v.blocks raise) = true then (t.tower w).phase = .waitingReversal
  else (t.tower w).phase = .releasingBrake ∧ t.cmd (towerFn w (if raise = true then 0 else 1)) = true ∧
    (t.tower w).brakeTimer = some (2880 * s.act.tbrk.toNat)

/-- What the start of a tower leaves alone. -/
structure StartKept (w : Tower) (s t : State) : Prop where
  rest : t = { s with om := t.om, smc := t.smc }
  smc : t.smc = { s.smc with towers := t.smc.towers }
  other : ∀ v, w ≠ v → t.tower v = s.tower v
  cmd : ∀ f, f ≠ towerFn w 0 → f ≠ towerFn w 1 → t.cmd f = s.cmd f

theorem State.startTower_kept (s : State) (raise : Bool) (w : Tower) : StartKept w s (s.startTower raise w) := by
  have asserts : StartKept w s (s.assertDirection w raise) := by
    refine ⟨rfl, rfl, fun v hv => State.setTower_other _ _ hv, fun f h0 h1 => ?_⟩
    rw [State.assertDirection, State.setTower_cmd, State.cmd_setCmd, if_neg]
    cases raise
    · exact h1.symm
    · exact h0.symm
  unfold State.startTower
  split
  · split
    · exact ⟨rfl, rfl, fun v hv => State.setTower_other _ _ hv, fun _ _ _ => rfl⟩
    · exact asserts
  · exact asserts

theorem State.startTower_started (s : State) (raise : Bool) (w : Tower) : TowerStarted raise w s (s.startTower raise w) := by
  obtain ⟨hrecord, hcmd⟩ := s.assertDirection_spec w raise
  unfold State.startTower TowerStarted
  cases hv : (s.tower w).reversal with
  | none =>
    rw [if_neg (by simp)]
    exact ⟨by rw [hrecord], hcmd, by rw [hrecord]⟩
  | some v =>
    simp only [Option.any_some]
    split
    · rw [State.setTower_same]
    · exact ⟨by rw [hrecord], hcmd, by rw [hrecord]⟩

theorem TowerStarted.of_eq {raise : Bool} {w : Tower} {s s' t t' : State} (h : TowerStarted raise w s t)
    (hs : s'.tower w = s.tower w) (ha : s'.act = s.act) (hp : (t'.tower w).phase = (t.tower w).phase)
    (hb : (t'.tower w).brakeTimer = (t.tower w).brakeTimer)
    (hc : t'.cmd (towerFn w (if raise = true then 0 else 1)) = t.cmd (towerFn w (if raise = true then 0 else 1))) :
    TowerStarted raise w s' t' := by
  unfold TowerStarted at h ⊢
  rw [hs, ha, hp, hb, hc]
  exact h

theorem towerFn_ne_of_ne : ∀ {v w : Tower}, w ≠ v → ∀ f g : Fin 4, towerFn v f ≠ towerFn w g
  | .a, .b, _ | .b, .a, _ => by decide
  | .a, .a, h | .b, .b, h => absurd rfl h

/-! ### Both towers start, with attendance (R59, R70) -/

/-- The towers start, the attendance timer is set and SMC looks at its comparisons. -/
def State.started (s : State) (raise : Bool) : State := ((s.startTowers raise).setAttendance).compare

structure MotionStarted (raise : Bool) (s t : State) : Prop where
  smc : t.smc =
    { s.smc with
      attendance := if s.line 36 = true ∧ s.line 38 = true then .standing else .counting (2880 * s.act.attendance.toNat)
      towers := t.smc.towers }
  tower : ∀ w, TowerStarted raise w s t
  cmd : ∀ f : Fin 40, 8 ≤ f.val → f ≠ 39 → t.cmd f = s.cmd f
  rest : t.offDrive = s.offDrive
  mfs : s.calm → t.mfs = s.mfs

theorem State.started_started (s : State) (raise : Bool) : MotionStarted raise s (s.started raise) := by
  have ka := s.startTower_kept raise .a
  have kb := (s.startTower raise .a).startTower_kept raise .b
  have sa := s.startTower_started raise .a
  have sb := (s.startTower raise .a).startTower_started raise .b
  have hab : Tower.a ≠ .b := by decide
  have look := (s.startTowers raise).setAttendance.compare_looks
  have hact : (s.startTower raise .a).act = s.act := by rw [ka.rest]; rfl
  have hrest : s.startTowers raise = { s with om := (s.startTowers raise).om, smc := (s.startTowers raise).smc } := by
    rw [State.startTowers, kb.rest, ka.rest]
  have hsmc : (s.startTowers raise).smc = { s.smc with towers := (s.startTowers raise).smc.towers } := by
    rw [State.startTowers, kb.smc, ka.smc]
  have drive : ∀ {w : Tower} {f : Fin 40}, f.val < 8 → (s.started raise).cmd f = (s.startTowers raise).cmd f := fun hf =>
    look.cmd _ (by rintro rfl; simp at hf)
  refine ⟨?_, fun w => ?_, fun f hf h39 => ?_, ?_, fun hc => ?_⟩
  · rw [State.started, look.smc, State.setAttendance, State.onSmc_smc, hsmc]
    have hlocal : ((s.startTowers raise).isLocal && (s.startTowers raise).line 38) = true ↔ s.line 36 = true ∧ s.line 38 = true := by
      rw [hrest]; exact Bool.and_eq_true_iff
    have hact' : (s.startTowers raise).act = s.act := by rw [hrest]; rfl
    simp only [hlocal, hact']
    rfl
  · have hlt : (towerFn w (if raise = true then 0 else 1)).val < 8 := towerFn_lt w _
    cases w with
    | a =>
      refine sa.of_eq rfl rfl ?_ ?_ ?_
      · exact (look.phase .a).trans (congrArg TowerRec.phase (kb.other .a hab.symm))
      · exact (look.brakeTimer .a).trans (congrArg TowerRec.brakeTimer (kb.other .a hab.symm))
      · rw [drive (w := .a) hlt]
        exact kb.cmd _ (towerFn_ne_of_ne hab.symm _ _) (towerFn_ne_of_ne hab.symm _ _)
    | b =>
      refine sb.of_eq (ka.other .b hab).symm hact.symm ?_ ?_ ?_
      · exact look.phase .b
      · exact look.brakeTimer .b
      · exact drive (w := .b) hlt
  · have hne : ∀ w k, f ≠ towerFn w k := fun w k e => by
      have := towerFn_lt w k
      rw [← e] at this
      omega
    exact (look.cmd f h39).trans ((kb.cmd f (hne _ _) (hne _ _)).trans (ka.cmd f (hne _ _) (hne _ _)))
  · have hoff : (s.startTowers raise).offDrive = s.offDrive := by rw [hrest]; rfl
    exact look.offDrive.trans hoff
  · have hmfs : (s.startTowers raise).setAttendance.mfs = s.mfs := by
      show (s.startTowers raise).mfs = s.mfs
      rw [hrest]
    exact (State.compare_mfs ((State.calm_of_mfs hmfs).2 hc)).trans hmfs

/-! ### RAISING, LOWERING and UNLOCKING (R63, R64, R66) -/

/-- From `s` to `t` RAISING has been entered. -/
structure RaisingEntered (s t : State) : Prop where
  smc : t.smc =
    { s.smc with
      motion := .raising, stop := .none, lockTimer := none
      attendance := if s.line 36 = true ∧ s.line 38 = true then .standing else .counting (2880 * s.act.attendance.toNat)
      towers := t.smc.towers }
  tower : ∀ w, TowerStarted true w s t
  withdraw : t.cmd 9 = false ∧ t.cmd 11 = false
  rest : t.offDrive = s.offDrive
  mfs : s.calm → t.mfs = s.mfs

theorem State.enterRaising_entered (s : State) : RaisingEntered s s.enterRaising := by
  have h := State.started_started
    (((s.setCmd 9 false).setCmd 11 false).onSmc fun m => { m with motion := .raising, stop := .none, lockTimer := none }) true
  refine ⟨h.smc, h.tower, ⟨?_, ?_⟩, h.rest, h.mfs⟩
  · rw [show s.enterRaising = State.started _ true from rfl, h.cmd 9 (by decide) (by decide)]
    exact (s.setCmd_off_two 9 11 9).trans (if_pos (.inl rfl))
  · rw [show s.enterRaising = State.started _ true from rfl, h.cmd 11 (by decide) (by decide)]
    exact (s.setCmd_off_two 9 11 11).trans (if_pos (.inr rfl))

/-- From `s` to `t` LOWERING has been entered. -/
structure LoweringEntered (s t : State) : Prop where
  motion : t.smc.motion = .lowering
  stop : t.smc.stop = .none
  target : t.smc.target = none
  rest : t.offDrive = s.offDrive
  mfs : s.calm → t.mfs = s.mfs

theorem State.enterLowering_entered (s : State) : LoweringEntered s s.enterLowering := by
  have h := State.started_started (s.onSmc fun m => { m with motion := .lowering, stop := .none, target := none }) false
  have hsmc : s.enterLowering.smc = _ := h.smc
  exact ⟨by rw [hsmc]; rfl, by rw [hsmc]; rfl, by rw [hsmc]; rfl, h.rest, h.mfs⟩

/-- The entry to UNLOCKING: WITHDRAW on for each lock that is not withdrawn-proven (R64). -/
theorem State.enterUnlocking_spec (s : State) :
    s.enterUnlocking.smc = { s.smc with motion := .unlocking, lockTimer := some (2880000 * s.act.lockTravel.toNat) } ∧
      s.enterUnlocking.cmd 9 = (!s.line 11) ∧ s.enterUnlocking.cmd 11 = (!s.line 13) ∧
      s.enterUnlocking = { s with om := s.enterUnlocking.om, smc := s.enterUnlocking.smc } := by
  refine ⟨rfl, ?_, ?_, rfl⟩
  · rw [State.enterUnlocking, State.cmd_setCmd, if_neg (by decide), State.cmd_setCmd, if_pos rfl]; rfl
  · rw [State.enterUnlocking, State.cmd_setCmd, if_pos rfl]; rfl

end Sys2Proof.Machine
end


section
/-! SUPPORT. A raise: its conditions, and what an accepted one starts (R62 to R65). -/

namespace Sys2Proof.Machine

/-! ### The conditions (R63) -/

/-- The motion states that take a raise. -/
def State.raiseHere (s : State) : Prop :=
  s.smc.motion = .seatedLocked ∨ s.smc.motion = .seated ∨ s.smc.motion = .halted ∨ s.smc.motion = .holding ∨
    (s.smc.motion = .raising ∧ s.smc.stop = .none)

/-- Both position channels are VALID in the latest set. -/
def State.channelsValid (s : State) : Prop := ∃ m, s.mu.set = some m ∧ m.channels.c0.state = .valid ∧ m.channels.c1.state = .valid

/-- The conditions of R63's table but for the trip faults, and the functions of the span that displace none (R9). -/
def State.raiseFree (s : State) (target : Nat) : Prop :=
  s.rcs.road = .sealed ∧ s.hasHold .noRaise = false ∧ s.hasHold .noMotion = false ∧ s.mfs.wind.state ≠ .alert ∧
    s.mfs.wind.state ≠ .clearPending ∧ s.mfs.supply.state ≠ .alert ∧ s.mfs.supply.state ≠ .clearPending ∧ s.channelsValid ∧
    s.line 31 = true ∧ s.line 32 = true ∧ (∀ f ∈ s.om.displaced, 2 < rank f) ∧ s.spanHeight + s.act.ztol < (target : Int)

theorem State.raiseState_iff (s : State) : s.raiseState = true ↔ s.raiseHere := by
  unfold State.raiseState State.raiseHere
  cases s.smc.motion <;> simp

theorem State.motionDisplaced_iff (s : State) : s.motionDisplaced = false ↔ ∀ f ∈ s.om.displaced, 2 < rank f := by
  simp [State.motionDisplaced]

theorem State.positionsValid_iff (s : State) : s.positionsValid = true ↔ s.channelsValid := by
  unfold State.positionsValid State.channelsValid
  cases s.mu.set <;> simp

theorem State.deckOccupied_iff (s : State) : s.deckOccupied = false ↔ s.line 31 = true ∧ s.line 32 = true := by
  simp [State.deckOccupied]

theorem Monitor.inAlert_iff (m : Monitor) : m.inAlert = false ↔ m.state ≠ .alert ∧ m.state ≠ .clearPending := by
  simp [Monitor.inAlert]

theorem State.mayRaise_iff (s : State) (target : Nat) :
    (s.motionDisplaced = false ∧ s.mayRaise target = true) ↔ s.raiseFree target ∧ s.calm := by
  simp only [State.mayRaise, Bool.and_eq_true, Bool.not_eq_true', decide_eq_true_iff, State.motionDisplaced_iff,
    State.positionsValid_iff, State.deckOccupied_iff, State.calm_iff, State.windAlert, State.supplyAlert, Monitor.inAlert_iff,
    State.raiseFree]
  tauto

/-! ### What a raise does (R62 to R65) -/

section
variable {s : State} {w : RaiseWish} {want : Nat}

/-- A height is asked for. -/
def RaiseWish.byHand : RaiseWish → Bool
  | .height _ => true
  | .noHeight | .panel => false

/-- The state with the new target of a live opening, where a height is asked for (R62). -/
def State.retargeted (s : State) (w : RaiseWish) (t : Nat) : State :=
  if w.byHand = true ∧ s.pau.opening.state ≠ .none then s.onOpening fun o => { o with target := some t } else s

theorem State.raise_accepts (hw : s.wishTarget w = some want) (hh : s.raiseHere) (hf : s.raiseFree (min want s.act.hfull.toNat))
    (hc : s.calm) :
    s.raise w = (.ok, decide (s.act.hfull.toNat < want),
      (s.retargeted w (min want s.act.hfull.toNat)).acceptRaise (min want s.act.hfull.toNat)) := by
  obtain ⟨hd, hm⟩ := (s.mayRaise_iff _).2 ⟨hf, hc⟩
  have hretarget : s.retargeted w (min want s.act.hfull.toNat) =
      if (w.byHand && s.opening.state ≠ .none) = true then
        s.onOpening fun o => { o with target := some (min want s.act.hfull.toNat) }
      else s := by
    simp only [State.retargeted, Bool.and_eq_true, decide_eq_true_iff]
    rfl
  simp only [State.raise, hd, s.raiseState_iff.2 hh, hw, hm, Bool.not_true, Bool.or_self, Bool.false_eq_true, if_false, if_true,
    hretarget]
  cases w <;> rfl

theorem State.raise_refuses (hw : s.wishTarget w = some want)
    (h : ¬(s.raiseHere ∧ s.raiseFree (min want s.act.hfull.toNat) ∧ s.calm)) : s.raise w = (.notNow, false, s) := by
  rw [← State.mayRaise_iff, ← State.raiseState_iff] at h
  unfold State.raise
  split
  · rfl
  · next hr =>
    simp only [Bool.or_eq_true, Bool.not_eq_true', not_or, Bool.not_eq_true, Bool.not_eq_false] at hr
    rw [hw]
    simp only []
    rw [if_neg fun hm => h ⟨hr.2, hr.1, hm⟩]

theorem State.raise_unwished (hw : s.wishTarget w = none) (hh : s.raiseHere) (hd : ∀ f ∈ s.om.displaced, 2 < rank f) :
    s.raise w = (.badArgument, false, s) := by
  simp only [State.raise, s.motionDisplaced_iff.2 hd, s.raiseState_iff.2 hh, hw, Bool.not_true, Bool.or_self,
    Bool.false_eq_true, if_false]

end

/-- What an accepted raise starts outside RAISING. -/
def RaiseStarts (s t : State) : Prop :=
  if s.smc.motion = .holding ∨ (s.line 11 = true ∧ s.line 13 = true) then
    t.smc.motion = .raising ∧ t.smc.stop = .none ∧ t.cmd 9 = false ∧ t.cmd 11 = false
  else
    t.smc.motion = .unlocking ∧ (t.cmd 9 = !s.line 11) ∧ (t.cmd 11 = !s.line 13) ∧
      t.smc.lockTimer = some (2880000 * s.act.lockTravel.toNat)

/-- From `s` to `t` a raise has been accepted with a target. -/
structure RaiseAccepted (target : Nat) (s t : State) : Prop where
  target : t.smc.target = some target
  starts : s.smc.motion ≠ .raising → RaiseStarts s t
  opening : t.pau.opening.target = s.pau.opening.target
  rest : t.offLive = s.offLive
  mfs : s.calm → t.mfs = s.mfs

theorem State.holdingLeft_target (s : State) : s.holdingLeft.pau.opening.target = s.pau.opening.target := by
  by_cases h : s.pau.opening.state = .admitting
  · rw [(State.holdingLeft_calls h).1.1]
  · rw [State.holdingLeft_stays h]

theorem State.acceptRaise_raising {s : State} (h : s.smc.motion = .raising) (target : Nat) :
    s.acceptRaise target = s.onSmc fun m => { m with target := some target } := by
  simp only [State.acceptRaise, h]

theorem State.acceptRaise_holding {s : State} (h : s.smc.motion = .holding) (target : Nat) :
    s.acceptRaise target = (s.onSmc fun m => { m with target := some target }).enterRaising.holdingLeft := by
  simp only [State.acceptRaise, h]

theorem State.acceptRaise_else {s : State} (hr : s.smc.motion ≠ .raising) (hh : s.smc.motion ≠ .holding) (target : Nat) :
    s.acceptRaise target =
      if s.bothWithdrawn = true then (s.onSmc fun m => { m with target := some target }).enterRaising
      else (s.onSmc fun m => { m with target := some target }).enterUnlocking := by
  unfold State.acceptRaise
  cases hm : s.smc.motion with
  | raising => exact absurd hm hr
  | holding => exact absurd hm hh
  | _ => rfl

theorem State.acceptRaise_accepted (s : State) (target : Nat) : RaiseAccepted target s (s.acceptRaise target) := by
  have raising := (s.onSmc fun m => { m with target := some target }).enterRaising_entered
  by_cases hr : s.smc.motion = .raising
  · rw [State.acceptRaise_raising hr]
    exact ⟨rfl, fun h => absurd hr h, rfl, rfl, fun _ => rfl⟩
  · by_cases hh : s.smc.motion = .holding
    · rw [State.acceptRaise_holding hh]
      generalize (s.onSmc fun m => { m with target := some target }).enterRaising = u at raising
      have hoff := u.holdingLeft_offChannel
      have hsmc := State.offChannel_smc hoff
      have hpau : u.pau = s.pau := (congrArg State.pau raising.rest :)
      refine ⟨by rw [hsmc, raising.smc]; rfl, fun _ => ?_, by rw [State.holdingLeft_target, hpau], ?_, fun hc => ?_⟩
      · rw [RaiseStarts, if_pos (.inl hh), hsmc, raising.smc, State.offChannel_cmd hoff 9 (by decide),
          State.offChannel_cmd hoff 11 (by decide)]
        exact ⟨rfl, rfl, raising.withdraw⟩
      · exact (State.offChannel_restTested hoff).rest.trans (congrArg State.offLive raising.rest :)
      · exact (State.offChannel_mfs hoff).trans (raising.mfs hc)
    · rw [State.acceptRaise_else hr hh]
      split
      · next hb =>
        have hlocks := s.bothWithdrawn_iff.1 hb
        refine ⟨by rw [raising.smc]; rfl, fun _ => ?_, (congrArg (·.pau.opening.target) raising.rest :),
          (congrArg State.offLive raising.rest :), raising.mfs⟩
        rw [RaiseStarts, if_pos (.inr hlocks), raising.smc]
        exact ⟨rfl, rfl, raising.withdraw⟩
      · next hb =>
        obtain ⟨hsmc, h9, h11, hrest⟩ := (s.onSmc fun m => { m with target := some target }).enterUnlocking_spec
        refine ⟨by rw [hsmc]; rfl, fun _ => ?_, by rw [hrest]; rfl, by rw [hrest]; rfl, fun _ => by rw [hrest]; rfl⟩
        rw [RaiseStarts, if_neg (not_or.2 ⟨hh, mt s.bothWithdrawn_iff.2 hb⟩), hsmc]
        exact ⟨rfl, h9, h11, rfl⟩

end Sys2Proof.Machine
end


section
/-! RAISE SPAN, the panel RAISE and the locks that withdraw (R57, R59, R60, R62 to R64). -/

namespace Sys2Proof.Machine

/-! ### The request (R62, R63, R70) -/

/-- The state with another attendance timer. -/
def State.withAttendance (s : State) (a : AttendanceTimer) : State := { s with smc := { s.smc with attendance := a } }

/-- The attendance timer that a request from port 0 leaves (R70). -/
def State.refreshedTimer (s : State) : AttendanceTimer :=
  if s.attendanceRequired = true then .counting (2880 * s.act.attendance.toNat) else s.smc.attendance

theorem State.refreshAttendance_eq {s : State} (h : s.isLocal = false) :
    s.refreshAttendance = s.withAttendance s.refreshedTimer := by
  rw [State.refreshAttendance_remote h, State.refreshedTimer]
  split <;> rfl

/-- The state that a statement calls refreshed. -/
theorem State.refreshed_eq (s : State) :
    (if (s.smc.motion = .raising ∨ s.smc.motion = .lowering ∨ s.smc.motion = .seating) ∧ s.smc.stop = .none then
      { s with smc := { s.smc with attendance := .counting (2880 * s.act.attendance.toNat) } }
    else s) = s.withAttendance s.refreshedTimer := by
  rw [State.refreshedTimer]
  simp only [← s.attendanceRequired_iff]
  split <;> rfl

theorem field_beBytes_two {n : Nat} (h : n < 65536) : field (beBytes 2 n) 0 2 = n := by
  simp only [field, beBytes, beNat, List.drop_zero, List.take, List.foldl, BitVec.toNat_ofNat]
  omega

/-- What a RAISE SPAN's payload asks for. -/
def raiseWish (l : List Byte) : RaiseWish := if l.length = 2 then .height (field l 0 2) else .noHeight

/-- RAISE SPAN raises the state that its frame has left, its attendance refreshed, and answers what the raise answers. -/
theorem execRaiseSpan_eq {s : State} {b : Buffered} {rest : List Buffered} {l : List Byte}
    (h : s.operatorAsks b rest 0x28 l = true) (hl : l.length = 0 ∨ l.length = 2) :
    let r := ((s.popped .operator rest).withAttendance s.refreshedTimer).raise (raiseWish l)
    exec (.raiseSpan .operator) s =
      .next (r.2.2.withPorts (s.replied .operator b rest (s.replyWith .operator b r.1.ctorIdx r.2.1 [])).sp) := by
  obtain ⟨hoffers, hasks, hconf, hlocal⟩ := (s.operatorAsks_iff b rest _ _).1 h
  obtain ⟨hkind, rfl⟩ := (b.asks_iff _ _).1 hasks
  have hrow : takeCommand .operator b.frame = .raiseSpan .operator := by
    simp [takeCommand, State.not_dropped hoffers (by omega), hkind]
  have hscreen : s.screen .operator b.frame = none :=
    State.screen_operator (r := remoteRow [0, 2]) (by rw [hkind]; rfl)
      (by obtain hl | hl := hl <;> simp [hl, remoteRow]) hconf (.inl hlocal)
  have hrefresh : (s.popped .operator rest).refreshAttendance = (s.popped .operator rest).withAttendance s.refreshedTimer :=
    State.refreshAttendance_eq (s := s.popped .operator rest) hlocal
  have howner : State.ownRaiseSpan b.frame (s.popped .operator rest) =
      (let r := ((s.popped .operator rest).withAttendance s.refreshedTimer).raise (raiseWish b.frame.payload)
       ({ status := r.1, clamped := r.2.1, body := [], commits := false, restarts := false }, r.2.2)) := by
    rw [← hrefresh]; rfl
  have hstores : (((s.popped .operator rest).withAttendance s.refreshedTimer).raise (raiseWish b.frame.payload)).2.2.stores =
      (s.popped .operator rest).stores := State.raise_stores _ _
  exact congrArg Host.Outcome.next (State.takeRequest_answered State.ownRaiseSpan hoffers hrow hscreen howner hstores rfl rfl)

/-- A height is asked for, or the target of a live opening. -/
def State.asksHeight (s : State) (b : Buffered) (rest : List Buffered) (height : Nat) : Prop :=
  s.operatorAsks b rest 0x28 (beBytes 2 height) = true ∨
    (s.operatorAsks b rest 0x28 [] = true ∧ s.pau.opening.state ≠ .none ∧ s.pau.opening.target = some height)

/-- The payload of such a request, and the target that it wishes. -/
theorem State.asksHeight_payload {s : State} {b : Buffered} {rest : List Buffered} {height : Nat} (hh : height < 65536)
    (h : s.asksHeight b rest height) :
    ∃ l, s.operatorAsks b rest 0x28 l = true ∧ (l.length = 0 ∨ l.length = 2) ∧ b.frame.payload = l ∧
      (∀ u : State, u.pau = s.pau → u.wishTarget (raiseWish l) = some height) ∧ (l ≠ [] → raiseWish l = .height height) := by
  have payload : ∀ l, s.operatorAsks b rest 0x28 l = true → b.frame.payload = l := fun l hl =>
    ((b.asks_iff _ _).1 ((s.operatorAsks_iff b rest _ _).1 hl).2.1).2
  obtain h | ⟨h, hopen, htarget⟩ := h
  · have hwish : raiseWish (beBytes 2 height) = .height height := by
      rw [raiseWish, if_pos (show (beBytes 2 height).length = 2 from rfl), field_beBytes_two hh]
    exact ⟨_, h, .inr rfl, payload _ h, fun u _ => by rw [hwish]; rfl, fun _ => hwish⟩
  · refine ⟨_, h, .inl rfl, payload _ h, fun u hu => ?_, fun hn => absurd rfl hn⟩
    show u.openingTarget = some height
    have hstate : ¬ u.opening.state = .none := by
      show ¬ u.pau.opening.state = .none
      rwa [hu]
    rw [State.openingTarget, if_neg hstate]
    show some (u.pau.opening.target.getD 0) = some height
    rw [hu, htarget]
    rfl

/-- RAISE SPAN where a condition fails (R63). -/
theorem execRaiseSpan_refuses {s : State} {b : Buffered} {rest : List Buffered} {height : Nat} (hh : height < 65536)
    (h : s.asksHeight b rest height) (hn : ¬(s.raiseHere ∧ s.raiseFree (min height s.act.hfull.toNat) ∧ s.calm)) :
    exec (.raiseSpan .operator) s = .next ((s.withAttendance s.refreshedTimer).answered .operator b rest 9 []) := by
  obtain ⟨l, hasks, hlen, -, hwish, -⟩ := State.asksHeight_payload hh h
  have hexec := execRaiseSpan_eq hasks hlen
  rw [State.raise_refuses (s := (s.popped .operator rest).withAttendance s.refreshedTimer) (hwish _ rfl) hn] at hexec
  exact hexec

theorem execRaiseSpan_unwished {s : State} {b : Buffered} {rest : List Buffered} (h : s.operatorAsks b rest 0x28 [] = true)
    (hh : s.raiseHere) (hd : ∀ f ∈ s.om.displaced, 2 < rank f) (ho : s.pau.opening.state = .none) :
    exec (.raiseSpan .operator) s = .next ((s.withAttendance s.refreshedTimer).answered .operator b rest 3 []) := by
  have hexec := execRaiseSpan_eq h (.inl rfl)
  have hwish : ((s.popped .operator rest).withAttendance s.refreshedTimer).wishTarget (raiseWish []) = none := if_pos ho
  rw [State.raise_unwished hwish hh hd] at hexec
  exact hexec

theorem State.retargeted_eq (s : State) (w : RaiseWish) (n : Nat) :
    s.retargeted w n = { s with pau := (s.retargeted w n).pau } := by
  unfold State.retargeted
  split <;> rfl

theorem RaiseStarts.of_eq {s s' t : State} (h : RaiseStarts s' t) (hm : s'.smc.motion = s.smc.motion)
    (h11 : s'.line 11 = s.line 11) (h13 : s'.line 13 = s.line 13) (ha : s'.act = s.act) : RaiseStarts s t := by
  rw [RaiseStarts, hm, h11, h13, ha] at h
  exact h

/-- RAISE SPAN where every condition holds (R62 to R65). -/
theorem execRaiseSpan_accepts {s : State} {b : Buffered} {rest : List Buffered} {height : Nat} (hh : height < 65536)
    (h : s.asksHeight b rest height) (hhere : s.raiseHere) (hfree : s.raiseFree (min height s.act.hfull.toNat)) (hc : s.calm) :
    Gives (exec (.raiseSpan .operator) s) fun t =>
      t.sp = (s.replied .operator b rest (s.replyWith .operator b 0 (decide (s.act.hfull.toNat < height)) [])).sp ∧
      t = { s with om := t.om, smc := t.smc, pg := t.pg, pau := t.pau, sp := t.sp } ∧
      t.smc.target = some (min height s.act.hfull.toNat) ∧
      (b.frame.payload ≠ [] → s.pau.opening.state ≠ .none → t.pau.opening.target = some (min height s.act.hfull.toNat)) ∧
      if s.smc.motion = .raising then
        t.smc = { (s.withAttendance s.refreshedTimer).smc with target := some (min height s.act.hfull.toNat) } ∧ t.om = s.om
      else RaiseStarts s t := by
  obtain ⟨l, hasks, hlen, hpayload, hwish, hheight⟩ := State.asksHeight_payload hh h
  have hexec := execRaiseSpan_eq hasks hlen
  obtain ⟨u, hu⟩ : ∃ u, u = (s.popped .operator rest).withAttendance s.refreshedTimer := ⟨_, rfl⟩
  have hact : u.act = s.act := by rw [hu]; rfl
  have haccept := State.raise_accepts (s := u) (hwish u (by rw [hu]; rfl)) (by rw [hu]; exact hhere) (by rw [hact, hu]; exact hfree)
    (by rw [hu]; exact hc)
  rw [hact] at haccept
  rw [← hu, haccept] at hexec
  generalize min height s.act.hfull.toNat = n at hexec ⊢
  have hretarget := u.retargeted_eq (raiseWish l) n
  have hand : l ≠ [] → s.pau.opening.state ≠ .none → (u.retargeted (raiseWish l) n).pau.opening.target = some n := fun hl hs => by
    rw [State.retargeted, hheight hl, if_pos ⟨rfl, by rw [hu]; exact hs⟩]
    rfl
  generalize u.retargeted (raiseWish l) n = v at hexec hretarget hand
  have accepted := v.acceptRaise_accepted n
  have hcalm : v.calm := by rw [hretarget, hu]; exact hc
  refine ⟨_, hexec, rfl, ?_, accepted.target, fun hp hs => ?_, ?_⟩
  · have hlive : (v.acceptRaise n).offLive = ({ s with sp := (s.popped .operator rest).sp } : State).offLive := by
      rw [accepted.rest, hretarget, hu]; rfl
    have hmfs : (v.acceptRaise n).mfs = s.mfs := by rw [accepted.mfs hcalm, hretarget, hu]; rfl
    have heq := State.offLive_eq hlive
    rw [hmfs] at heq
    exact congrArg (fun x => State.withPorts x _) heq
  · exact accepted.opening.trans (hand (by rwa [← hpayload]) hs)
  · split
    · next hr =>
      rw [State.acceptRaise_raising (by rw [hretarget, hu]; exact hr), hretarget, hu]
      exact ⟨rfl, rfl⟩
    · next hr =>
      have starts := (accepted.starts (by rw [hretarget, hu]; exact hr)).of_eq (s := s) (by rw [hretarget, hu]; rfl)
        (by rw [hretarget, hu]; rfl) (by rw [hretarget, hu]; rfl) (by rw [hretarget, hu]; rfl)
      exact starts

/-! ### The panel (R62, R63) -/

theorem State.deliverLine_39 (w : State) :
    w.deliverLine 39 = if w.line 39 = true ∧ w.line 36 = true then (w.raise .panel).2.2 else w := by
  simp only [← Bool.and_eq_true]
  rfl

/-- The target that the panel asks for: that of a live opening, and else Hfull. -/
def State.panelTarget (s : State) : Nat :=
  min (if s.pau.opening.state = .none then s.act.hfull.toNat else s.pau.opening.target.getD 0) s.act.hfull.toNat

theorem State.wishTarget_panel (s : State) :
    s.wishTarget .panel = some (if s.pau.opening.state = .none then s.act.hfull.toNat else s.pau.opening.target.getD 0) := by
  show some (s.openingTarget.getD s.act.hfull.toNat) = _
  have ho : s.openingTarget = if s.pau.opening.state = .none then none else some (s.pau.opening.target.getD 0) := rfl
  rw [ho]
  split <;> rfl

theorem State.raise_panel_accepts {s : State} (hh : s.raiseHere) (hf : s.raiseFree s.panelTarget) (hc : s.calm) :
    (s.raise .panel).2.2 = s.acceptRaise s.panelTarget := by
  rw [State.raise_accepts s.wishTarget_panel hh hf hc]
  rfl

theorem State.raise_panel_refuses {s : State} (h : ¬(s.raiseHere ∧ s.raiseFree s.panelTarget ∧ s.calm)) :
    (s.raise .panel).2.2 = s := by
  rw [State.raise_refuses s.wishTarget_panel h]

theorem LooksAgain.raiseFree {s t : State} (h : LooksAgain s t) (n : Nat) : t.raiseFree n ↔ s.raiseFree n := by
  rw [h.rest]; rfl

namespace Qualified

variable {s w : State} {b : Bool} (h : Qualified s 39 b w)
include h

theorem raiseHere : w.raiseHere ↔ s.raiseHere := by
  simp only [State.raiseHere, h.motion, h.stop]

theorem raiseFree (n : Nat) : w.raiseFree n ↔ s.raiseFree n := by
  have h31 : ({ s with iq := w.iq } : State).line 31 = s.line 31 := h.other 31 (by decide)
  have h32 : ({ s with iq := w.iq } : State).line 32 = s.line 32 := h.other 32 (by decide)
  rw [h.looks.raiseFree, State.raiseFree, State.raiseFree, h31, h32]
  rfl

theorem panelTarget : w.panelTarget = s.panelTarget := by
  rw [State.panelTarget, State.panelTarget, h.pau, h.act]

end Qualified

/-- SMC, the commands and the channel as a line's event that has no effect leaves them. -/
theorem Qualified.unmoved {s w : State} {l : Fin 48} {b : Bool} (h : Qualified s l b w) :
    w.smc = { s.smc with towers := w.smc.towers } ∧ (∀ v, (w.tower v).phase = (s.tower v).phase) ∧ w.pau = s.pau ∧
      w.pg = s.pg ∧ ∀ f, f ≠ 39 → w.cmd f = s.cmd f :=
  ⟨h.smc, h.stands.phase, h.pau, (congrArg State.pg h.looks.rest :), h.cmd⟩

/-- What leaves all but the blocks of a trip in that state leaves all but them and IQ in `s`. -/
theorem Qualified.live {s w t : State} {l : Fin 48} {b : Bool} (h : Qualified s l b w) (ht : t.offLive = w.offLive) :
    t = { s with iq := t.iq, om := t.om, smc := t.smc, pg := t.pg, pau := t.pau, mfs := t.mfs } := by
  have hx : t.offLive = ({ s with iq := w.iq } : State).offLive := ht.trans (congrArg State.offLive h.offDrive :)
  have hiq : t.iq = w.iq := (congrArg State.iq hx :)
  rw [← hiq] at hx
  exact State.offLive_eq hx

/-- The panel's RAISE: an accepted one is that of `acceptRaise`, and another has no effect. -/
theorem State.sample_line39 {s : State} {lines : BitVec 48} {level : Bool} (lamps : BitVec 15) (h : s.qualifies lines 39 level) :
    let t := s.sample lines lamps
    t = { s with iq := t.iq, om := t.om, smc := t.smc, pg := t.pg, pau := t.pau, mfs := t.mfs } ∧
      t.pau.opening.target = s.pau.opening.target ∧
      (level = true ∧ s.line 36 = true ∧ s.raiseHere ∧ s.raiseFree s.panelTarget ∧ t.calm →
        t.smc.target = some s.panelTarget ∧
          if s.smc.motion = .raising then t.smc = { s.smc with target := some s.panelTarget, towers := t.smc.towers }
          else RaiseStarts s t) ∧
      (¬(level = true ∧ s.line 36 = true ∧ s.raiseHere ∧ s.raiseFree s.panelTarget ∧ t.calm) →
        t.smc = { s.smc with towers := t.smc.towers } ∧ (∀ v, (t.tower v).phase = (s.tower v).phase) ∧ t.pau = s.pau ∧
          t.pg = s.pg ∧ ∀ f, f ≠ 39 → t.cmd f = s.cmd f) := by
  obtain ⟨w, hs, hw⟩ := State.sample_qualified lamps (by decide) (by decide) h
  have h36 : w.line 36 = s.line 36 := hw.other 36 (by decide)
  rw [State.deliverLine_39, hw.line, h36] at hs
  by_cases hgo : level = true ∧ s.line 36 = true ∧ s.raiseHere ∧ s.raiseFree s.panelTarget ∧ w.calm
  · obtain ⟨hlevel, hlocal, hhere, hfree, hcalm⟩ := hgo
    have haccept := State.raise_panel_accepts (hw.raiseHere.2 hhere)
      (by rw [hw.panelTarget]; exact (hw.raiseFree _).2 hfree) hcalm
    rw [if_pos ⟨hlevel, hlocal⟩, haccept, hw.panelTarget] at hs
    have accepted := w.acceptRaise_accepted s.panelTarget
    have hmfs := accepted.mfs hcalm
    intro t
    have ht : t = w.acceptRaise s.panelTarget := hs
    rw [ht]
    refine ⟨hw.live accepted.rest, by rw [accepted.opening, hw.pau], fun _ => ⟨accepted.target, ?_⟩,
      fun hn => absurd ⟨hlevel, hlocal, hhere, hfree, (State.calm_of_mfs hmfs).2 hcalm⟩ hn⟩
    split
    · next hr =>
      rw [State.acceptRaise_raising (hw.motion.trans hr), State.onSmc_smc, hw.smc]
    · next hr =>
      exact (accepted.starts (by rwa [hw.motion])).of_eq hw.motion (hw.other 11 (by decide)) (hw.other 13 (by decide)) hw.act
  · have hstays : s.sample lines lamps = w := by
      rw [hs]
      split
      · next hl =>
        refine State.raise_panel_refuses fun hall => hgo ⟨hl.1, hl.2, hw.raiseHere.1 hall.1, ?_, hall.2.2⟩
        rw [← hw.panelTarget]; exact (hw.raiseFree _).1 hall.2.1
      · rfl
    simp only [hstays]
    exact ⟨hw.live rfl, by rw [hw.pau], fun h => absurd h hgo, fun _ => hw.unmoved⟩

/-! ### The last lock withdrawn (R59, R60, R64) -/

theorem State.deliverLine_withdrawn {w : State} {l : Fin 48} (hl : l = 11 ∨ l = 13) (h : w.line l = true)
    (hm : w.smc.motion = .unlocking) :
    w.deliverLine l =
      let u := w.setCmd (if l = 11 then 9 else 11) false
      if w.bothWithdrawn = true then u.enterRaising else u := by
  have hlock : ∀ t : Tower, w.lockWithdrawn t =
      let u := w.setCmd (withdrawFn t) false
      if w.bothWithdrawn = true then u.enterRaising else u := fun t => by
    rw [State.lockWithdrawn, if_pos hm]; rfl
  rw [State.deliverLine_eq, h]
  obtain rfl | rfl := hl
  · exact hlock .a
  · exact hlock .b

theorem TowerStarted.raised {w : Tower} {s t : State} (h : TowerStarted true w s t) :
    if (s.tower w).reversal.any (fun v => v.blocked ≠ .lower) = true then (t.tower w).phase = .waitingReversal
    else (t.tower w).phase = .releasingBrake ∧ t.cmd (towerFn w 0) = true ∧
      (t.tower w).brakeTimer = some (2880 * s.act.tbrk.toNat) := by
  have hblocks : (fun v : Reversal => v.blocks true) = fun v => decide (v.blocked ≠ .lower) := funext fun v => by
    rw [Reversal.blocks]; cases v.blocked <;> rfl
  rw [TowerStarted, hblocks] at h
  exact h

/-- In UNLOCKING a lock that is withdrawn has its WITHDRAW turned off, and the last one starts the raise. -/
theorem State.sample_lockWithdrawn {s : State} {lines : BitVec 48} {l : Fin 48} (lamps : BitVec 15) (hl : l = 11 ∨ l = 13)
    (hm : s.smc.motion = .unlocking) (h : s.qualifies lines l true) :
    let t := s.sample lines lamps
    t = { s with iq := t.iq, om := t.om, smc := t.smc, mfs := t.mfs } ∧ t.cmd (if l = 11 then 9 else 11) = false ∧
      if t.line 11 = true ∧ t.line 13 = true then
        t.smc.motion = .raising ∧ t.smc.stop = .none ∧ t.smc.target = s.smc.target ∧ t.smc.lockTimer = none ∧
        t.cmd 9 = false ∧ t.cmd 11 = false ∧
        (∀ w, if (s.tower w).reversal.any (fun v => v.blocked ≠ .lower) = true then (t.tower w).phase = .waitingReversal
          else (t.tower w).phase = .releasingBrake ∧ t.cmd (towerFn w 0) = true ∧
            (t.tower w).brakeTimer = some (2880 * s.act.tbrk.toNat)) ∧
        t.smc.attendance = if t.line 36 = true ∧ t.line 38 = true then .standing
          else .counting (2880 * s.act.attendance.toNat)
      else
        t.smc = { s.smc with towers := t.smc.towers } ∧ (∀ w, (t.tower w).phase = (s.tower w).phase) ∧
        ∀ f, f ≠ 39 → f ≠ (if l = 11 then 9 else 11) → t.cmd f = s.cmd f := by
  obtain ⟨w, hs, hw⟩ := State.sample_qualified lamps (by omega) (by omega) h
  rw [State.deliverLine_withdrawn hl hw.line (hw.motion.trans hm)] at hs
  have hfn : (if l = 11 then 9 else 11 : Fin 40) = 9 ∨ (if l = 11 then 9 else 11 : Fin 40) = 11 := by
    obtain rfl | rfl := hl
    · exact .inl rfl
    · exact .inr rfl
  generalize (if l = 11 then 9 else 11 : Fin 40) = f at hs hfn ⊢
  have hiq : (s.sample lines lamps).iq = w.iq := by
    rw [hs]
    simp only []
    split
    · exact (congrArg State.iq (State.enterRaising_entered _).rest :)
    · rfl
  have hline : ∀ k, (s.sample lines lamps).line k = w.line k := fun k => by rw [State.line, State.line, hiq]
  have hboth := w.bothWithdrawn_iff
  rw [← hline, ← hline] at hboth
  intro t
  by_cases hb : w.bothWithdrawn = true
  · rw [if_pos (hboth.1 hb)]
    simp only [if_pos hb] at hs
    have raising := (w.setCmd f false).enterRaising_entered
    rw [← hs] at raising
    have hstops : t.cmd f = false := by
      obtain hf | hf := hfn <;> rw [hf]
      · exact raising.withdraw.1
      · exact raising.withdraw.2
    refine ⟨hw.rest raising.rest, hstops, by rw [raising.smc], by rw [raising.smc],
      by rw [raising.smc]; exact hw.looks.target, by rw [raising.smc], raising.withdraw.1, raising.withdraw.2, fun v => ?_, ?_⟩
    · have started := (raising.tower v).raised
      have hrev : ((w.setCmd f false).tower v).reversal = (s.tower v).reversal := by
        show (w.tower v).reversal = _
        rw [hw.stands.2 v]
      rw [hrev, show (w.setCmd f false).act = s.act from hw.act] at started
      exact started
    · rw [raising.smc, hline, hline]
      show (if w.line 36 = true ∧ w.line 38 = true then _ else AttendanceTimer.counting (2880 * w.act.attendance.toNat)) = _
      rw [hw.act]
  · rw [if_neg (mt hboth.2 hb)]
    simp only [if_neg hb] at hs
    have ht : t = w.setCmd f false := hs
    rw [ht]
    refine ⟨hw.rest rfl, by rw [State.cmd_setCmd, if_pos rfl], hw.smc, hw.stands.phase, fun g hg hne => ?_⟩
    rw [State.cmd_setCmd, if_neg hne.symm, hw.cmd g hg]

/-- Settles O22. -/
theorem raiseSpanStartsOrRefuses : Obligations.RaiseSpanStartsOrRefuses := by
  refine ⟨fun s b rest height hh => ?_, fun u lines lamps level h => ?_,
    fun s lines lamps l hl hm h => ⟨_, rfl, State.sample_lockWithdrawn lamps hl hm h⟩⟩
  · have hrefreshed := s.refreshed_eq
    refine ⟨fun ha hn => ?_, fun ha hhere hfree hc => ?_, fun ha hhere hd ho => ?_⟩
    · rw [hrefreshed]
      exact execRaiseSpan_refuses hh ha hn
    · rw [hrefreshed]
      exact execRaiseSpan_accepts hh ha hhere hfree hc
    · rw [hrefreshed]
      exact execRaiseSpan_unwished ha hhere hd ho
  · obtain ⟨hrest, htarget, hgoes, hstays⟩ := State.sample_line39 lamps h
    intro target
    refine ⟨_, rfl, hrest, htarget, ?_⟩
    split
    · next hgo => exact hgoes hgo
    · next hgo => exact hstays hgo

end Sys2Proof.Machine
end


section
/-! SUPPORT. A lowering: its conditions, and what an accepted one starts (R66 to R68). -/

namespace Sys2Proof.Machine

/-! ### The conditions (R66, R68) -/

/-- The conditions that a lowering and a locking share, but for the trip faults. -/
def State.lowerCalm (s : State) : Prop :=
  s.hasHold .noLower = false ∧ s.hasHold .noMotion = false ∧ s.mfs.supply.state ≠ .alert ∧ s.mfs.supply.state ≠ .clearPending ∧
    (∀ f ∈ s.om.displaced, 2 < rank f)

def State.onSeatLines (s : State) : Prop := s.line 1 = true ∧ s.line 6 = true

def State.withdrawnLines (s : State) : Prop := s.line 11 = true ∧ s.line 13 = true

/-- The conditions of R66's table that a locking does not share. -/
def State.lowerFree (s : State) : Prop :=
  s.rcs.road = .sealed ∧ s.pau.opening.state = .none ∧ s.membersIn .transiting = [] ∧ s.line 33 = true ∧ s.line 34 = true ∧
    s.withdrawnLines ∧ s.channelsValid

/-- A lowering asks to lock the span. -/
def State.locksHere (s : State) : Prop := s.smc.motion = .seated ∨ (s.smc.motion = .halted ∧ s.onSeatLines ∧ ¬s.withdrawnLines)

/-- A lowering asks to lower the span. -/
def State.lowersHere (s : State) : Prop := (s.smc.motion = .holding ∨ s.smc.motion = .halted) ∧ ¬s.locksHere

theorem State.lowerLocks_iff (s : State) : s.lowerLocks = true ↔ s.locksHere := by
  simp only [State.lowerLocks, State.locksHere, State.onSeatLines, State.withdrawnLines, Bool.or_eq_true, Bool.and_eq_true,
    Bool.not_eq_true', decide_eq_true_iff, ← s.seatsMade_iff, ← s.bothWithdrawn_iff, Bool.not_eq_true, and_assoc]

theorem State.mayLock_iff (s : State) :
    (s.motionDisplaced = false ∧ s.mayLock = true) ↔ s.onSeatLines ∧ s.lowerCalm ∧ s.calm := by
  simp only [State.mayLock, Bool.and_eq_true, Bool.not_eq_true', s.motionDisplaced_iff, s.seatsMade_iff, s.calm_iff,
    State.supplyAlert, Monitor.inAlert_iff, State.lowerCalm, State.onSeatLines]
  tauto

theorem State.mayLower_iff (s : State) :
    (s.motionDisplaced = false ∧ s.mayLower = true) ↔ s.lowerFree ∧ s.lowerCalm ∧ s.calm := by
  have hopen : s.opening.state = s.pau.opening.state := rfl
  simp only [State.mayLower, Bool.and_eq_true, Bool.not_eq_true', decide_eq_true_iff, s.motionDisplaced_iff, s.calm_iff,
    s.bothWithdrawn_iff, s.positionsValid_iff, State.supplyAlert, Monitor.inAlert_iff, State.lowerCalm, State.lowerFree,
    State.withdrawnLines, State.beamsClear, List.isEmpty_iff, hopen]
  tauto

/-! ### SEATING from rest (R67) -/

/-- What an entry to SEATING, and the LOCKING that may follow, makes of the state. -/
structure SeatingEntered (s t : State) : Prop where
  motion : t.smc.motion ∈ [Motion.seating, .locking, .seatedLocked, .seated]
  target : t.smc.target = none
  rest : t = { s with om := t.om, smc := t.smc }

theorem SeatingEntered.towers {s u v : State} (h : SeatingEntered s u) (hv : v = { u with om := v.om, smc := v.smc })
    (hm : v.smc = { u.smc with attendance := v.smc.attendance, towers := v.smc.towers }) : SeatingEntered s v := by
  refine ⟨?_, ?_, ?_⟩
  · rw [hm]; exact h.motion
  · rw [hm]; exact h.target
  · rw [hv, h.rest]

theorem State.stopTower_rest (s : State) (w : Tower) :
    s.stopTower w = { s with om := (s.stopTower w).om, smc := (s.stopTower w).smc } := by
  unfold State.stopTower
  split <;> rfl

theorem State.seatTower_rest (s : State) (w : Tower) :
    s.seatTower w = { s with om := (s.seatTower w).om, smc := (s.seatTower w).smc } ∧
      (s.seatTower w).smc = { s.smc with towers := (s.seatTower w).smc.towers } := by
  unfold State.seatTower
  split
  · exact ⟨rfl, rfl⟩
  · refine ⟨?_, ?_⟩
    · simp only []
      rw [State.stopTower_rest]
      rfl
    · simp only []
      rw [(State.stopTower_moves _ w).smc]
      rfl

theorem SeatingEntered.seatIfMade {s u : State} (h : SeatingEntered s u) (w : Tower) : SeatingEntered s (u.seatIfMade w) := by
  unfold State.seatIfMade
  split
  · obtain ⟨hrest, hsmc⟩ := u.seatTower_rest w
    exact h.towers hrest (by rw [hsmc])
  · exact h

theorem SeatingEntered.startUnseated {s u : State} (h : SeatingEntered s u) (w : Tower) :
    SeatingEntered s (if (u.tower w).seated = true then u else u.startTower false w) := by
  split
  · exact h
  · have kept := u.startTower_kept false w
    exact h.towers kept.rest (by rw [kept.smc])

theorem SeatingEntered.checkSeated {s u : State} (h : SeatingEntered s u) : SeatingEntered s u.checkSeated := by
  unfold State.checkSeated
  simp only []
  split
  · split
    · have hsmc := (u.onSmc fun m => { m with seatTimer := none }).enterLocking_smc
      have hrest := (u.onSmc fun m => { m with seatTimer := none }).enterLocking_rest
      refine ⟨?_, by rw [hsmc]; exact h.target, by rw [hrest, h.rest]; rfl⟩
      rw [hsmc]
      show (if _ then if _ then Motion.seatedLocked else .seated else .locking) ∈ _
      split
      · split <;> simp
      · simp
    · exact ⟨h.motion, h.target, by rw [h.rest]; rfl⟩
  · exact h

theorem State.enterSeating_entered (s : State) : SeatingEntered s (s.enterSeating true) := by
  have entered : SeatingEntered s (s.onSmc fun m =>
    { m with motion := .seating, target := none, seatTimer := startTimer (secTicks s.act.seatTime)
             towers := { a := { m.towers.a with seated := false }, b := { m.towers.b with seated := false } } }) :=
    ⟨by simp, rfl, rfl⟩
  have started := (((entered.seatIfMade .a).seatIfMade .b).startUnseated .a).startUnseated .b
  exact (started.towers (v := State.setAttendance _) rfl rfl).checkSeated

end Sys2Proof.Machine
end


section
/-! LOWER SPAN and the panel LOWER (R66 to R68). -/

namespace Sys2Proof.Machine

/-! ### What a lowering does -/

/-- What an accepted lowering starts (R66, R67). -/
def Lowered (s t : State) : Prop :=
  t.smc.target = none ∧
    if s.act.ztol < s.spanHeight then t.smc.motion = .lowering ∧ t.smc.stop = .none
    else t.smc.motion ∈ [Motion.seating, .locking, .seatedLocked, .seated]

/-- What an accepted locking starts (R68). -/
def Locked (s t : State) : Prop :=
  if s.line 12 = true ∧ s.line 14 = true then t.smc.motion = .seatedLocked ∧ t.cmd 8 = false ∧ t.cmd 10 = false
  else
    t.smc.motion = .locking ∧ (t.cmd 8 = !s.line 12) ∧ (t.cmd 10 = !s.line 14) ∧
      t.smc.lockTimer = some (2880000 * s.act.lockTravel.toNat)

theorem Lowered.of_eq {s s' t : State} (h : Lowered s' t) (ha : s'.act = s.act) (hh : s'.spanHeight = s.spanHeight) :
    Lowered s t := by
  rwa [Lowered, ha, hh] at h

theorem Locked.of_eq {s s' t : State} (h : Locked s' t) (h12 : s'.line 12 = s.line 12) (h14 : s'.line 14 = s.line 14)
    (ha : s'.act = s.act) : Locked s t := by
  rwa [Locked, h12, h14, ha] at h

/-- From `s` to `t` a lowering has been accepted. -/
structure LowerAccepted (s t : State) : Prop where
  lowered : Lowered s t
  rest : t.offDrive = s.offDrive
  mfs : t.mfs = s.mfs

/-- LOWERING above Ztol, and else SEATING (R66). -/
def State.lowerStart (s : State) : State := if s.act.ztol < s.spanHeight then s.enterLowering else (s.enterSeating true).compare

theorem State.lowerStart_accepted {s : State} (h : s.calm) : LowerAccepted s s.lowerStart := by
  unfold State.lowerStart
  split
  · next hz =>
    have lowering := s.enterLowering_entered
    refine ⟨⟨lowering.target, ?_⟩, lowering.rest, lowering.mfs h⟩
    rw [if_pos hz]
    exact ⟨lowering.motion, lowering.stop⟩
  · next hz =>
    have seating := s.enterSeating_entered
    have look := (s.enterSeating true).compare_looks
    have hmfs : (s.enterSeating true).mfs = s.mfs := by rw [seating.rest]
    have hoff : (s.enterSeating true).offDrive = s.offDrive := by rw [seating.rest]; rfl
    refine ⟨⟨look.target.trans seating.target, ?_⟩, look.offDrive.trans hoff,
      (State.compare_mfs ((State.calm_of_mfs hmfs).2 h)).trans hmfs⟩
    rw [if_neg hz, look.motion]
    exact seating.motion

/-- Where the conditions of R66 hold the span lowers or seats. An opening that is not live has no channel to close. -/
theorem State.lower_lowers {s : State} (h : s.lowersHere) (hf : s.lowerFree) (hl : s.lowerCalm) (hc : s.calm) :
    s.lower = (.ok, s.lowerStart) := by
  obtain ⟨hd, hm⟩ := s.mayLower_iff.2 ⟨hf, hl, hc⟩
  have hopen : s.pau.opening.state = .none := hf.2.1
  have hpau : s.lowerStart.pau = s.pau := (congrArg State.pau (State.lowerStart_accepted hc).rest :)
  have hstays : s.lowerStart.holdingLeft = s.lowerStart := State.holdingLeft_stays (by rw [hpau, hopen]; decide)
  have hlower : s.lower = (.ok, if s.smc.motion = .holding then s.lowerStart.holdingLeft else s.lowerStart) := by
    have hgo : ((s.smc.motion = .holding || s.smc.motion = .halted) && s.mayLower) = true := by
      obtain ⟨h | h, -⟩ := h <;> simp [h, hm]
    have hlocks : ¬ s.lowerLocks = true := mt s.lowerLocks_iff.1 h.2
    rw [State.lower, if_neg (by simp [hd]), if_neg hlocks, if_pos hgo]
    rfl
  rw [hlower, hstays, ite_self]

theorem State.lower_locks {s : State} (h : s.locksHere) (hs : s.onSeatLines) (hl : s.lowerCalm) (hc : s.calm) :
    s.lower = (.ok, s.enterLocking) := by
  obtain ⟨hd, hm⟩ := s.mayLock_iff.2 ⟨hs, hl, hc⟩
  rw [State.lower, if_neg (by simp [hd]), if_pos (s.lowerLocks_iff.2 h), if_pos hm]

theorem State.lower_refuses {s : State} (hk : ¬(s.locksHere ∧ s.onSeatLines ∧ s.lowerCalm ∧ s.calm))
    (hl : ¬(s.lowersHere ∧ s.lowerFree ∧ s.lowerCalm ∧ s.calm)) : s.lower = (.notNow, s) := by
  unfold State.lower
  split
  · rfl
  · next hd =>
    have hd' : s.motionDisplaced = false := by simpa using hd
    split
    · next hlocks =>
      rw [if_neg fun hm => hk ⟨s.lowerLocks_iff.1 hlocks, s.mayLock_iff.1 ⟨hd', hm⟩⟩]
    · next hlocks =>
      refine if_neg fun hgo => ?_
      simp only [Bool.and_eq_true, Bool.or_eq_true, decide_eq_true_iff] at hgo
      exact hl ⟨⟨hgo.1, mt s.lowerLocks_iff.2 hlocks⟩, s.mayLower_iff.1 ⟨hd', hgo.2⟩⟩

theorem State.enterLocking_locked {s : State} (h : s.onSeatLines) : Locked s s.enterLocking := by
  have locks := s.enterLocking_entered.locks
  unfold Locked
  split
  · next hd =>
    rw [if_pos hd] at locks
    exact ⟨locks.1.trans (if_pos h), locks.2.1, locks.2.2.1⟩
  · next hd => rwa [if_neg hd] at locks

/-! ### The request (R66, R68, R70) -/

/-- LOWER SPAN lowers the state that its frame has left, its attendance refreshed, and answers what the lowering answers. -/
theorem execLowerSpan_eq {s : State} {b : Buffered} {rest : List Buffered} (h : s.operatorAsks b rest 0x29 [] = true) :
    let r := ((s.popped .operator rest).withAttendance s.refreshedTimer).lower
    exec (.lowerSpan .operator) s = .next (r.2.withPorts (s.answered .operator b rest r.1.ctorIdx []).sp) := by
  obtain ⟨hoffers, hasks, hconf, hlocal⟩ := (s.operatorAsks_iff b rest _ _).1 h
  obtain ⟨hkind, hpayload⟩ := (b.asks_iff _ _).1 hasks
  have hrow : takeCommand .operator b.frame = .lowerSpan .operator := by
    simp [takeCommand, State.not_dropped hoffers (by omega), hkind]
  have hscreen : s.screen .operator b.frame = none :=
    State.screen_operator (r := remoteRow [0]) (by rw [hkind]; rfl) (by simp [hpayload, remoteRow]) hconf (.inl hlocal)
  have hrefresh : (s.popped .operator rest).refreshAttendance = (s.popped .operator rest).withAttendance s.refreshedTimer :=
    State.refreshAttendance_eq (s := s.popped .operator rest) hlocal
  have howner : State.ownLowerSpan b.frame (s.popped .operator rest) =
      (let r := ((s.popped .operator rest).withAttendance s.refreshedTimer).lower
       (.plain r.1, r.2)) := by
    rw [← hrefresh]; rfl
  have hstores : (((s.popped .operator rest).withAttendance s.refreshedTimer).lower).2.stores =
      (s.popped .operator rest).stores := State.lower_stores _
  exact congrArg Host.Outcome.next (State.takeRequest_answered State.ownLowerSpan hoffers hrow hscreen howner hstores rfl rfl)

section
variable {s : State} {b : Buffered} {rest : List Buffered} (h : s.operatorAsks b rest 0x29 [] = true)
include h

theorem execLowerSpan_refuses (hk : ¬(s.locksHere ∧ s.onSeatLines ∧ s.lowerCalm ∧ s.calm))
    (hl : ¬(s.lowersHere ∧ s.lowerFree ∧ s.lowerCalm ∧ s.calm)) :
    exec (.lowerSpan .operator) s = .next ((s.withAttendance s.refreshedTimer).answered .operator b rest 9 []) := by
  have hexec := execLowerSpan_eq h
  rw [State.lower_refuses (s := (s.popped .operator rest).withAttendance s.refreshedTimer) hk hl] at hexec
  exact hexec

theorem execLowerSpan_lowers (hh : s.lowersHere) (hf : s.lowerFree) (hl : s.lowerCalm) (hc : s.calm) :
    Gives (exec (.lowerSpan .operator) s) fun t =>
      t = { s with om := t.om, smc := t.smc, pg := t.pg, pau := t.pau, sp := (s.answered .operator b rest 0 []).sp } ∧
        Lowered s t := by
  have hexec := execLowerSpan_eq h
  obtain ⟨u, hu⟩ : ∃ u, u = (s.popped .operator rest).withAttendance s.refreshedTimer := ⟨_, rfl⟩
  have hcalm : u.calm := by rw [hu]; exact hc
  rw [← hu, State.lower_lowers (s := u) (by rw [hu]; exact hh) (by rw [hu]; exact hf) (by rw [hu]; exact hl) hcalm] at hexec
  have accepted := State.lowerStart_accepted hcalm
  refine ⟨_, hexec, ?_, accepted.lowered.of_eq (by rw [hu]; rfl) (by rw [hu]; rfl)⟩
  have hoff : u.lowerStart.offDrive = ({ s with sp := (s.popped .operator rest).sp } : State).offDrive := by
    rw [accepted.rest, hu]; rfl
  have hpau : u.lowerStart.pau = s.pau := (congrArg State.pau hoff :)
  have hpg : u.lowerStart.pg = s.pg := (congrArg State.pg hoff :)
  have hmfs : u.lowerStart.mfs = s.mfs := by rw [accepted.mfs, hu]; rfl
  have heq := State.offDrive_eq hoff
  rw [hmfs] at heq
  rw [← hpau, ← hpg] at heq
  exact congrArg (fun x => State.withPorts x _) heq

theorem execLowerSpan_locks (hk : s.locksHere) (hs : s.onSeatLines) (hl : s.lowerCalm) (hc : s.calm) :
    Gives (exec (.lowerSpan .operator) s) fun t =>
      t = { s with smc := t.smc, om := t.om, sp := (s.answered .operator b rest 0 []).sp } ∧ Locked s t := by
  have hexec := execLowerSpan_eq h
  rw [State.lower_locks (s := (s.popped .operator rest).withAttendance s.refreshedTimer) hk hs hl hc] at hexec
  refine ⟨_, hexec, congrArg (fun x => State.withPorts x _) (State.enterLocking_rest _), ?_⟩
  exact State.enterLocking_locked (s := (s.popped .operator rest).withAttendance s.refreshedTimer) hs

end

/-! ### The panel (R66, R68) -/

theorem State.deliverLine_40 (w : State) :
    w.deliverLine 40 = if w.line 40 = true ∧ w.line 36 = true then w.lower.2 else w := by
  simp only [← Bool.and_eq_true]
  rfl

namespace Qualified

variable {s w : State} {b : Bool} (h : Qualified s 40 b w)
include h

theorem onSeatLines : w.onSeatLines ↔ s.onSeatLines := by
  rw [State.onSeatLines, State.onSeatLines, h.other 1 (by decide), h.other 6 (by decide)]

theorem withdrawnLines : w.withdrawnLines ↔ s.withdrawnLines := by
  rw [State.withdrawnLines, State.withdrawnLines, h.other 11 (by decide), h.other 13 (by decide)]

theorem locksHere : w.locksHere ↔ s.locksHere := by
  rw [State.locksHere, State.locksHere, h.motion, h.onSeatLines, h.withdrawnLines]

theorem lowersHere : w.lowersHere ↔ s.lowersHere := by
  rw [State.lowersHere, State.lowersHere, h.motion, h.locksHere]

theorem lowerCalm : w.lowerCalm ↔ s.lowerCalm := by
  rw [h.looks.rest]; rfl

theorem channelsValid : w.channelsValid ↔ s.channelsValid := by
  rw [h.looks.rest]; rfl

theorem lowerFree : w.lowerFree ↔ s.lowerFree := by
  have hrcs : w.rcs = s.rcs := by rw [h.looks.rest]
  have hmembers : w.membersIn .transiting = s.membersIn .transiting := by rw [h.looks.rest]; rfl
  rw [State.lowerFree, State.lowerFree, hrcs, h.pau, hmembers, h.other 33 (by decide), h.other 34 (by decide), h.withdrawnLines,
    h.channelsValid]

theorem spanHeight : w.spanHeight = s.spanHeight := by
  rw [h.looks.rest]; rfl

end Qualified

/-- The panel's LOWER is pressed in LOCAL where the conditions of a lowering and of a locking hold. -/
def State.panelLowers (s t : State) (level : Bool) : Prop := level = true ∧ s.line 36 = true ∧ s.lowerCalm ∧ t.calm

/-- The panel's LOWER: it lowers, it locks, or it has no effect. -/
theorem State.sample_line40 {s : State} {lines : BitVec 48} {level : Bool} (lamps : BitVec 15) (h : s.qualifies lines 40 level) :
    let t := s.sample lines lamps
    t = { s with iq := t.iq, om := t.om, smc := t.smc, pg := t.pg, pau := t.pau, mfs := t.mfs } ∧
      (s.panelLowers t level → s.lowersHere → s.lowerFree → Lowered s t) ∧
      (s.panelLowers t level → s.locksHere → s.onSeatLines → Locked s t ∧ t.pau = s.pau ∧ t.pg = s.pg) ∧
      (¬(s.panelLowers t level ∧ s.lowersHere ∧ s.lowerFree) → ¬(s.panelLowers t level ∧ s.locksHere ∧ s.onSeatLines) →
        t.smc = { s.smc with towers := t.smc.towers } ∧ (∀ v, (t.tower v).phase = (s.tower v).phase) ∧ t.pau = s.pau ∧
          t.pg = s.pg ∧ ∀ f, f ≠ 39 → t.cmd f = s.cmd f) := by
  obtain ⟨w, hs, hw⟩ := State.sample_qualified lamps (by decide) (by decide) h
  have h36 : w.line 36 = s.line 36 := hw.other 36 (by decide)
  rw [State.deliverLine_40, hw.line, h36] at hs
  intro t
  have ht : t = _ := hs
  by_cases hlow : s.panelLowers w level ∧ s.lowersHere ∧ s.lowerFree
  · obtain ⟨hgo, hhere, hfree⟩ := hlow
    obtain ⟨hlevel, hlocal, hcalm, hclear⟩ := hgo
    have hlower : w.lower.2 = w.lowerStart :=
      congrArg Prod.snd (State.lower_lowers (hw.lowersHere.2 hhere) (hw.lowerFree.2 hfree) (hw.lowerCalm.2 hcalm) hclear)
    rw [if_pos ⟨hlevel, hlocal⟩, hlower] at ht
    have accepted := State.lowerStart_accepted hclear
    rw [← ht] at accepted
    have hgo : s.panelLowers t level := ⟨hlevel, hlocal, hcalm, (State.calm_of_mfs accepted.mfs).2 hclear⟩
    exact ⟨hw.live (congrArg State.offLive accepted.rest :), fun _ _ _ => accepted.lowered.of_eq hw.act hw.spanHeight,
      fun _ hk => absurd hk hhere.2, fun hn => absurd ⟨hgo, hhere, hfree⟩ hn⟩
  · by_cases hlock : s.panelLowers w level ∧ s.locksHere ∧ s.onSeatLines
    · obtain ⟨hgo, hhere, hseats⟩ := hlock
      obtain ⟨hlevel, hlocal, hcalm, hclear⟩ := hgo
      have hlower : w.lower.2 = w.enterLocking :=
        congrArg Prod.snd (State.lower_locks (hw.locksHere.2 hhere) (hw.onSeatLines.2 hseats) (hw.lowerCalm.2 hcalm) hclear)
      rw [if_pos ⟨hlevel, hlocal⟩, hlower] at ht
      have locked := State.enterLocking_locked (hw.onSeatLines.2 hseats)
      have hrest := w.enterLocking_rest
      rw [← ht] at locked hrest
      have hgo : s.panelLowers t level := ⟨hlevel, hlocal, hcalm, (State.calm_of_mfs (by rw [hrest])).2 hclear⟩
      refine ⟨hw.live (by rw [hrest]; rfl), fun _ hl => absurd hhere hl.2, fun _ _ _ => ?_,
        fun _ hn => absurd ⟨hgo, hhere, hseats⟩ hn⟩
      refine ⟨locked.of_eq (hw.other 12 (by decide)) (hw.other 14 (by decide)) hw.act, ?_, ?_⟩
      · rw [hrest]; exact hw.pau
      · rw [hrest]; exact (congrArg State.pg hw.looks.rest :)
    · have hstays : t = w := by
        rw [ht]
        split
        · next hl =>
          refine congrArg Prod.snd (State.lower_refuses ?_ ?_)
          · rintro ⟨hk, hseats, hcalm, hclear⟩
            exact hlock ⟨⟨hl.1, hl.2, hw.lowerCalm.1 hcalm, hclear⟩, hw.locksHere.1 hk, hw.onSeatLines.1 hseats⟩
          · rintro ⟨hhere, hfree, hcalm, hclear⟩
            exact hlow ⟨⟨hl.1, hl.2, hw.lowerCalm.1 hcalm, hclear⟩, hw.lowersHere.1 hhere, hw.lowerFree.1 hfree⟩
        · rfl
      rw [hstays]
      exact ⟨hw.live rfl, fun hgo hh hf => absurd ⟨hgo, hh, hf⟩ hlow, fun hgo hh hf => absurd ⟨hgo, hh, hf⟩ hlock,
        fun _ _ => hw.unmoved⟩

end Sys2Proof.Machine
end


section
/-! The driven locks, the seats and SEATED_LOCKED (R51, R67 to R69). -/

namespace Sys2Proof.Machine

/-! ### The locks that are driven (R68) -/

theorem State.finishLocking_locking {s : State} (h : s.smc.motion = .locking) :
    s.finishLocking =
      if s.bothDriven = true then
        ((s.setCmd 8 false).setCmd 10 false).onSmc fun m =>
          { m with motion := if s.seatsMade = true then .seatedLocked else .seated, lockTimer := none }
      else s := by
  simp only [State.finishLocking, h, decide_true, Bool.true_and]

theorem State.deliverLine_driven {w : State} {l : Fin 48} (hl : l = 12 ∨ l = 14) (h : w.line l = true)
    (hm : w.smc.motion = .locking) : w.deliverLine l = (w.setCmd (if l = 12 then 8 else 10) false).finishLocking := by
  have hlock : ∀ t : Tower, w.lockDriven t = (w.setCmd (driveFn t) false).finishLocking := fun t => if_pos hm
  rw [State.deliverLine_eq, h]
  obtain rfl | rfl := hl
  · exact hlock .a
  · exact hlock .b

/-- In LOCKING a lock that is driven has its DRIVE turned off, and the last one ends the state. -/
theorem State.sample_lockDriven {s : State} {lines : BitVec 48} {l : Fin 48} (lamps : BitVec 15) (hl : l = 12 ∨ l = 14)
    (hm : s.smc.motion = .locking) (h : s.qualifies lines l true) :
    let t := s.sample lines lamps
    t = { s with iq := t.iq, om := t.om, smc := t.smc, mfs := t.mfs } ∧ t.cmd (if l = 12 then 8 else 10) = false ∧
      if t.line 12 = true ∧ t.line 14 = true then
        t.smc = { s.smc with motion := if t.line 1 = true ∧ t.line 6 = true then .seatedLocked else .seated
                             lockTimer := none, towers := t.smc.towers } ∧ t.cmd 8 = false ∧ t.cmd 10 = false
      else t.smc = { s.smc with towers := t.smc.towers } := by
  obtain ⟨w, hs, hw⟩ := State.sample_qualified lamps (by omega) (by omega) h
  have hfn : (if l = 12 then 8 else 10 : Fin 40) = 8 ∨ (if l = 12 then 8 else 10 : Fin 40) = 10 := by
    obtain rfl | rfl := hl
    · exact .inl rfl
    · exact .inr rfl
  rw [State.deliverLine_driven hl hw.line (hw.motion.trans hm)] at hs
  generalize (if l = 12 then 8 else 10 : Fin 40) = f at hs hfn ⊢
  rw [State.finishLocking_locking (s := w.setCmd f false) (hw.motion.trans hm)] at hs
  have hdriven : (w.setCmd f false).bothDriven = true ↔ w.line 12 = true ∧ w.line 14 = true := w.bothDriven_iff
  have hseats : (w.setCmd f false).seatsMade = true ↔ w.line 1 = true ∧ w.line 6 = true := w.seatsMade_iff
  intro t
  have ht : t = _ := hs
  by_cases hb : w.line 12 = true ∧ w.line 14 = true
  · rw [if_pos (hdriven.2 hb)] at ht
    have hline : ∀ k, t.line k = w.line k := fun k => by rw [ht]; rfl
    have hoff : ∀ g : Fin 40, g = 8 ∨ g = 10 → t.cmd g = false := fun g hg => by
      have hcmd : t.cmd g = (((w.setCmd f false).setCmd 8 false).setCmd 10 false).cmd g := by rw [ht]; rfl
      rw [hcmd, State.setCmd_off_two, if_pos hg]
    have hsmc : t.smc = { w.smc with
        motion := if (w.setCmd f false).seatsMade = true then .seatedLocked else .seated, lockTimer := none } := by
      rw [ht]; rfl
    rw [hline, hline, hline, hline, if_pos hb]
    refine ⟨hw.rest (t := t) (by rw [ht]; rfl), hoff f hfn, ?_, hoff 8 (.inl rfl), hoff 10 (.inr rfl)⟩
    rw [hsmc]
    simp only [hseats]
    rw [hw.smc]
  · rw [if_neg (mt hdriven.1 hb)] at ht
    rw [ht, if_neg (show ¬((w.setCmd f false).line 12 = true ∧ (w.setCmd f false).line 14 = true) from hb)]
    exact ⟨hw.rest rfl, by rw [State.cmd_setCmd, if_pos rfl], hw.smc⟩

/-! ### SEATED_LOCKED lost (R69) -/

theorem State.deliverLine_seatedLocked {w : State} {l : Fin 48} (hl : l = 1 ∨ l = 6 ∨ l = 12 ∨ l = 14)
    (hm : w.smc.motion = .seatedLocked) :
    w.deliverLine l = if w.line l = true then w else w.onSmc fun m => { m with motion := .seated } := by
  have hseating : ¬ w.smc.motion = .seating := by rw [hm]; decide
  have hlocking : ¬ w.smc.motion = .locking := by rw [hm]; decide
  have hlost : w.seatedLockedLost = w.onSmc fun m => { m with motion := .seated } := if_pos hm
  have hseat : ∀ t b, w.seatEvent t b = if b = true then w else w.onSmc fun m => { m with motion := .seated } := fun t b => by
    rw [State.seatEvent, if_neg hseating, hlost]
  have hdriven : ∀ t b, (if b = true then w.lockDriven t else w.seatedLockedLost) =
      if b = true then w else w.onSmc fun m => { m with motion := .seated } := fun t b => by
    rw [State.lockDriven, if_neg hlocking, hlost]
  rw [State.deliverLine_eq]
  obtain rfl | rfl | rfl | rfl := hl
  · exact hseat .a _
  · exact hseat .b _
  · exact hdriven .a _
  · exact hdriven .b _

theorem State.sample_seatedLocked {s : State} {lines : BitVec 48} {l : Fin 48} {level : Bool} (lamps : BitVec 15)
    (hl : l = 1 ∨ l = 6 ∨ l = 12 ∨ l = 14) (hm : s.smc.motion = .seatedLocked) (h : s.qualifies lines l level) :
    let t := s.sample lines lamps
    t = { s with iq := t.iq, om := t.om, smc := t.smc, mfs := t.mfs } ∧ (∀ f, f ≠ 39 → t.cmd f = s.cmd f) ∧
      t.smc = { s.smc with motion := if level then .seatedLocked else .seated, towers := t.smc.towers } := by
  obtain ⟨w, hs, hw⟩ := State.sample_qualified lamps (by omega) (by omega) h
  rw [State.deliverLine_seatedLocked hl (hw.motion.trans hm), hw.line] at hs
  simp only [hs]
  cases level
  · exact ⟨hw.rest rfl, hw.cmd, by rw [if_neg Bool.false_ne_true, State.onSmc_smc, hw.smc]; rfl⟩
  · exact ⟨hw.rest rfl, hw.cmd, by rw [if_pos rfl, if_pos rfl, ← hm]; exact hw.smc⟩

/-! ### A seat that is made (R51, R67) -/

theorem limitRef_zero {c : Settings} (h : 0 ≤ c.racc) (live : Nat) : limitRef c live 0 = live - (max c.racc c.rdec).toNat := by
  rw [limitRef, clampInt]
  omega

/-- What the seat event of a tower that was not seated makes of the towers' duties. -/
theorem State.seatTower_speed {s : State} {w : Tower} (h : (s.tower w).seated = false) :
    ((s.tower w).phase = .running → 0 ≤ s.act.racc →
        ((s.seatTower w).om.speed.get w).staged = (s.om.speed.get w).live - (max s.act.racc s.act.rdec).toNat) ∧
      ∀ v, w ≠ v → (s.seatTower w).om.speed.get v = s.om.speed.get v := by
  obtain ⟨u, hu⟩ : ∃ u, u = s.setTower w { s.tower w with seated := true } := ⟨_, rfl⟩
  have heq : s.seatTower w = (u.stage w (u.reference w 0)).stopTower w := by
    rw [State.seatTower, if_neg (by simp [h]), hu]
  have hphase : (u.tower w).phase = (s.tower w).phase := by rw [hu, State.setTower_same]
  have hspeed : u.om.speed = s.om.speed := by rw [hu]; rfl
  rw [heq]
  refine ⟨fun hp ha => ?_, fun v hv => ?_⟩
  · have href : u.reference w 0 = (s.om.speed.get w).live - (max s.act.racc s.act.rdec).toNat := by
      rw [← limitRef_zero ha, State.reference, hphase, hp, hspeed]
      simp only []
      rw [hu]; rfl
    have hrun : ((u.stage w (u.reference w 0)).tower w).phase = .running := hphase.trans hp
    rw [State.stopTower, hrun, href]
    simp [State.stage]
  · have hstage : (u.stage w (u.reference w 0)).om.speed.get v = s.om.speed.get v := by
      rw [← hspeed]; simp [State.stage, hv]
    rw [← hstage, State.stopTower]
    split
    case h_2 => simp [State.setBrake, State.stage, hv]
    all_goals rfl

/-- The test of the seats (R67): it leaves the duties alone; with both towers seated the seat timer stops, and with both at rest
under no stop LOCKING follows. -/
theorem State.checkSeated_spec {s : State} (hm : s.smc.motion = .seating) :
    s.checkSeated = { s with om := s.checkSeated.om, smc := s.checkSeated.smc } ∧ s.checkSeated.om.speed = s.om.speed ∧
      (s.bothSeated = true → s.checkSeated.smc.seatTimer = none ∧
        (s.smc.stop = .none → s.bothAtRest = true →
          s.checkSeated.smc.motion ∈ [Motion.locking, .seatedLocked, .seated] ∧ s.checkSeated.smc.attendance = .stopped)) ∧
      (¬ s.bothSeated = true → s.checkSeated = s) := by
  by_cases hb : s.bothSeated = true
  · obtain ⟨u, hu⟩ : ∃ u, u = s.onSmc fun m => { m with seatTimer := none } := ⟨_, rfl⟩
    have hcheck : s.checkSeated = if s.bothAtRest = true ∧ s.smc.stop = .none then u.enterLocking else u := by
      rw [hu]
      simp only [State.checkSeated, hm, hb, decide_true, Bool.and_self, if_true, Bool.and_eq_true, decide_eq_true_iff]
      rfl
    rw [hcheck]
    split
    · obtain ⟨hmotion, -, htimer, -, hspeed, -, -⟩ := u.enterLocking_spec
      have hrest := u.enterLocking_rest
      have hatt := u.enterLocking_entered.attendance
      rw [hu] at hrest hspeed ⊢
      exact ⟨hrest, hspeed, fun _ => ⟨by rwa [hu] at htimer, fun _ _ => ⟨by rwa [hu] at hmotion, by rwa [hu] at hatt⟩⟩,
        fun hn => absurd hb hn⟩
    · next hn =>
      rw [hu]
      exact ⟨rfl, rfl, fun _ => ⟨rfl, fun hs hr => absurd ⟨hr, hs⟩ hn⟩, fun hn => absurd hb hn⟩
  · have hstays := State.checkSeated_stays (s := s) fun hh => hb hh.2
    exact ⟨by rw [hstays], by rw [hstays], fun h => absurd h hb, fun _ => hstays⟩

theorem State.deliverLine_seat {q : State} (w : Tower) (h : q.line (towerLine w 0) = true) (hm : q.smc.motion = .seating) :
    q.deliverLine (towerLine w 0) = ((q.seatTower w).checkSeated).compare := by
  have hseat : q.seatEvent w true = ((q.seatTower w).checkSeated).compare := if_pos hm
  rw [State.deliverLine_eq, h]
  cases w <;> exact hseat

/-- The tower's seat event in SEATING, from the state in which it is delivered. -/
structure SeatTaken (w : Tower) (s t : State) : Prop where
  rest : t.offDrive = s.offDrive
  seated : (t.tower w).seated = true
  phase : (t.tower w).phase = (s.tower w).phase.stopped
  staged : (s.tower w).phase = .running → 0 ≤ s.act.racc →
    (t.om.speed.get w).staged = (s.om.speed.get w).live - (max s.act.racc s.act.rdec).toNat
  other : ∀ v, v ≠ w → (t.tower v).phase = (s.tower v).phase ∧ (t.tower v).seated = (s.tower v).seated ∧
    t.om.speed.get v = s.om.speed.get v
  locks : if (s.tower (otherTower w)).seated = true then
      t.smc.seatTimer = none ∧
        (s.smc.stop = .none → (∀ v, (t.tower v).phase = .atRest) →
          t.smc.motion ∈ [Motion.locking, .seatedLocked, .seated] ∧ t.smc.attendance = .stopped)
    else t.smc.motion = .seating ∧ t.smc.seatTimer = s.smc.seatTimer

theorem State.bothSeated_iff (s : State) (w : Tower) (h : (s.tower w).seated = true) :
    s.bothSeated = true ↔ (s.tower (otherTower w)).seated = true := by
  have hboth : s.bothSeated = true ↔ (s.tower .a).seated = true ∧ (s.tower .b).seated = true := Bool.and_eq_true_iff
  rw [hboth]
  cases w with
  | a => exact and_iff_right h
  | b => exact and_iff_left h

theorem State.seatEvent_taken {s : State} {w : Tower} (hmade : s.seatMade w = true) (hm : s.smc.motion = .seating)
    (h : (s.tower w).seated = false) : SeatTaken w s ((s.seatTower w).checkSeated).compare := by
  have marks := s.seatIfMade_marks w h
  rw [State.seatIfMade, if_pos hmade] at marks
  obtain ⟨hstaged, hother⟩ := State.seatTower_speed h
  have hrest := (s.seatTower_rest w).1
  generalize s.seatTower w = u at marks hstaged hother hrest ⊢
  have hmotion : u.smc.motion = .seating := by rw [marks.smc]; exact hm
  have hseated : (u.tower w).seated = true := by rw [marks.seated, if_pos rfl, hmade]
  have hboth := u.bothSeated_iff w hseated
  rw [marks.seated, if_neg (otherTower_ne w)] at hboth
  obtain ⟨hcheck, hspeed, hlocks, hwaits⟩ := State.checkSeated_spec hmotion
  have rested := u.checkSeated_restTested
  have htower : ∀ v, u.checkSeated.tower v = u.tower v := fun v => by rw [State.tower, rested.towers]; rfl
  have look := u.checkSeated.compare_looks
  have hduty : u.checkSeated.compare.om.speed = u.om.speed := by rw [look.rest]; exact hspeed
  have hseat : ∀ v, (u.checkSeated.compare.tower v).seated = (u.tower v).seated := fun v => by rw [look.tower, htower]
  have hphase : ∀ v, (u.checkSeated.compare.tower v).phase = (u.tower v).phase := fun v => by rw [look.phase, htower]
  have hoff : u.checkSeated.offDrive = u.offDrive := by rw [hcheck]; rfl
  have hoff' : u.offDrive = s.offDrive := by rw [hrest]; rfl
  refine ⟨look.offDrive.trans (hoff.trans hoff'), (hseat w).trans hseated, ?_, fun hp ha => ?_, fun v hv => ?_, ?_⟩
  · rw [hphase, marks.phase, if_pos ⟨rfl, hmade⟩]
  · rw [hduty]; exact hstaged hp ha
  · refine ⟨?_, ?_, ?_⟩
    · rw [hphase, marks.phase, if_neg fun e => hv e.1.symm]
    · rw [hseat, marks.seated, if_neg hv.symm]
    · rw [hduty]; exact hother v hv.symm
  · split
    · next ho =>
      obtain ⟨htimer, hlock⟩ := hlocks (hboth.2 ho)
      refine ⟨look.seatTimer.trans htimer, fun hs hr => ?_⟩
      rw [look.motion, look.attendance]
      have hatRest : u.bothAtRest = true := u.bothAtRest_iff.2 ⟨(hphase .a).symm.trans (hr .a), (hphase .b).symm.trans (hr .b)⟩
      exact hlock (by rw [marks.smc]; exact hs) hatRest
    · next ho =>
      rw [look.motion, look.seatTimer, hwaits (mt hboth.1 ho), marks.smc]
      exact ⟨hm, rfl⟩

/-- In SEATING a seat switch that is made seats its tower. -/
theorem State.sample_seat {s : State} {lines : BitVec 48} {w : Tower} (lamps : BitVec 15) (hm : s.smc.motion = .seating)
    (hw : (s.tower w).seated = false) (h : s.qualifies lines (towerLine w 0) true) :
    ∃ q, Qualified s (towerLine w 0) true q ∧ SeatTaken w q (s.sample lines lamps) := by
  obtain ⟨q, hs, hq⟩ := State.sample_qualified lamps (by cases w <;> decide) (by cases w <;> decide) h
  refine ⟨q, hq, ?_⟩
  rw [hs, State.deliverLine_seat w hq.line (hq.motion.trans hm)]
  exact State.seatEvent_taken hq.line (hq.motion.trans hm) (by rw [hq.stands.2 w]; exact hw)

/-! ### The obligation -/

/-- Settles O23. -/
theorem lowerSpanStartsOrRefuses : Obligations.LowerSpanStartsOrRefuses := by
  refine ⟨fun s b rest h => ?_, fun u lines lamps level h => ?_, fun u lines lamps l => ⟨fun hl hm h => ?_,
    fun w hl hm hw h => ?_, fun level hl hm h => ?_⟩⟩
  · have hrefreshed := s.refreshed_eq
    refine ⟨fun hk hl => ?_, execLowerSpan_lowers h, execLowerSpan_locks h⟩
    rw [hrefreshed]
    exact execLowerSpan_refuses h hk hl
  · obtain ⟨hrest, hlowers, hlocks, hstays⟩ := State.sample_line40 lamps h
    refine ⟨_, rfl, hrest, ?_⟩
    split
    · next hgo =>
      obtain ⟨hlevel, hlocal, hcalm, hclear, hhere, hfree⟩ := hgo
      exact hlowers ⟨hlevel, hlocal, hcalm, hclear⟩ hhere hfree
    · next hlow =>
      split
      · next hgo =>
        obtain ⟨hlevel, hlocal, hcalm, hclear, hhere, hseats⟩ := hgo
        exact hlocks ⟨hlevel, hlocal, hcalm, hclear⟩ hhere hseats
      · next hlock =>
        exact hstays (fun ⟨⟨h1, h2, h3, h4⟩, h5, h6⟩ => hlow ⟨h1, h2, h3, h4, h5, h6⟩)
          (fun ⟨⟨h1, h2, h3, h4⟩, h5, h6⟩ => hlock ⟨h1, h2, h3, h4, h5, h6⟩)
  · exact ⟨_, rfl, State.sample_lockDriven lamps hl hm h⟩
  · subst hl
    obtain ⟨q, hq, taken⟩ := State.sample_seat lamps hm hw h
    have hspeed : q.om.speed = u.om.speed := by rw [hq.looks.rest]
    have hseated : ∀ v, (q.tower v).seated = (u.tower v).seated := fun v => by rw [hq.stands.2 v]
    have htimer : q.smc.seatTimer = u.smc.seatTimer := hq.looks.seatTimer
    obtain ⟨hrest, hseat, hphase, hstaged, hother, hlocks⟩ := taken
    simp only [hq.stands.phase, hq.act, hspeed, hseated, hq.stop, htimer] at hphase hstaged hother hlocks
    refine ⟨_, rfl, hq.rest hrest, hseat, hphase, hstaged, hother, ?_⟩
    cases w <;> exact hlocks
  · exact ⟨_, rfl, State.sample_seatedLocked lamps hl hm h⟩

end Sys2Proof.Machine
end

section
/-! SUPPORT. The laws of the gates and of the road under a free span, and how an operation keeps them (R63, R66, R89, R98). -/

namespace Sys2Proof.Machine

/-- A span that unlocks, moves or holds. -/
def Motion.free : Motion → Bool
  | .unlocking | .raising | .holding | .lowering | .seating => true
  | .initial | .seatedLocked | .seated | .locking | .halted | .tripped => false

theorem Motion.free_of_moving {m : Motion} (h : m.moving = true) : m.free = true := by
  revert h
  cases m <;> simp [Motion.moving, Motion.free]

theorem State.spanLaw_iff (s : State) : s.spanLaw = true ↔ (s.smc.motion.free = true → s.rcs.road = .sealed) := by
  unfold State.spanLaw
  cases s.smc.motion <;> simp [Motion.free]

/-- The commands of each gate's two functions, DOWN and UP. -/
def State.gateLines (s : State) : Gate → Bool × Bool := fun g => (s.cmd (gateDownFn g), s.cmd (gateUpFn g))

/-- R89 for the lines of the gates, the motors free to run or not. -/
def LinesOk (live : Bool) (l : Gate → Bool × Bool) : Prop :=
  ∀ g, ¬ ((l g).1 = true ∧ (l g).2 = true) ∧ (live = false → (l g).1 = false ∧ (l g).2 = false)

theorem Gate.mem_all (g : Gate) : g ∈ Gate.all := by cases g <;> decide

theorem State.gatesLaw_iff (s : State) : s.gatesLaw = true ↔ LinesOk s.rcs.live s.gateLines := by
  simp only [State.gatesLaw, List.all_eq_true, LinesOk, State.gateLines, Gate.mem_all, true_implies, Rcs.live]
  refine forall_congr' fun g => ?_
  cases s.cmd (gateDownFn g) <;> cases s.cmd (gateUpFn g) <;> cases s.rcs.suspended <;> cases s.rcs.holding <;> simp

/-- From `s` to `t` the gates' lines stay in order, a free span stays over a road that is SEALED, and, where `stay` holds, a
SEALED road stays SEALED. -/
structure RoadKept (stay : Prop) (s t : State) : Prop where
  gates : LinesOk s.rcs.live s.gateLines → LinesOk t.rcs.live t.gateLines
  span : (s.smc.motion.free = true → s.rcs.road = .sealed) → t.smc.motion.free = true → t.rcs.road = .sealed
  sealed : stay → s.rcs.road = .sealed → t.rcs.road = .sealed

/-- All that the two laws read. -/
def State.lawView (s : State) : Rcs × Motion × (Gate → Bool × Bool) := (s.rcs, s.smc.motion, s.gateLines)

theorem State.lawView_ext {s t : State} (hr : t.rcs = s.rcs) (hm : t.smc.motion = s.smc.motion)
    (hc : ∀ f : Fin 40, 12 ≤ f.val → f.val < 24 → t.cmd f = s.cmd f) : t.lawView = s.lawView := by
  have hl : t.gateLines = s.gateLines := funext fun g => by
    simp only [State.gateLines, hc (gateDownFn g) (by simp [gateDownFn]) (by simp only [gateDownFn]; omega),
      hc (gateUpFn g) (by simp [gateUpFn]; omega) (by simp only [gateUpFn]; omega)]
  simp only [State.lawView, hr, hm, hl]

theorem State.lawView_of_offChannel {s t : State} (h : t.offChannel = s.offChannel) : t.lawView = s.lawView :=
  State.lawView_ext (congrArg (·.1.rcs) h) (by rw [State.offChannel_smc h]) fun f _ hf => State.offChannel_cmd h f (.inl hf)

theorem LooksAgain.lawView {s t : State} (h : LooksAgain s t) : t.lawView = s.lawView :=
  State.lawView_ext (by rw [h.rest]) h.motion fun f _ hf => h.cmd f (by rintro rfl; simp at hf)

theorem State.setCmd_lawView (s : State) {f : Fin 40} (b : Bool) (hf : f.val < 12 ∨ 24 ≤ f.val) :
    (s.setCmd f b).lawView = s.lawView :=
  State.lawView_ext rfl rfl fun g h12 h24 => by rw [State.setCmd_cmd, if_neg (by rintro rfl; omega)]

theorem State.reportFault_lawView (s : State) (f : Fin 37) (b : Bool) : (s.reportFault f b).lawView = s.lawView :=
  (State.setCmd_lawView (s.onMfs _) _ (by decide)).trans rfl

namespace RoadKept

variable {stay : Prop} {s0 s t : State}

theorem refl (s : State) : RoadKept stay s s := ⟨id, id, fun _ => id⟩

theorem trans (h : RoadKept stay s0 s) (k : RoadKept stay s t) : RoadKept stay s0 t :=
  ⟨k.gates ∘ h.gates, k.span ∘ h.span, fun hs => k.sealed hs ∘ h.sealed hs⟩

/-- The span may change its motion state, to a free one over a SEALED road alone. -/
theorem moves (h : RoadKept stay s0 s) (hr : t.rcs = s.rcs) (hg : t.gateLines = s.gateLines)
    (hm : t.smc.motion.free = true → s.smc.motion.free = true ∨ s.rcs.road = .sealed) : RoadKept stay s0 t := by
  refine h.trans ⟨fun hl => ?_, fun hs ht => ?_, fun _ hs => ?_⟩ <;> rw [hr]
  · rwa [hg]
  · exact (hm ht).elim hs id
  · exact hs

theorem congr (h : RoadKept stay s0 s) (ht : t.lawView = s.lawView) : RoadKept stay s0 t :=
  h.moves (congrArg (·.1) ht) (congrArg (·.2.2) ht) fun hm => .inl (by
    rwa [show t.smc.motion = s.smc.motion from congrArg (·.2.1) ht] at hm)

/-- A state that meets both laws, where the road may leave SEALED. -/
theorem anew (hs : ¬ stay) (hg : LinesOk t.rcs.live t.gateLines) (hm : t.smc.motion.free = false) : RoadKept stay s0 t :=
  ⟨fun _ => hg, fun _ h => absurd (hm.symm.trans h) Bool.false_ne_true, fun h => absurd h hs⟩

theorem ite {c : Prop} [Decidable c] {a b : State} (ha : c → RoadKept stay s0 a) (hb : ¬ c → RoadKept stay s0 b) :
    RoadKept stay s0 (if c then a else b) := by
  split
  · next h => exact ha h
  · next h => exact hb h

theorem foldl_mem {α : Type} (f : State → α → State) (l : List α)
    (hf : ∀ x ∈ l, ∀ s, RoadKept stay s0 s → RoadKept stay s0 (f s x)) (h : RoadKept stay s0 s) :
    RoadKept stay s0 (l.foldl f s) := by
  induction l generalizing s with
  | nil => exact h
  | cons x l ih => exact ih (fun y hy => hf y (by simp [hy])) (hf x (by simp) s h)

theorem foldl {α : Type} (f : State → α → State) (hf : ∀ s x, RoadKept stay s0 s → RoadKept stay s0 (f s x)) (l : List α)
    (h : RoadKept stay s0 s) : RoadKept stay s0 (l.foldl f s) := foldl_mem f l (fun x _ u => hf u x) h

theorem inAnyOrder {α : Type} (f : State → α → State) (hf : ∀ s x, RoadKept stay s0 s → RoadKept stay s0 (f s x)) (l : List α)
    (h : RoadKept stay s0 s) : RoadKept stay s0 (s.inAnyOrder l f) :=
  State.inAnyOrder_keeps (RoadKept stay s0) f l s (fun x _ u => hf u x) fun _ => h.congr rfl

/-! ### The blocks that neither law reads -/

theorem channel (h : RoadKept stay s0 s) (ht : t.offChannel = s.offChannel) : RoadKept stay s0 t :=
  h.congr (State.lawView_of_offChannel ht)

theorem compare (h : RoadKept stay s0 s) : RoadKept stay s0 s.compare := h.congr s.compare_looks.lawView

theorem onCs (h : RoadKept stay s0 s) (f : Cs → Cs) : RoadKept stay s0 (s.onCs f) := h.congr rfl
theorem onIq (h : RoadKept stay s0 s) (f : Iq → Iq) : RoadKept stay s0 (s.onIq f) := h.congr rfl
theorem onMu (h : RoadKept stay s0 s) (f : Mu → Mu) : RoadKept stay s0 (s.onMu f) := h.congr rfl
theorem onPg (h : RoadKept stay s0 s) (f : Pg → Pg) : RoadKept stay s0 (s.onPg f) := h.congr rfl
theorem onPau (h : RoadKept stay s0 s) (f : Pau → Pau) : RoadKept stay s0 (s.onPau f) := h.congr rfl
theorem onHt (h : RoadKept stay s0 s) (f : Ht → Ht) : RoadKept stay s0 (s.onHt f) := h.congr rfl
theorem onMfs (h : RoadKept stay s0 s) (f : Mfs → Mfs) : RoadKept stay s0 (s.onMfs f) := h.congr rfl
theorem onPort (h : RoadKept stay s0 s) (p : Port) (f : PortRec → PortRec) : RoadKept stay s0 (s.onPort p f) := h.congr rfl

theorem onOm (h : RoadKept stay s0 s) (f : Om → Om) (hc : (f s.om).command = s.om.command) : RoadKept stay s0 (s.onOm f) :=
  h.congr (State.lawView_ext rfl rfl fun g _ _ => by simp only [State.cmd, State.onOm_om, hc])

theorem onSmc (h : RoadKept stay s0 s) (f : Smc → Smc)
    (hm : (f s.smc).motion.free = true → s.smc.motion.free = true ∨ s.rcs.road = .sealed) : RoadKept stay s0 (s.onSmc f) :=
  h.moves rfl rfl hm

theorem setCmd (h : RoadKept stay s0 s) {f : Fin 40} (b : Bool) (hf : f.val < 12 ∨ 24 ≤ f.val) : RoadKept stay s0 (s.setCmd f b) :=
  h.congr (s.setCmd_lawView b hf)

theorem reportFault (h : RoadKept stay s0 s) (f : Fin 37) (b : Bool) : RoadKept stay s0 (s.reportFault f b) :=
  h.congr (s.reportFault_lawView f b)

/-! ### The towers (R59 to R61, R67, R74) -/

theorem setTower (h : RoadKept stay s0 s) (w : Tower) (r : TowerRec) : RoadKept stay s0 (s.setTower w r) := h.congr rfl

theorem stage (h : RoadKept stay s0 s) (w : Tower) (d : Nat) : RoadKept stay s0 (s.stage w d) := h.congr rfl

theorem towerCmd (h : RoadKept stay s0 s) (w : Tower) (k : Fin 4) (b : Bool) : RoadKept stay s0 (s.setCmd (towerFn w k) b) :=
  h.setCmd b (.inl (by have := towerFn_lt w k; omega))

theorem assertDirection (h : RoadKept stay s0 s) (w : Tower) (raise : Bool) : RoadKept stay s0 (s.assertDirection w raise) :=
  (h.towerCmd w _ true).setTower w _

theorem startTower (h : RoadKept stay s0 s) (raise : Bool) (w : Tower) : RoadKept stay s0 (s.startTower raise w) := by
  unfold State.startTower
  split
  · exact ite (fun _ => h.setTower w _) fun _ => h.assertDirection w raise
  · exact h.assertDirection w raise

theorem releaseDirection (h : RoadKept stay s0 s) (w : Tower) : RoadKept stay s0 (s.releaseDirection w) := by
  have off := (h.towerCmd w 0 false).towerCmd w 1 false
  exact ite (fun _ => off.setTower w _) fun _ => ite (fun _ => off.setTower w _) fun _ => h

theorem setBrake (h : RoadKept stay s0 s) (w : Tower) : RoadKept stay s0 (s.setBrake w) :=
  ((h.towerCmd w 2 false).stage w 0).setTower w _

theorem stopTower (h : RoadKept stay s0 s) (w : Tower) : RoadKept stay s0 (s.stopTower w) := by
  unfold State.stopTower
  split
  case h_1 | h_3 => exact h.setTower w _
  case h_2 => exact h.setBrake w
  all_goals exact h

theorem quickStopTower (h : RoadKept stay s0 s) (w : Tower) : RoadKept stay s0 (s.quickStopTower w) := by
  unfold State.quickStopTower
  split
  case h_1 | h_2 | h_3 => exact h.setBrake w
  case h_4 => exact h.setTower w _
  all_goals exact h

theorem enterHalted (h : RoadKept stay s0 s) : RoadKept stay s0 s.enterHalted := h.onSmc _ (by simp [Motion.free])

theorem zeroSpeed (h : RoadKept stay s0 s) : RoadKept stay s0 s.zeroSpeed := h.congr rfl

theorem quickStop (h : RoadKept stay s0 s) : RoadKept stay s0 s.quickStop := by
  unfold State.quickStop
  refine ite (fun _ => ?_) fun _ => h
  have stopping := (h.onSmc (fun m => { m with stop := .quick, attendance := .stopped, seatTimer := none }) .inl).zeroSpeed
  have stopped := (stopping.quickStopTower .a).quickStopTower .b
  exact (ite (fun _ => stopped.enterHalted) fun _ => stopped).compare

theorem speedControl (h : RoadKept stay s0 s) : RoadKept stay s0 s.speedControl :=
  ite (fun _ => ((h.onSmc (fun m => { m with out := s.outNow }) .inl).stage .a _).stage .b _) fun _ => h

theorem finishLocking (h : RoadKept stay s0 s) : RoadKept stay s0 s.finishLocking := by
  refine ite (fun _ => ?_) fun _ => h
  refine ((h.setCmd false (by decide)).setCmd false (by decide)).onSmc _ fun hm => ?_
  simp only at hm
  split at hm <;> cases hm

theorem enterLocking (h : RoadKept stay s0 s) : RoadKept stay s0 s.enterLocking :=
  (((h.onSmc _ (by simp [Motion.free])).setCmd _ (by decide)).setCmd _ (by decide)).finishLocking

theorem checkSeated (h : RoadKept stay s0 s) : RoadKept stay s0 s.checkSeated := by
  refine ite (fun _ => ?_) fun _ => h
  have timed := h.onSmc (fun m => { m with seatTimer := none }) .inl
  exact ite (fun _ => timed.enterLocking) fun _ => timed

theorem seatTower (h : RoadKept stay s0 s) (w : Tower) : RoadKept stay s0 (s.seatTower w) :=
  ite (fun _ => h) fun _ => ((h.setTower w _).stage w _).stopTower w

theorem seatIfMade (h : RoadKept stay s0 s) (w : Tower) : RoadKept stay s0 (s.seatIfMade w) :=
  ite (fun _ => h.seatTower w) fun _ => h

theorem enterSeating (h : RoadKept stay s0 s) (fromRest : Bool) (hs : s.smc.motion.free = true ∨ s.rcs.road = .sealed) :
    RoadKept stay s0 (s.enterSeating fromRest) := by
  have start : ∀ {u : State} (w : Tower), RoadKept stay s0 u →
      RoadKept stay s0 (if (u.tower w).seated then u else u.startTower false w) := fun w hu =>
    ite (fun _ => hu) fun _ => hu.startTower false w
  have seated := ((h.onSmc (fun m =>
    { m with motion := .seating, target := none, seatTimer := startTimer (secTicks s.act.seatTime)
             towers := { a := { m.towers.a with seated := false }, b := { m.towers.b with seated := false } } })
    fun _ => hs).seatIfMade .a).seatIfMade .b
  exact checkSeated (ite (fun _ => (start .b (start .a seated)).onSmc _ .inl) fun _ => seated)

/-! ### Trips, stops and halts (R61, R64, R68, R72 to R76) -/

theorem holdingLeft (h : RoadKept stay s0 s) : RoadKept stay s0 s.holdingLeft := h.channel s.holdingLeft_offChannel

theorem holdingEntered (h : RoadKept stay s0 s) : RoadKept stay s0 s.holdingEntered := h.channel s.holdingEntered_offChannel

theorem trip (h : RoadKept stay s0 s) : RoadKept stay s0 s.trip := by
  have off : RoadKept stay s0 s.tripBase := by
    refine onSmc (foldl_mem _ smcCommands (fun f hf u hu => hu.setCmd false (.inl ?_)) ?_) _ (by simp [Motion.free])
    · revert f; decide
    · exact ((h.releaseDirection .a).releaseDirection .b).zeroSpeed
  by_cases hm : s.smc.motion = .tripped
  · rwa [State.trip, if_pos hm]
  · rw [State.trip_eq hm]
    exact (ite (fun _ => off.holdingLeft) fun _ => off).compare

theorem tripReport (h : RoadKept stay s0 s) (f : Fin 37) (b : Bool) : RoadKept stay s0 (s.tripReport f b) := by
  have hr : RoadKept stay s0 (s.reported f b) := ite (fun _ => h.reportFault f b) fun _ => h
  rw [State.tripReport_cases]
  exact ite (fun _ => hr.trip) fun _ => hr

theorem pulseFault (h : RoadKept stay s0 s) (f : Fin 37) : RoadKept stay s0 (s.pulseFault f) :=
  (h.tripReport f true).tripReport f false

theorem checkRest (h : RoadKept stay s0 s) : RoadKept stay s0 s.checkRest := by
  unfold State.checkRest
  refine ite (fun hc => ?_) fun _ => h
  split
  · exact (h.onSmc _ fun _ => .inl (Motion.free_of_moving (Bool.and_eq_true_iff.1 hc).1)).holdingEntered
  · exact h.enterHalted
  · exact h.enterHalted
  · exact h.checkSeated

theorem beginStop (h : RoadKept stay s0 s) (k : StopKind) : RoadKept stay s0 (s.beginStop k) :=
  (((h.onSmc _ .inl).stopTower .a).stopTower .b).checkRest.compare

theorem haltUnlocking (h : RoadKept stay s0 s) : RoadKept stay s0 s.haltUnlocking := by
  have off := ((h.setCmd (f := 9) false (by decide)).setCmd (f := 11) false (by decide)).onSmc
    (fun m => { m with lockTimer := none }) .inl
  exact ite (fun _ => off.onSmc _ (by simp [Motion.free])) fun _ => off.enterHalted

theorem haltLocking (h : RoadKept stay s0 s) : RoadKept stay s0 s.haltLocking :=
  ((h.setCmd (f := 8) false (by decide)).setCmd (f := 10) false (by decide)).onSmc _ (by simp [Motion.free])

theorem halt (h : RoadKept stay s0 s) : RoadKept stay s0 s.halt := by
  unfold State.halt
  split
  case h_1 | h_2 | h_3 =>
    split
    case h_1 | h_2 => exact h.beginStop .halt
    all_goals exact h
  case h_4 => exact h.enterHalted.holdingLeft
  case h_5 => exact h.haltUnlocking
  case h_6 => exact h.haltLocking
  all_goals exact h

theorem haltIn (h : RoadKept stay s0 s) (l : List Motion) : RoadKept stay s0 (s.haltIn l) := ite (fun _ => h.halt) fun _ => h

theorem smcHoldPlaced (h : RoadKept stay s0 s) (k : HoldKind) : RoadKept stay s0 (s.smcHoldPlaced k) := by
  cases k
  · exact h.haltIn _
  · exact h.quickStop
  · exact (h.haltIn _).quickStop
  all_goals exact h

/-! ### Motions of the span, over a SEALED road (R62 to R66, R68) -/

theorem startTowers (h : RoadKept stay s0 s) (raise : Bool) : RoadKept stay s0 (s.startTowers raise) :=
  (h.startTower raise .a).startTower raise .b

theorem enterRaising (h : RoadKept stay s0 s) (hs : s.smc.motion.free = true ∨ s.rcs.road = .sealed) :
    RoadKept stay s0 s.enterRaising := by
  have off := (h.setCmd (f := 9) false (by decide)).setCmd (f := 11) false (by decide)
  exact (((off.onSmc (fun m => { m with motion := .raising, stop := .none, lockTimer := none }) fun _ => hs).startTowers
    true).onSmc _ .inl).compare

theorem enterUnlocking (h : RoadKept stay s0 s) (hs : s.rcs.road = .sealed) : RoadKept stay s0 s.enterUnlocking :=
  ((h.onSmc _ fun _ => .inr hs).setCmd (f := 9) _ (by decide)).setCmd (f := 11) _ (by decide)

theorem enterLowering (h : RoadKept stay s0 s) (hs : s.rcs.road = .sealed) : RoadKept stay s0 s.enterLowering :=
  (((h.onSmc (fun m => { m with motion := .lowering, stop := .none, target := none }) fun _ => .inr hs).startTowers
    false).onSmc _ .inl).compare

theorem acceptRaise (h : RoadKept stay s0 s) (hs : s.rcs.road = .sealed) (x : Nat) : RoadKept stay s0 (s.acceptRaise x) := by
  have aimed := h.onSmc (fun m => { m with target := some x }) .inl
  simp only [State.acceptRaise]
  split
  · exact aimed
  · exact (aimed.enterRaising (.inr hs)).holdingLeft
  · exact ite (fun _ => aimed.enterRaising (.inr hs)) fun _ => aimed.enterUnlocking hs

theorem raise (h : RoadKept stay s0 s) (w : RaiseWish) : RoadKept stay s0 (s.raise w).2.2 := by
  unfold State.raise
  split
  · exact h
  · split
    · exact h
    · simp only []
      split
      · next hr =>
        have hs : s.rcs.road = .sealed := by
          simp only [State.mayRaise, Bool.and_eq_true, decide_eq_true_eq, and_assoc] at hr
          exact hr.1
        have hand : ∀ (c : Bool) (f : Opening → Opening), RoadKept stay s0 (if c then s.onOpening f else s) ∧
            (if c then s.onOpening f else s).rcs.road = .sealed := by
          rintro (_ | _) f
          exacts [⟨h, hs⟩, ⟨h.congr rfl, hs⟩]
        obtain ⟨aimed, hsealed⟩ := hand _ _
        exact aimed.acceptRaise hsealed _
      · exact h

theorem lower (h : RoadKept stay s0 s) : RoadKept stay s0 s.lower.2 := by
  unfold State.lower
  split
  · exact h
  · split
    · split
      · exact h.enterLocking
      · exact h
    · split
      · next hc =>
        have hs : s.rcs.road = .sealed := by
          simp only [State.mayLower, Bool.and_eq_true, decide_eq_true_eq, and_assoc] at hc
          exact hc.2.1
        have down : RoadKept stay s0 (if s.act.ztol < s.spanHeight then s.enterLowering else (s.enterSeating true).compare) :=
          ite (fun _ => h.enterLowering hs) fun _ => (h.enterSeating true (.inr hs)).compare
        exact ite (fun _ => down.holdingLeft) fun _ => down
      · exact h

theorem leaveInitial (h : RoadKept stay s0 s) : RoadKept stay s0 s.leaveInitial := by
  refine ite (fun _ => h.onSmc _ fun hm => ?_) fun _ => h
  simp only at hm
  split at hm
  · split at hm <;> cases hm
  · cases hm

theorem smcAcknowledged (h : RoadKept stay s0 s) : RoadKept stay s0 s.smcAcknowledged := by
  refine ite (fun _ => h.onSmc _ fun hm => ?_) fun _ => h
  simp only at hm
  split at hm <;> cases hm

theorem refreshAttendance (h : RoadKept stay s0 s) : RoadKept stay s0 s.refreshAttendance :=
  ite (fun _ => h.onSmc _ .inl) fun _ => h

/-! ### Timers of the towers and locks (R59 to R61, R71, R77, R79) -/

theorem brakeExpiry (h : RoadKept stay s0 s) (w : Tower) : RoadKept stay s0 (s.brakeExpiry w) := by
  unfold State.brakeExpiry
  simp only []
  split
  · exact ((h.towerCmd w 2 true).setTower w _).compare
  · exact ((h.releaseDirection w).setTower w _).checkRest.compare
  · exact h

theorem reversalExpiry (h : RoadKept stay s0 s) (w : Tower) : RoadKept stay s0 (s.reversalExpiry w) := by
  have emptied := h.setTower w { s.tower w with reversal := none }
  exact ite (fun _ => h) fun _ => ite (fun _ => (emptied.assertDirection w _).compare) fun _ => emptied

theorem lockTimeout (h : RoadKept stay s0 s) : RoadKept stay s0 s.lockTimeout := ite (fun _ => h.pulseFault 10) fun _ => h

theorem seatTimeout (h : RoadKept stay s0 s) : RoadKept stay s0 s.seatTimeout := ite (fun _ => h.pulseFault 11) fun _ => h

theorem attendanceExpiry (h : RoadKept stay s0 s) : RoadKept stay s0 s.attendanceExpiry := by
  unfold State.attendanceExpiry
  split
  · exact h.halt
  · exact h

theorem disagreementExpiry (h : RoadKept stay s0 s) (w : Tower) (p : Proving) : RoadKept stay s0 (s.disagreementExpiry w p) := by
  unfold State.disagreementExpiry
  split
  · exact ((h.setTower w _).tripReport _ true).compare
  · exact h

/-! ### The measurement set (R33) -/

theorem goalTest (h : RoadKept stay s0 s) : RoadKept stay s0 s.goalTest := by
  unfold State.goalTest
  split
  · exact h
  · refine ite (fun _ => h) fun _ => ite (fun _ => h.beginStop .arrival) fun _ => ite (fun hc => ?_) fun _ => h
    have hm : s.smc.motion = .lowering := by
      simp only [Bool.and_eq_true, decide_eq_true_eq] at hc
      exact hc.1
    exact (h.enterSeating false (.inl (by rw [hm]; rfl))).compare

theorem doSetTask (h : RoadKept stay s0 s) (x : SetTask) : RoadKept stay s0 (s.doSetTask x) := by
  cases x
  · exact h.leaveInitial.goalTest.speedControl
  · exact h.tripReport 1 _
  · exact h.tripReport 2 _

theorem smcTakesSet (h : RoadKept stay s0 s) : RoadKept stay s0 s.smcTakesSet := by
  unfold State.smcTakesSet
  split
  · exact h.doSetTask .motion
  · exact inAnyOrder _ (fun _ x hu => hu.doSetTask x) _ (h.onSmc _ .inl)

/-! ### Input events (R1) -/

theorem attendanceSource (h : RoadKept stay s0 s) : RoadKept stay s0 s.attendanceSource := by
  unfold State.attendanceSource
  split
  · exact h
  · split
    · exact h.onSmc _ .inl
    · exact h.onSmc _ .inl
    · exact h

theorem lockWithdrawn (h : RoadKept stay s0 s) (w : Tower) : RoadKept stay s0 (s.lockWithdrawn w) := by
  refine ite (fun hm => ?_) fun _ => h
  have off : RoadKept stay s0 (s.setCmd (withdrawFn w) false) := h.setCmd false (by cases w <;> decide)
  exact ite (fun _ => off.enterRaising (.inl (by rw [State.setCmd_smc, hm]; rfl))) fun _ => off

theorem withdrawnLost (h : RoadKept stay s0 s) : RoadKept stay s0 s.withdrawnLost := ite (fun _ => h.pulseFault 10) fun _ => h

theorem lockDriven (h : RoadKept stay s0 s) (w : Tower) : RoadKept stay s0 (s.lockDriven w) :=
  ite (fun _ => (h.setCmd false (by cases w <;> decide)).finishLocking) fun _ => h

theorem seatedLockedLost (h : RoadKept stay s0 s) : RoadKept stay s0 s.seatedLockedLost :=
  ite (fun _ => h.onSmc _ (by simp [Motion.free])) fun _ => h

theorem seatEvent (h : RoadKept stay s0 s) (w : Tower) (made : Bool) : RoadKept stay s0 (s.seatEvent w made) :=
  ite (fun _ => ite (fun _ => (h.seatTower w).checkSeated.compare) fun _ => h) fun _ => h.seatedLockedLost

theorem smcLine (h : RoadKept stay s0 s) (l : Fin 48) (b : Bool) : RoadKept stay s0 (s.smcLine l b) := by
  unfold State.smcLine
  split
  case h_1 | h_2 => exact h.seatEvent _ b
  case h_3 | h_4 => exact h.tripReport 2 _
  case h_5 | h_6 | h_7 | h_8 | h_9 | h_10 => exact h.compare
  case h_11 | h_12 => exact ite (fun _ => h.lockWithdrawn _) fun _ => h.withdrawnLost
  case h_13 | h_14 => exact ite (fun _ => h.lockDriven _) fun _ => h.seatedLockedLost
  case h_15 | h_16 => exact ite (fun _ => h) fun _ => h.haltIn _
  case h_17 | h_18 => exact ite (fun _ => h) fun _ => h.quickStop
  case h_19 | h_20 => exact h.attendanceSource
  case h_21 => exact ite (fun _ => h.raise .panel) fun _ => h
  case h_22 => exact ite (fun _ => h.lower) fun _ => h
  case h_23 => exact h

/-! ### The E-stop loop (R14, R15) -/

theorem reportEstop (h : RoadKept stay s0 s) : RoadKept stay s0 s.reportEstop := ite (fun _ => h.tripReport 0 _) fun _ => h

theorem setLatch (h : RoadKept stay s0 s) : RoadKept stay s0 s.setLatch := ite (fun _ => h) fun _ => h.onOm _ rfl

end RoadKept

end Sys2Proof.Machine
end

section
/-! SUPPORT. What the operations of the road are made of, said once for each operation, and what follows of all of them (chapter 5). -/

namespace Sys2Proof.Machine

/-- From `s0` RCS has changed its own record without stopping a free motor or leaving SEALED, issued the gates' functions, suspended
itself with every function issued again, asked for aspects, reported GATE faults and told SMC of them. -/
inductive RoadRuns (s0 : State) : State → Prop
  | refl : RoadRuns s0 s0
  | onRcs {s : State} (h : RoadRuns s0 s) (f : Rcs → Rcs) (hl : s.rcs.live = true → (f s.rcs).live = true)
      (hr : s.rcs.road = .sealed → (f s.rcs).road = .sealed) : RoadRuns s0 (s.onRcs f)
  | issueGate {s : State} (h : RoadRuns s0 s) (g : Gate) : RoadRuns s0 (s.issueGate g)
  | issued {s : State} (h : RoadRuns s0 s) (f : Rcs → Rcs) (hr : s.rcs.road = .sealed → (f s.rcs).road = .sealed) :
      RoadRuns s0 (s.onRcs f).issueGates
  | requestAspect {s : State} (h : RoadRuns s0 s) (hd : Head) (a : Aspect) : RoadRuns s0 (s.requestAspect hd a)
  | reportFault {s : State} (h : RoadRuns s0 s) (g : Gate) (b : Bool) : RoadRuns s0 (s.reportFault (gateFault g) b)
  | smcGateFault {s : State} (h : RoadRuns s0 s) : RoadRuns s0 s.smcGateFault

/-! ### A state but for what the road reaches -/

/-- A state with OM, SMC, RCS, PG, PAU and MFS blanked. -/
def State.offSequencer (s : State) : State := { s.offLive with rcs := Rcs.reset }

/-! ### What issuing the functions writes (R89) -/

theorem gateFn_inj : ∀ g x : Gate, (gateDownFn g = gateDownFn x ↔ g = x) ∧ (gateUpFn g = gateUpFn x ↔ g = x) ∧
    gateDownFn g ≠ gateUpFn x ∧ gateUpFn g ≠ gateDownFn x := by
  intro g x
  cases g <;> cases x <;> decide

/-- The lines that a gate's command calls for. -/
def State.issuedLines (s : State) (g : Gate) : Bool × Bool :=
  (s.rcs.live && decide ((s.gate g).cmd = .down), s.rcs.live && decide ((s.gate g).cmd = .up))

theorem State.issueGate_gateLines (s : State) (g x : Gate) :
    (s.issueGate g).gateLines x = if g = x then s.issuedLines g else s.gateLines x := by
  obtain ⟨hdd, huu, hdu, hud⟩ := gateFn_inj g x
  have hud' : gateUpFn g ≠ gateDownFn x := hud
  simp only [State.gateLines, State.issueGate, State.setCmd_cmd, hdd, huu, hdu, hud', if_false, State.issuedLines]
  split
  · rfl
  · rfl

theorem foldl_issueGate_gateLines (l : List Gate) (s : State) (x : Gate) :
    (l.foldl State.issueGate s).gateLines x = if x ∈ l then s.issuedLines x else s.gateLines x := by
  induction l generalizing s with
  | nil => simp
  | cons g l ih =>
    have hi : (s.issueGate g).issuedLines x = s.issuedLines x := rfl
    rw [List.foldl_cons, ih, hi, State.issueGate_gateLines]
    by_cases hx : x ∈ l
    · simp [hx]
    · by_cases hg : g = x
      · subst hg; simp
      · simp [hx, hg, Ne.symm hg]

/-- Every gate's lines are those of its command. -/
theorem State.issueGates_gateLines (s : State) : s.issueGates.gateLines = s.issuedLines :=
  funext fun x => (foldl_issueGate_gateLines Gate.all s x).trans (if_pos (Gate.mem_all x))

@[simp] theorem State.issueGates_smc (s : State) : s.issueGates.smc = s.smc :=
  foldl_keeps (F := State.smc) State.issueGate (fun _ _ => rfl) Gate.all s

@[simp] theorem State.issueGates_pau (s : State) : s.issueGates.pau = s.pau :=
  foldl_keeps (F := State.pau) State.issueGate (fun _ _ => rfl) Gate.all s

@[simp] theorem State.issueGates_offSequencer (s : State) : s.issueGates.offSequencer = s.offSequencer :=
  foldl_keeps (F := State.offSequencer) State.issueGate (fun _ _ => rfl) Gate.all s

theorem State.issuedLines_ok (s : State) (g : Gate) :
    ¬ ((s.issuedLines g).1 = true ∧ (s.issuedLines g).2 = true) ∧
      (s.rcs.live = false → (s.issuedLines g).1 = false ∧ (s.issuedLines g).2 = false) := by
  simp only [State.issuedLines]
  cases s.rcs.live <;> cases (s.gate g).cmd <;> simp

/-! ### What the road reaches -/

theorem State.offSequencer_eq {s t : State} (h : t.offSequencer = s.offSequencer) :
    t = { s with om := t.om, smc := t.smc, rcs := t.rcs, pg := t.pg, pau := t.pau, mfs := t.mfs } := by
  simp only [State.offSequencer, State.offLive, State.mk.injEq] at h
  obtain ⟨h1, h2, h3, h4, -, h6, -, -, -, -, h11, -, h13⟩ := h
  cases t
  simp_all

theorem State.offLive_of_offChannel {s t : State} (h : t.offChannel = s.offChannel) : t.offLive = s.offLive :=
  (congrArg (·.1.offLive) h :)

theorem State.offLive_of_offDrive {s t : State} (h : t.offDrive = s.offDrive) : t.offLive = s.offLive :=
  (congrArg State.offLive h :)

/-- A halt reaches OM, SMC, MFS and, at the exit from HOLDING, the channel alone (R72, R158). -/
theorem State.halt_offLive (s : State) : s.halt.offLive = s.offLive := by
  by_cases hm : s.smc.motion = .holding
  · have hh : s.halt = s.enterHalted.holdingLeft := by simp [State.halt, hm]
    rw [hh, State.offLive_of_offChannel (State.holdingLeft_offChannel _)]
    rfl
  · exact State.offLive_of_offDrive (s.halt_offDrive hm)

theorem State.haltIn_offLive (s : State) (l : List Motion) : (s.haltIn l).offLive = s.offLive := by
  unfold State.haltIn
  split
  · exact s.halt_offLive
  · rfl

/-- In these motion states a GATE fault that enters ACTIVE brings SMC nothing (R73). -/
def Motion.quiet (m : Motion) : Prop := m ∉ [Motion.raising, .holding, .lowering, .seating]

theorem State.smcGateFault_quiet {s : State} (h : s.smc.motion.quiet) : s.smcGateFault = s := by
  simp only [Motion.quiet] at h
  simp [State.smcGateFault, State.haltIn, h]

namespace RoadRuns

variable {s0 s t : State}

theorem trans (h : RoadRuns s0 s) (k : RoadRuns s t) : RoadRuns s0 t := by
  induction k with
  | refl => exact h
  | onRcs _ f hl hr ih => exact ih.onRcs f hl hr
  | issueGate _ g ih => exact ih.issueGate g
  | issued _ f hr ih => exact ih.issued f hr
  | requestAspect _ hd a ih => exact ih.requestAspect hd a
  | reportFault _ g b ih => exact ih.reportFault g b
  | smcGateFault _ ih => exact ih.smcGateFault

theorem kept {stay : Prop} (h : RoadRuns s0 t) : RoadKept stay s0 t := by
  induction h with
  | refl => exact .refl _
  | @onRcs u _ f hl hr ih =>
    refine ih.trans ⟨fun hg g => ⟨(hg g).1, fun hf => (hg g).2 ?_⟩, fun hs hm => hr (hs hm), fun _ => hr⟩
    exact Bool.eq_false_iff.2 fun hu => Bool.eq_false_iff.1 hf (hl hu)
  | @issueGate u _ g ih =>
    refine ih.trans ⟨fun hg x => ?_, id, fun _ => id⟩
    rw [State.issueGate_gateLines]
    split
    · exact u.issuedLines_ok g
    · exact hg x
  | @issued u _ f hr ih =>
    have hrcs := (u.onRcs f).issueGates_rcs
    refine ih.trans ⟨fun _ => ?_, fun hs hm => ?_, fun _ hs => ?_⟩
    · rw [hrcs, State.issueGates_gateLines]
      exact (u.onRcs f).issuedLines_ok
    · rw [State.issueGates_smc] at hm
      rw [hrcs]
      exact hr (hs hm)
    · rw [hrcs]
      exact hr hs
  | requestAspect _ hd a ih => exact ih.channel (State.requestAspect_offChannel _ hd a)
  | reportFault _ g b ih => exact ih.reportFault _ b
  | smcGateFault _ ih => exact ih.haltIn _

theorem offSequencer (h : RoadRuns s0 t) : t.offSequencer = s0.offSequencer := by
  induction h with
  | refl => rfl
  | onRcs _ _ _ _ ih => exact ih
  | issueGate _ _ ih => exact ih
  | @issued u _ f _ ih => exact (u.onRcs f).issueGates_offSequencer.trans ih
  | @requestAspect u _ hd a ih =>
    have h := State.offLive_of_offChannel (u.requestAspect_offChannel hd a)
    exact (congrArg (fun v => { v with rcs := Rcs.reset }) h :).trans ih
  | reportFault _ _ _ ih => exact ih
  | smcGateFault _ ih => exact (congrArg (fun v => { v with rcs := Rcs.reset }) (State.haltIn_offLive _ _) :).trans ih

theorem eq (h : RoadRuns s0 t) :
    t = { s0 with om := t.om, smc := t.smc, rcs := t.rcs, pg := t.pg, pau := t.pau, mfs := t.mfs } :=
  State.offSequencer_eq h.offSequencer

/-- Where the span is quiet the road reaches neither it nor the channel's arbiter. -/
theorem quiet (h : RoadRuns s0 t) (hq : s0.smc.motion.quiet) : t.smc = s0.smc ∧ t.pau = s0.pau := by
  induction h with
  | refl => exact ⟨rfl, rfl⟩
  | onRcs _ _ _ _ ih => exact ih
  | issueGate _ _ ih => exact ih
  | @issued u _ f _ ih =>
    rwa [State.issueGates_smc, State.issueGates_pau]
  | @requestAspect u _ hd a ih =>
    exact ⟨(State.offChannel_smc (u.requestAspect_offChannel hd a)).trans ih.1, (State.requestAspect_pau _ _ _).trans ih.2⟩
  | reportFault _ _ _ ih => exact ih
  | smcGateFault _ ih =>
    rwa [State.smcGateFault_quiet (by rw [ih.1]; exact hq)]

theorem ite {c : Prop} [Decidable c] {a b : State} (ha : c → RoadRuns s0 a) (hb : ¬ c → RoadRuns s0 b) :
    RoadRuns s0 (if c then a else b) := by
  split
  · next h => exact ha h
  · next h => exact hb h

theorem foldl {α : Type} (f : State → α → State) (hf : ∀ s x, RoadRuns s0 s → RoadRuns s0 (f s x)) (l : List α)
    (h : RoadRuns s0 s) : RoadRuns s0 (l.foldl f s) := by
  induction l generalizing s with
  | nil => exact h
  | cons x l ih => exact ih (hf s x h)

/-! ### Records, aspects and causes (R85, R86, R89, R102, R103) -/

theorem setGate (h : RoadRuns s0 s) (g : Gate) (r : GateRec) : RoadRuns s0 (s.setGate g r) := h.onRcs _ id id

theorem setRoad (h : RoadRuns s0 s) (r : Road) (hr : s.rcs.road ≠ .sealed) : RoadRuns s0 (s.setRoad r) :=
  h.onRcs _ id fun e => absurd e hr

theorem armClearing (h : RoadRuns s0 s) : RoadRuns s0 s.armClearing := h.onRcs _ id id

theorem dropCommands (h : RoadRuns s0 s) : RoadRuns s0 s.dropCommands := h.issued _ id

theorem setWarn (h : RoadRuns s0 s) (a : Aspect) : RoadRuns s0 (s.setWarn a) :=
  ite (fun _ => h) fun _ => ((h.onRcs (fun m => { m with warnAspect := a }) id id).requestAspect .warnN a).requestAspect .warnS a

theorem setTraf (h : RoadRuns s0 s) (a : Aspect) : RoadRuns s0 (s.setTraf a) :=
  ite (fun _ => h) fun _ => ((h.onRcs (fun m => { m with trafAspect := a }) id id).requestAspect .trafN a).requestAspect .trafS a

theorem startBudget (h : RoadRuns s0 s) : RoadRuns s0 s.startBudget := ite (fun _ => h.onRcs _ id id) fun _ => h

/-- A change of the causes of suspension and of nothing else in RCS. -/
def CausesOnly (f : Rcs → Rcs) : Prop := ∀ m, (f m).road = m.road ∧ (f m).holding = m.holding

theorem setCauses (h : RoadRuns s0 s) {f : Rcs → Rcs} (hf : CausesOnly f) : RoadRuns s0 (s.setCauses f) := by
  obtain ⟨hroad, hholding⟩ := hf s.rcs
  have road : s.rcs.road = .sealed → (f s.rcs).road = .sealed := fun e => hroad.trans e
  refine ite (fun _ => h.issued (fun m => { f m with gates := (f m).gates.mapAll fun r => { r with travel := none } }) road)
    fun hn => h.onRcs f (fun hl => ?_) road
  simp only [State.onRcs_rcs, Bool.and_eq_true, Bool.not_eq_true', Rcs.live] at hn hl ⊢
  rw [hholding]
  exact ⟨by simpa [hl.1] using hn, hl.2⟩

theorem noteGateFaults (h : RoadRuns s0 s) : RoadRuns s0 s.noteGateFaults := h.setCauses fun _ => ⟨rfl, rfl⟩

theorem reportGate (h : RoadRuns s0 s) (g : Gate) (b : Bool) : RoadRuns s0 (s.reportGate g b) := by
  have reported : RoadRuns s0
      (if s.faultChanges (gateFault g) b then (s.reportFault (gateFault g) b).noteGateFaults else s) :=
    ite (fun _ => (h.reportFault g b).noteGateFaults) fun _ => h
  exact ite (fun _ => reported.smcGateFault) fun _ => reported

theorem pulseGate (h : RoadRuns s0 s) (g : Gate) : RoadRuns s0 (s.pulseGate g) := (h.reportGate g true).reportGate g false

/-! ### Drives and steps (R90, R92 to R99) -/

theorem moveGate (h : RoadRuns s0 s) (g : Gate) (c : GateCmd) : RoadRuns s0 (s.moveGate g c) :=
  ite (fun _ => (h.setGate g _).issueGate g) fun _ => (h.setGate g _).issueGate g

theorem flagObstructed (h : RoadRuns s0 s) (g : Gate) (c : GateCmd) : RoadRuns s0 (s.flagObstructed g c) :=
  ite (fun _ => h.setGate g _) fun _ => h

theorem driveGates (h : RoadRuns s0 s) (l : List (Gate × GateCmd)) : RoadRuns s0 (s.driveGates l) :=
  foldl _ (fun _ x hu => hu.pulseGate x.1) _ (foldl _ (fun _ x hu => hu.moveGate x.1 _) _
    (foldl _ (fun _ x hu => hu.flagObstructed x.1 x.2) _ h))

theorem driveStep (h : RoadRuns s0 s) : RoadRuns s0 s.driveStep := h.driveGates _

theorem nextStep (h : RoadRuns s0 s) (hn : s.nextStep = some t) : RoadRuns s0 t := by
  have drive : ∀ f : Rcs → Rcs, (s.rcs.live = true → (f s.rcs).live = true) → s.rcs.road ≠ .sealed →
      RoadRuns s0 (s.onRcs f).driveStep := fun f hl hr => (h.onRcs f hl fun e => absurd e hr).driveStep
  unfold State.nextStep at hn
  split at hn
  case h_1 e =>
    split at hn <;> cases hn
    exact (h.setRoad _ (by rw [e]; decide)).armClearing
  case h_2 e =>
    split at hn <;> cases hn
    exact drive _ id (by rw [e]; decide)
  case h_3 e =>
    split at hn <;> cases hn
    exact drive (fun m => { m with road := .barrierLowering }) id (by rw [e]; decide)
  case h_4 e =>
    split at hn <;> cases hn
    exact (h.setRoad _ (by rw [e]; decide)).dropCommands
  case h_5 e =>
    split at hn <;> cases hn
    exact drive _ id (by rw [e]; decide)
  case h_6 e =>
    have road : s.rcs.road ≠ .sealed := by rw [e]; decide
    split at hn
    · split at hn <;> cases hn
      · exact drive _ id road
      · exact ((h.setRoad .extinguish road).onRcs _ id id).setTraf .green
    · cases hn
  all_goals cases hn

theorem advance (h : RoadRuns s0 s) : RoadRuns s0 s.advance := by
  have steps : ∀ (n : Nat) {u : State}, RoadRuns s0 u → RoadRuns s0 (State.advanceSteps n u) := by
    intro n
    induction n with
    | zero => exact fun hu => hu
    | succ n ih =>
      intro u hu
      unfold State.advanceSteps
      split
      · exact hu
      · split
        · exact hu
        · next e => exact ih (hu.nextStep e)
  exact steps 6 h

theorem enterEntryLowering (h : RoadRuns s0 s) (hr : s.rcs.road ≠ .sealed) : RoadRuns s0 s.enterEntryLowering :=
  ((h.onRcs _ id fun e => absurd e hr).setTraf .red).driveStep.advance

theorem headsChecked (h : RoadRuns s0 s) : RoadRuns s0 s.headsChecked := by
  refine ite (fun hc => h.enterEntryLowering ?_) fun _ => h
  have hp : s.rcs.road = .prewarn := by
    simp only [Bool.and_eq_true, decide_eq_true_eq] at hc
    exact hc.1.1.2
  rw [hp]
  decide

theorem restartStep (h : RoadRuns s0 s) : RoadRuns s0 s.restartStep :=
  ite (fun _ => h.driveStep.headsChecked.advance) fun _ => h

theorem changeCauses (h : RoadRuns s0 s) {f : Rcs → Rcs} (hf : CausesOnly f) : RoadRuns s0 (s.changeCauses f) :=
  ite (fun _ => (h.setCauses hf).restartStep) fun _ => h.setCauses hf

/-! ### Requests (R86 to R88, R98 to R101) -/

theorem enterPrewarn (h : RoadRuns s0 s) (hr : s.rcs.road ≠ .sealed) : RoadRuns s0 s.enterPrewarn := by
  have begun : s.startBudget.rcs.road = s.rcs.road := by
    unfold State.startBudget
    split <;> rfl
  refine RoadRuns.setTraf (.setWarn (.dropCommands (h.startBudget.onRcs _ (fun hl => ?_) fun e => absurd (begun.symm.trans e) hr)) _) _
  exact Bool.and_eq_true_iff.2 ⟨(Bool.and_eq_true_iff.1 hl).1, rfl⟩

theorem closeRoad (h : RoadRuns s0 s) : RoadRuns s0 s.closeRoad := by
  unfold State.closeRoad
  split
  case h_1 e | h_2 e | h_3 e | h_4 e | h_5 e => exact h.enterPrewarn (by rw [e]; decide)
  all_goals exact h

theorem leaveSealed (h : RoadRuns s0 s) : RoadRuns s0 s.leaveSealed :=
  ite (fun _ => foldl _ (fun _ g hu => hu.reportGate g false) _ h) fun _ => h

theorem keepClosedPlaced (h : RoadRuns s0 s) : RoadRuns s0 s.keepClosedPlaced :=
  ite (fun _ => h.issued (fun m => { m with holding := true, gates := m.gates.mapAll fun r => { r with travel := none } }) id)
    fun _ => h

theorem keepClosedReleased (h : RoadRuns s0 s) : RoadRuns s0 s.keepClosedReleased := by
  refine ite (fun _ => (h.onRcs _ (fun hl => ?_) id).restartStep) fun _ => h
  exact Bool.and_eq_true_iff.2 ⟨(Bool.and_eq_true_iff.1 hl).1, rfl⟩

/-! ### Timers (R91, R93, R94, R96, R99) -/

theorem prewarnExpiry (h : RoadRuns s0 s) : RoadRuns s0 s.prewarnExpiry := by
  refine ite (fun _ => h) fun hc => ?_
  have timed := h.onRcs (fun m => { m with prewarn := none }) id id
  refine ite (fun _ => timed.onRcs _ id id) fun _ => timed.enterEntryLowering ?_
  have hp : s.rcs.road = .prewarn := by
    simp only [Bool.or_eq_true, not_or, decide_eq_true_eq, ne_eq, not_not] at hc
    exact hc.2
  rw [State.onRcs_rcs, hp]
  decide

theorem amberExpiry (h : RoadRuns s0 s) : RoadRuns s0 s.amberExpiry := by
  have timed := h.onRcs (fun m => { m with amber := none }) id id
  exact ite (fun _ => h) fun _ => ite (fun _ => timed.setTraf .red) fun _ => timed

theorem clearingExpiry (h : RoadRuns s0 s) : RoadRuns s0 s.clearingExpiry := by
  unfold State.clearingExpiry
  split
  · exact ite (fun _ => h) fun _ => (h.onRcs _ id id).advance
  · exact h

theorem extinguishExpiry (h : RoadRuns s0 s) : RoadRuns s0 s.extinguishExpiry := by
  refine ite (fun _ => h) fun hc => (h.onRcs _ id fun e => ?_).setWarn .dark
  simp [e] at hc

theorem travelExpiry (h : RoadRuns s0 s) (g : Gate) : RoadRuns s0 (s.travelExpiry g) :=
  ite (fun _ => h) fun _ => ((h.setGate g _).issueGate g).pulseGate g

theorem lowerAgain (h : RoadRuns s0 s) (g : Gate) : RoadRuns s0 (s.lowerAgain g) := (h.setGate g _).driveGates _

theorem settleExpiry (h : RoadRuns s0 s) (g : Gate) : RoadRuns s0 (s.settleExpiry g) := by
  unfold State.settleExpiry
  split
  · exact ite (fun _ => h.lowerAgain g) fun _ => h.setGate g _
  · exact h

/-! ### Input events (R89, R90, R94 to R96, R98, R102) -/

theorem gateMoved (h : RoadRuns s0 s) (g : Gate) (p : GatePos) : RoadRuns s0 (s.gateMoved g p) := by
  have stopped : RoadRuns s0
      (if s.rcs.live && (s.gate g).cmd ≠ .none && some (s.gate g).pos = cmdPos (s.gate g).cmd then
        (s.setGate g { s.gate g with cmd := .none, travel := none }).issueGate g
      else s) := ite (fun _ => (h.setGate g _).issueGate g) fun _ => h
  exact ite (fun _ => stopped.lowerAgain g) fun _ => ite (fun _ => stopped.driveGates _) fun _ => stopped

theorem provingEvent (h : RoadRuns s0 s) (g : Gate) : RoadRuns s0 (s.provingEvent g) := by
  have proven := h.setGate g { s.gate g with pos := s.provenPos g }
  exact ite (fun _ => proven.reportGate g _) fun _ => (proven.gateMoved g _).advance

theorem zoneEvent (h : RoadRuns s0 s) (g : Gate) : RoadRuns s0 (s.zoneEvent g) :=
  ite (fun _ => ite (fun _ => h.setGate g _) fun _ => h) fun _ => ite (fun _ => h.setGate g _) fun _ =>
    ite (fun _ => (h.setGate g _).driveGates _) fun _ => h

theorem loopEvent (h : RoadRuns s0 s) : RoadRuns s0 s.loopEvent := ite (fun _ => h.armClearing) fun _ => h

theorem rcsQualified (h : RoadRuns s0 s) : RoadRuns s0 s.rcsQualified := by
  have poses := foldl (fun s g => s.setGate g { s.gate g with pos := s.provenPos g }) (fun _ g hu => hu.setGate g _) Gate.all h
  exact changeCauses (ite (fun _ => poses.startBudget.onRcs _ id fun _ => rfl) fun _ => poses) fun _ => ⟨rfl, rfl⟩

/-- RCS's part of a line's event, but for the REOPEN button's (line 42). -/
theorem rcsLine (h : RoadRuns s0 s) (l : Fin 48) (b : Bool) (hl : ¬ (l = 42 ∧ b = true)) : RoadRuns s0 (s.rcsLine l b) := by
  unfold State.rcsLine
  split
  case h_1 => exact h.changeCauses fun _ => ⟨rfl, rfl⟩
  case h_18 | h_19 => exact h.loopEvent
  case h_20 => exact ite (fun _ => h.closeRoad) fun _ => h
  case h_21 e =>
    refine ite (fun hb => absurd ?_ hl) fun _ => h
    exact ⟨Fin.ext e, (Bool.and_eq_true_iff.1 hb).1⟩
  case h_22 => exact h
  case h_14 | h_15 | h_16 | h_17 => exact h.zoneEvent _
  all_goals exact h.provingEvent _

/-- What a reopening does up to the change of road state: the GATE conditions of SEALED go, and the budget clock starts. -/
theorem reopenBegins (s : State) : RoadRuns s s.leaveSealed.startBudget := refl.leaveSealed.startBudget

end RoadRuns

/-! ### A reopening (R88, R98, R99) -/

/-- BARRIER_RAISING's own values, before the gates are issued again. -/
def State.raisingBegun (s : State) : State :=
  s.leaveSealed.startBudget.onRcs fun m =>
    { m with road := .barrierRaising, phase := .exit, prewarn := none, amber := none, clearing := .stopped,
             waitingHeads := false, gates := m.gates.mapAll GateRec.clearForRaising }

theorem State.raisingBegun_live (s : State) : s.raisingBegun.rcs.live = s.leaveSealed.startBudget.rcs.live := rfl

theorem State.raisingBegun_gateLines (s : State) : s.raisingBegun.gateLines = s.leaveSealed.startBudget.gateLines := rfl

theorem State.enterBarrierRaising_runs (s : State) : RoadRuns s.raisingBegun s.enterBarrierRaising :=
  RoadRuns.advance (.driveStep (.setTraf (.setWarn (.issued (f := id) .refl id) _) _))

theorem State.enterBarrierRaising_offSequencer (s : State) : s.enterBarrierRaising.offSequencer = s.offSequencer :=
  s.enterBarrierRaising_runs.offSequencer.trans (RoadRuns.reopenBegins s).offSequencer

theorem State.enterBarrierRaising_quiet {s : State} (h : s.smc.motion.quiet) :
    s.enterBarrierRaising.smc = s.smc ∧ s.enterBarrierRaising.pau = s.pau := by
  obtain ⟨hsmc, hpau⟩ := (RoadRuns.reopenBegins s).quiet h
  have hq : s.raisingBegun.smc.motion.quiet := by
    rw [show s.raisingBegun.smc = s.smc from hsmc]
    exact h
  obtain ⟨ksmc, kpau⟩ := s.enterBarrierRaising_runs.quiet hq
  exact ⟨ksmc.trans hsmc, kpau.trans hpau⟩

theorem Motion.quiet_seatedLocked : Motion.quiet .seatedLocked := by simp [Motion.quiet]

theorem State.reopenRoad_cases (s : State) :
    s.reopenRoad.2 = s ∨ s.smc.motion = .seatedLocked ∧ s.reopenRoad.2 = s.enterBarrierRaising := by
  have asked : ∀ c : Bool, ((if c then (.ok, s.enterBarrierRaising) else (.notNow, s)) : Status × State).2 =
      if c then s.enterBarrierRaising else s := fun c => by cases c <;> rfl
  unfold State.reopenRoad
  split
  case h_1 | h_2 | h_3 | h_4 => exact .inl rfl
  all_goals
    rw [asked]
    split
    · next hc =>
      simp only [Bool.and_eq_true, decide_eq_true_eq] at hc
      exact .inr ⟨hc.1, rfl⟩
    · exact .inl rfl

/-- A reopening, which only a span SEATED_LOCKED has, keeps the laws; the road leaves SEALED. -/
theorem RoadKept.reopenRoad {stay : Prop} {s0 s : State} (h : RoadKept stay s0 s)
    (hs : stay → s.smc.motion ≠ .seatedLocked) : RoadKept stay s0 s.reopenRoad.2 := by
  have reopens : s.smc.motion = .seatedLocked → RoadKept stay s0 s.enterBarrierRaising := fun hm => by
    have hbegun := ((RoadRuns.reopenBegins s).kept (stay := stay)).gates
    have hgates := (s.enterBarrierRaising_runs.kept (stay := stay)).gates
    rw [s.raisingBegun_live, s.raisingBegun_gateLines] at hgates
    obtain ⟨hsmc, -⟩ := State.enterBarrierRaising_quiet (s := s) (by rw [hm]; exact Motion.quiet_seatedLocked)
    refine h.trans ⟨hgates ∘ hbegun, fun _ hf => ?_, fun hst => absurd hm (hs hst)⟩
    rw [hsmc, hm] at hf
    cases hf
  obtain hc | ⟨hm, hc⟩ := s.reopenRoad_cases
  · rwa [hc]
  · rw [hc]
    exact reopens hm

end Sys2Proof.Machine
end

section
/-! SUPPORT. The channel, the heads, the holds, the monitors and the lines keep the laws of the gates and of the road under a free
span. -/

namespace Sys2Proof.Machine

namespace RoadKept

variable {stay : Prop} {s0 s : State}

/-- What the road does on its own keeps the laws. -/
theorem road {t : State} (h : RoadKept stay s0 s) (k : RoadRuns s t) : RoadKept stay s0 t := h.trans k.kept

theorem changeCauses (h : RoadKept stay s0 s) {f : Rcs → Rcs} (hf : RoadRuns.CausesOnly f) : RoadKept stay s0 (s.changeCauses f) :=
  h.road (RoadRuns.refl.changeCauses hf)

theorem budgetTick (h : RoadKept stay s0 s) : RoadKept stay s0 s.budgetTick := by
  have ticked := h.road (.onRcs .refl (fun m => { m with budget := m.budget - 1, budgetTimer := startTimer (secTicks 1) }) id id)
  exact ite (fun _ => h) fun _ => ite (fun _ => ticked.channel (State.budgetSpent_offChannel _)) fun _ => ticked

/-! ### The channel (chapters 7 and 8) -/

theorem decideAspects (h : RoadKept stay s0 s) : RoadKept stay s0 s.decideAspects := h.channel s.decideAspects_offChannel

theorem finishingTest (h : RoadKept stay s0 s) : RoadKept stay s0 s.finishingTest := h.channel s.finishingTest_offChannel

theorem admissionTest (h : RoadKept stay s0 s) : RoadKept stay s0 s.admissionTest := h.channel s.admissionTest_offChannel

theorem evaluateClearance (h : RoadKept stay s0 s) : RoadKept stay s0 s.evaluateClearance :=
  (h.onPau _).reportFault 34 _

theorem departed (h : RoadKept stay s0 s) : RoadKept stay s0 s.departed := by
  have left : RoadKept stay s0 s.settleDirection.closeIfEmpty.closeIfSpent := h.channel (by
    rw [State.closeIfSpent_offChannel, State.closeIfEmpty_offChannel, State.settleDirection_offChannel])
  exact left.evaluateClearance.finishingTest.decideAspects

theorem retirePassage (h : RoadKept stay s0 s) (i : Fin 16) : RoadKept stay s0 (s.retirePassage i) := by
  have hu : RoadKept stay s0 (s.onPau fun u => u.retire i) := h.congr rfl
  exact ite (fun _ => hu.departed) fun _ => hu

theorem enters (h : RoadKept stay s0 s) (x : Handle 16) : RoadKept stay s0 (s.enters x) := by
  unfold State.enters
  split
  · exact h
  · next p _ =>
    have entered : RoadKept stay s0 (s.setPassage x.slot { p with state := .transiting }) := h.congr rfl
    exact entered.evaluateClearance.quickStop

theorem intrusion (h : RoadKept stay s0 s) : RoadKept stay s0 s.intrusion := by
  have reported := (h.onPau fun u => { u with intrusion := true }).reportFault 33 true
  simp only [State.intrusion]
  unfold State.requestDanger
  split
  · exact reported.channel (State.startAspect_offChannel _ _ _)
  · exact reported.channel (State.startAspect_offChannel _ _ _)
  · exact reported

theorem endIntrusion (h : RoadKept stay s0 s) : RoadKept stay s0 s.endIntrusion :=
  ite (fun _ => (h.onPau _).reportFault 33 false) fun _ => h

theorem beamBreaks (h : RoadKept stay s0 s) (b : Beam) : RoadKept stay s0 (s.beamBreaks b) := by
  unfold State.beamBreaks
  split
  · exact h.intrusion
  · simp only []
    split
    · split
      · exact h.enters _
      · exact h.intrusion
    · exact ite (fun _ => h.intrusion) fun _ => h

theorem beamRestores (h : RoadKept stay s0 s) (b : Beam) : RoadKept stay s0 (s.beamRestores b) := by
  unfold State.beamRestores
  split
  · exact h
  · refine ite (fun _ => h) fun _ => ?_
    split
    · exact h.retirePassage _
    · exact h.intrusion

theorem beamEvent (h : RoadKept stay s0 s) (b : Beam) (clear : Bool) : RoadKept stay s0 (s.beamEvent b clear) := by
  have hu : RoadKept stay s0 (if clear then (s.beamRestores b).finishingTest else s.beamBreaks b) :=
    ite (fun _ => (h.beamRestores b).finishingTest) fun _ => h.beamBreaks b
  exact hu.endIntrusion.decideAspects

theorem group (h : RoadKept stay s0 s) (x : Handle 16) : RoadKept stay s0 (s.group x) := by
  unfold State.group
  split
  · exact h
  · exact h.congr rfl

theorem joinTest (h : RoadKept stay s0 s) (i : Fin 16) : RoadKept stay s0 (s.joinTest i) := by
  unfold State.joinTest
  simp only []
  split
  · exact h
  · refine ite (fun _ => ?_) fun _ => h
    have joined := h.group (s.handleAt i)
    exact decideAspects (ite (fun _ => joined.admissionTest) fun _ => joined)

theorem markUnreachable (h : RoadKept stay s0 s) (i : Fin 16) : RoadKept stay s0 (s.markUnreachable i) := by
  unfold State.markUnreachable
  split
  · exact ite (fun _ => h.congr rfl) fun _ => h
  · exact h

theorem formOpening (h : RoadKept stay s0 s) : RoadKept stay s0 s.formOpening := by
  have marked := h.foldl State.markUnreachable (fun _ i hu => hu.markUnreachable i) (List.finRange 16)
  simp only [State.formOpening]
  generalize (List.finRange 16).foldl State.markUnreachable s = u at marked ⊢
  have opened : RoadKept stay s0 (u.onOpening fun _ =>
      { Opening.absent with state := .gathered, target := some (u.targetFor (u.eligibleOrder.take 8)) }) := marked.congr rfl
  have stopped := (opened.foldl State.group (fun _ x hu => hu.group x) (u.eligibleOrder.take 8)).quickStop
  exact decideAspects (ite (fun _ => stopped.holdingEntered) fun _ => stopped)

theorem countWait (h : RoadKept stay s0 s) (i : Fin 16) : RoadKept stay s0 (s.countWait i) := by
  unfold State.countWait
  split
  · exact h
  · next p _ =>
    have counted : RoadKept stay s0 (s.setPassage i { p with wait := p.wait - 1 }) := h.congr rfl
    exact ite (fun _ => counted.joinTest i) fun _ => counted

theorem lapse (h : RoadKept stay s0 s) (i : Fin 16) (p : Passage) : RoadKept stay s0 (s.lapse i p) :=
  ite (fun _ => h.retirePassage i) fun _ => h.congr rfl

theorem countExpiry (h : RoadKept stay s0 s) (i : Fin 16) : RoadKept stay s0 (s.countExpiry i) := by
  unfold State.countExpiry
  split
  · exact h
  · split
    · exact ite (fun _ => h.lapse i _) fun _ => h.congr rfl
    · exact ite (fun _ => h.retirePassage i) fun _ => h.congr rfl
    · exact h

theorem tickPassages (h : RoadKept stay s0 s) : RoadKept stay s0 s.tickPassages := by
  have tick : ∀ (u : State) (i : Fin 16), RoadKept stay s0 u → RoadKept stay s0 (u.tickRecord i) :=
    fun _ i hu => (hu.countWait i).countExpiry i
  exact inAnyOrder _ tick _ (h.foldl _ tick _)

theorem pauTakesSet (h : RoadKept stay s0 s) : RoadKept stay s0 s.pauTakesSet := by
  have admitted : RoadKept stay s0 s.setAdmission := h.channel s.setAdmission_offChannel
  rw [State.pauTakesSet_eq]
  refine decideAspects ?_
  unfold State.setClearance
  split
  · exact admitted
  · next c _ =>
    have noted : RoadKept stay s0 (s.setAdmission.onPau fun u => { u with lastClearance := some c }) := admitted.congr rfl
    exact noted.evaluateClearance

theorem channelHeadChanged (h : RoadKept stay s0 s) (d : Dir) : RoadKept stay s0 (s.channelHeadChanged d) :=
  decideAspects (ite (fun _ => h.channel (State.callBack_offChannel _ _)) fun _ => h)

/-! ### Heads and lamp proving (chapter 6) -/

theorem deliverImpaired (h : RoadKept stay s0 s) (hd : Head) : RoadKept stay s0 (s.deliverImpaired hd) := by
  cases hd
  case chanU => exact h.channelHeadChanged .down
  case chanD => exact h.channelHeadChanged .up
  case horn => exact h
  all_goals exact h.road RoadRuns.refl.headsChecked

theorem reportLamp (h : RoadKept stay s0 s) (i : Fin 15) (b : Bool) : RoadKept stay s0 (s.reportLamp i b) := by
  have reported := h.reportFault (lampFault i) b
  exact ite (fun _ => ite (fun _ => reported) fun _ => (reported.onPg _).deliverImpaired _) fun _ => h

theorem checkLamp (h : RoadKept stay s0 s) (x : Fin 15 × Bool) : RoadKept stay s0 (s.checkLamp x) :=
  ite (fun _ => h) fun _ => h.onPg _

theorem proveHead (h : RoadKept stay s0 s) (hd : Head) : RoadKept stay s0 (s.proveHead hd) :=
  ite (fun _ => h) fun _ => inAnyOrder _ (fun _ x hu => hu.reportLamp x.1 x.2) _ (h.foldl _ (fun _ x hu => hu.checkLamp x) _)

theorem provingPointOf (h : RoadKept stay s0 s) (hd : Head) : RoadKept stay s0 (s.provingPointOf hd) := by
  have hu : RoadKept stay s0 (s.setRun hd { s.pg.heads.get hd with proving := none }) := h.onPg _
  exact ite (fun _ => h) fun _ => hu.proveHead hd

theorem startAspect (h : RoadKept stay s0 s) (hd : Head) (a : Aspect) : RoadKept stay s0 (s.startAspect hd a) := 
  h.channel (s.startAspect_offChannel hd a)

theorem endStep (h : RoadKept stay s0 s) (hd : Head) : RoadKept stay s0 (s.endStep hd) := by
  unfold State.endStep
  simp only []
  split
  · exact h
  · exact h.startAspect hd _
  · exact ite (fun _ => h.startAspect hd _) fun _ => h.channel (s.showStep_offChannel hd _)

theorem stepExpiry (h : RoadKept stay s0 s) (hd : Head) : RoadKept stay s0 (s.stepExpiry hd) := by
  have hu : RoadKept stay s0 (s.setRun hd { s.pg.heads.get hd with stepTimer := none }) := h.onPg _
  have proved := hu.provingPointOf hd
  exact ite (fun _ => h) fun _ => ite (fun _ => ite (fun _ => proved) fun _ => proved.endStep hd) fun _ => h.endStep hd

theorem displaceLamps (h : RoadKept stay s0 s) (was : List (Fin 40)) : RoadKept stay s0 (s.displaceLamps was) := by
  refine h.foldl _ (fun u i hu => ?_) _
  have zero := hu.onPg fun g => { g with lamps := g.lamps.set i { litMiss := 0, darkMiss := 0 } }
  exact ite (fun _ => zero.reportLamp i true) fun _ => ite (fun _ => zero.reportLamp i false) fun _ => hu

/-! ### Holds (chapter 9) -/

theorem deliverPlaced (h : RoadKept stay s0 s) (k : HoldKind) (was : Bool) : RoadKept stay s0 (s.deliverPlaced k was) := by
  cases k
  case keepClosed => exact h.road RoadRuns.refl.keepClosedPlaced
  case marineStop => exact ite (fun _ => h) fun _ => h.channel s.marineStopPlaced_offChannel
  case noRaise => exact h.smcHoldPlaced .noRaise
  case noLower => exact h.smcHoldPlaced .noLower
  case noMotion => exact h.smcHoldPlaced .noMotion

theorem deliverReleased (h : RoadKept stay s0 s) (k : HoldKind) : RoadKept stay s0 (s.deliverReleased k) := by
  cases k
  case keepClosed => exact h.road RoadRuns.refl.keepClosedReleased
  case marineStop => exact ite (fun _ => h) fun _ => h.decideAspects
  all_goals exact h

theorem setFixed (h : RoadKept stay s0 s) (l : List (Fin 4)) (on : Bool) : RoadKept stay s0 (s.setFixed l on) := by
  refine ite (fun _ => ?_) fun _ => ?_
  · exact foldl _ (fun _ i hu => hu.deliverPlaced _ false) _ (h.foldl State.placeFixed (fun _ _ hu => hu.onHt _) _)
  · refine foldl _ (fun _ i hu => hu.deliverReleased _) _ (h.foldl State.retireFixed (fun u i hu => ?_) _)
    exact ite (fun _ => hu.onHt _) fun _ => hu

theorem htLine (h : RoadKept stay s0 s) (l : Fin 48) (b : Bool) : RoadKept stay s0 (s.htLine l b) := by
  unfold State.htLine
  split
  case h_4 => exact h
  all_goals exact h.setFixed _ b

theorem htQualified (h : RoadKept stay s0 s) : RoadKept stay s0 s.htQualified := by
  have step : ∀ {u : State} (c : Bool) (l : List (Fin 4)), RoadKept stay s0 u → RoadKept stay s0 (if c then u.setFixed l true else u) :=
    fun _ l hu => ite (fun _ => hu.setFixed l true) fun _ => hu
  exact step _ [2, 3] (step _ [1] (step _ [0] h))

theorem placeHold (h : RoadKept stay s0 s) (p : Port) (k : HoldKind) (reason : Nat) : RoadKept stay s0 (s.placeHold p k reason).2 := by
  unfold State.placeHold
  split
  · simp only []
    split
    · exact h.onHt _
    · exact h
  · split
    · exact h
    · exact (h.onHt _).deliverPlaced k _

/-! ### Monitors and acknowledgement (chapter 10) -/

theorem windEvent (h : RoadKept stay s0 s) (e : MonitorEvent) : RoadKept stay s0 (s.windEvent e) := by
  cases e with
  | none => exact h
  | toAlert => exact (h.onMfs _).haltIn _
  | toNormal _ => exact h.onMfs fun m => m.flagBoth fun f => { f with windFall := true }

theorem supplyEvent (h : RoadKept stay s0 s) (e : MonitorEvent) : RoadKept stay s0 (s.supplyEvent e) := by
  cases e with
  | none => exact h
  | toAlert => exact ((h.onMfs _).haltIn _).changeCauses fun _ => ⟨rfl, rfl⟩
  | toNormal _ =>
    have flagged := h.onMfs fun m => m.flagBoth fun f => { f with supplyFall := true }
    exact ite (fun _ => flagged.changeCauses fun _ => ⟨rfl, rfl⟩) fun _ => flagged

theorem windowEnd (h : RoadKept stay s0 s) : RoadKept stay s0 s.windowEnd :=
  ite (fun _ => h) fun _ => ((h.onIq _).onMfs _).windEvent _

theorem mfsTakesSet (h : RoadKept stay s0 s) : RoadKept stay s0 s.mfsTakesSet := by
  unfold State.mfsTakesSet
  split
  · exact h
  · exact (h.onMfs _).supplyEvent _

theorem supplyExpiry (h : RoadKept stay s0 s) : RoadKept stay s0 s.supplyExpiry :=
  ite (fun _ => h) fun _ => (h.onMfs _).supplyEvent _

theorem rcsAcknowledged (h : RoadKept stay s0 s) : RoadKept stay s0 s.rcsAcknowledged := h.changeCauses fun _ => ⟨rfl, rfl⟩

theorem acknowledge (h : RoadKept stay s0 s) : RoadKept stay s0 s.acknowledge.2 := by
  have cleared : RoadKept stay s0 s.clearLatched := by
    unfold State.clearLatched
    exact (h.onMfs _).setCmd _ (.inr (by decide))
  have released : RoadKept stay s0 s.clearLatched.releaseLatch :=
    (cleared.onOm (fun o => { o with latch := false }) rfl).compare
  have freed : RoadKept stay s0 (if s.latchedFaults.contains 0 then s.clearLatched.releaseLatch else s.clearLatched) :=
    ite (fun _ => released) fun _ => cleared
  exact freed.rcsAcknowledged.smcAcknowledged

/-! ### Drive periods and scans (chapter 2) -/

theorem examineTower (h : RoadKept stay s0 s) (w : Tower) : RoadKept stay s0 (s.examineTower w) :=
  ite (fun _ => h.setBrake w) fun _ => h

theorem periodBoundary (h : RoadKept stay s0 s) : RoadKept stay s0 s.periodBoundary := by
  refine ite (fun _ => h) fun _ => ?_
  have transferred := (h.onSmc (fun m => { m with periodTimer := startTimer (msTicks s.act.tp) }) .inl).onOm Om.transfer rfl
  exact ((transferred.examineTower .a).examineTower .b).compare.congr rfl

theorem deliverSet (h : RoadKept stay s0 s) (c : Consumer) : RoadKept stay s0 (s.deliverSet c) := by
  cases c
  exacts [h.smcTakesSet, h.pauTakesSet, h.mfsTakesSet]

theorem completeScan (h : RoadKept stay s0 s) (codes : RawCodes) : RoadKept stay s0 (s.completeScan codes) := by
  unfold State.completeScan
  split
  · exact h
  · refine inAnyOrder _ (fun _ c hu => hu.deliverSet c) _ (onMu ?_ _)
    exact inAnyOrder _ (fun _ (x : Fin 37 × Bool) hu => hu.tripReport x.1 x.2) _ (h.onMu _)

/-! ### Lines (chapter 1) -/

/-- RCS's part of a line's event: the REOPEN button's reopens the road under a span SEATED_LOCKED alone. -/
theorem rcsLine (h : RoadKept stay s0 s) (l : Fin 48) (b : Bool) (hl : stay → ¬ (l = 42 ∧ b = true)) :
    RoadKept stay s0 (s.rcsLine l b) := by
  by_cases hp : l = 42 ∧ b = true
  · obtain ⟨rfl, rfl⟩ := hp
    exact ite (fun _ => h.reopenRoad fun hs => absurd ⟨rfl, rfl⟩ (hl hs)) fun _ => h
  · exact h.road (RoadRuns.refl.rcsLine l b hp)

theorem deliverRest (h : RoadKept stay s0 s) (l : Fin 48) (b : Bool) : RoadKept stay s0 (s.deliverRest l b) := by
  have beams : RoadKept stay s0 (if l = 33 then s.beamEvent .u b else if l = 34 then s.beamEvent .d b else s) :=
    ite (fun _ => h.beamEvent .u b) fun _ => ite (fun _ => h.beamEvent .d b) fun _ => h
  exact smcLine (ite (fun _ => beams.reportEstop) fun _ => beams) l b

theorem deliverLine (h : RoadKept stay s0 s) (l : Fin 48) (hl : stay → ¬ (l = 42 ∧ s.line l = true)) :
    RoadKept stay s0 (s.deliverLine l) := ((h.rcsLine l _ hl).htLine l _).deliverRest l _

theorem takeFirstLevels (h : RoadKept stay s0 s) (x : FirstLevels) : RoadKept stay s0 (s.takeFirstLevels x) := by
  cases x
  · exact h.reportEstop
  · exact (h.compare.tripReport 2 _).leaveInitial

theorem qualificationComplete (h : RoadKept stay s0 s) : RoadKept stay s0 s.qualificationComplete :=
  
  (road (inAnyOrder _ (fun _ x hu => hu.takeFirstLevels x) _ h) RoadRuns.refl.rcsQualified).htQualified

/-- The events of a sampling instant, in whatever order. -/
theorem deliverLines (h : RoadKept stay s0 s) (ls : List (Fin 48)) (hl : stay → 42 ∈ ls → s.line 42 = false) :
    RoadKept stay s0 (s.inAnyOrder ls State.deliverLine) := by
  refine (State.inAnyOrder_keeps (fun u => RoadKept stay s0 u ∧ u.stores = s.stores) State.deliverLine ls s ?_ ?_).1
  · rintro l hmem u ⟨hu, hstores⟩
    refine ⟨hu.deliverLine l ?_, (u.deliverLine_stores l).trans hstores⟩
    rintro hs ⟨rfl, hline⟩
    rw [State.stores_line hstores, hl hs hmem] at hline
    cases hline
  · exact fun _ => ⟨h.congr rfl, rfl⟩

/-- A sampling instant that does not qualify the REOPEN button pressed leaves SEALED to no line. -/
theorem sample (h : RoadKept stay s0 s) (lines : BitVec 48) (lamps : BitVec 15)
    (hl : stay → (s.sample lines lamps).line 42 = true → s.line 42 = true) : RoadKept stay s0 (s.sample lines lamps) := by
  by_cases ht : s.iq.samplingTimer.isSome = true
  · have held : RoadKept stay s0 (s.sampled lines lamps) := h.onIq _
    rw [State.stores_line (State.sample_stores ht lines lamps)] at hl
    rw [State.sample_eq ht]
    split
    · next a b ha hb =>
      have hq : (s.sampled lines lamps).iq.qualified = some b := hb
      rw [State.line_of_qualified hq, State.line_of_qualified ha] at hl
      refine held.compare.deliverLines _ fun hs hmem => ?_
      have hchanged := (mem_changedLines (by decide) (by decide)).1 hmem
      rw [State.stores_line (s.sampled lines lamps).compare_stores, State.line_of_qualified hq]
      refine Bool.eq_false_iff.2 fun hnew => hchanged ?_
      rw [hl hs hnew, hnew]
    · exact held.qualificationComplete
    · exact held
  · rwa [State.sample, if_pos (by simpa using ht)]

theorem loopOpens (h : RoadKept stay s0 s) : RoadKept stay s0 s.loopOpens := by
  have hu : RoadKept stay s0 (s.onOm fun o => { o with loopClosed := false }) := h.congr rfl
  exact ite (fun _ => hu.setLatch.reportEstop.compare) fun _ => hu.congr rfl

theorem loopCloses (h : RoadKept stay s0 s) : RoadKept stay s0 s.loopCloses := by
  have hu : RoadKept stay s0 (s.onOm fun o => { o with loopClosed := true }) := h.congr rfl
  exact ite (fun _ => hu.reportEstop) fun _ => hu.congr rfl

end RoadKept

end Sys2Proof.Machine
end

section
/-! SUPPORT. The entries, the ports and the requests keep the laws of the gates and of the road under a free span. -/

namespace Sys2Proof.Machine

/-! ### Time on RCS's timers (R101, R103) -/

theorem Rcs.less_road (r : Rcs) (d : Ticks) : (r.less d).road = r.road := by
  simp only [Rcs.less]
  split <;> rfl

theorem Rcs.less_live (r : Rcs) (d : Ticks) : (r.less d).live = r.live := by
  simp only [Rcs.less]
  split <;> rfl

namespace RoadKept

variable {stay : Prop} {s0 s : State}

/-! ### The entry to CONFIGURED and the resets (R215 to R218) -/

/-- Every command off and the span not free, where the road may leave SEALED. -/
theorem of_off (hs : ¬ stay) (hc : ∀ f, s.cmd f = false) (hm : s.smc.motion.free = false) : RoadKept stay s0 s :=
  anew hs (fun g => ⟨by simp [State.gateLines, hc], fun _ => ⟨hc _, hc _⟩⟩) hm

theorem cmd_of_reset (h : s.om.command = Vector.replicate 40 false) (f : Fin 40) : s.cmd f = false := by
  simp [State.cmd, h]

theorem entryValues (hs : ¬ stay) (s : State) : RoadKept stay s0 s.entryValues := of_off hs (cmd_of_reset rfl) rfl

theorem reportDisplaced (h : RoadKept stay s0 s) : RoadKept stay s0 s.reportDisplaced := h.reportFault 36 _

theorem entryLoop (h : RoadKept stay s0 s) : RoadKept stay s0 s.entryLoop := ite (fun _ => h) fun _ => h.setLatch.reportEstop

theorem startPeriod (h : RoadKept stay s0 s) : RoadKept stay s0 (s.onSmc fun m => { m with periodTimer := startTimer 0 }) :=
  h.onSmc _ .inl

theorem resolve (h : RoadKept stay s0 s) (c : Settings) : RoadKept stay s0 (s.onOm fun o => o.resolve c) :=
  h.onOm _ (by rw [Om.resolve])

theorem enterConfigured (hs : ¬ stay) (s : State) : RoadKept stay s0 s.enterConfigured := by
  have lit := (entryValues (s0 := s0) hs s).foldl (fun u hd => u.startAspect hd (entryAspect hd))
    (fun _ hd hu => hu.startAspect hd _) Head.all
  unfold State.enterConfigured
  exact (lit.reportDisplaced.displaceLamps []).entryLoop.startPeriod.periodBoundary

theorem restartHead (h : RoadKept stay s0 s) (hd : Head) : RoadKept stay s0 (s.restartHead hd) := by
  unfold State.restartHead
  split
  · exact h
  · exact h.startAspect hd _

theorem recommit (h : RoadKept stay s0 s) : RoadKept stay s0 s.recommit := by
  have lit := (road (h.resolve s.act) (.onRcs .refl (fun m => { m with budget := s.act.bmax.toNat }) id id)).foldl State.restartHead
    (fun _ hd hu => hu.restartHead hd) Head.all
  unfold State.recommit
  exact lit.reportDisplaced.displaceLamps _

theorem commit (h : RoadKept stay s0 s) (hs : stay → s.configured = true) : RoadKept stay s0 s.commit :=
  ite (fun _ => ((h.onCs _).onMu _).recommit) fun hn => enterConfigured (fun k => hn (hs k)) _

theorem restartActs (hs : ¬ stay) (s : State) : RoadKept stay s0 s.restartActs := enterConfigured hs _

theorem powerOn (hs : ¬ stay) (s : State) : RoadKept stay s0 s.powerOn := of_off hs (cmd_of_reset rfl) rfl

/-! ### The ports (chapter 11) -/

theorem replyEnded (h : RoadKept stay s0 s) (r : Reply) (hr : stay → r.restarts = false) : RoadKept stay s0 (s.replyEnded r) := by
  refine ite (fun hc => restartActs (fun hs => ?_) _) fun _ =>
    (onPort (ite (fun _ => (h.onPort _ _).onPort _ _) fun _ => h) _ _).onPort _ _
  rw [hr hs] at hc
  cases hc

theorem replyCompletes (h : RoadKept stay s0 s) (p : Port) (hp : stay → s.holdsRestart p = false) :
    RoadKept stay s0 (s.replyCompletes p) := by
  unfold State.holdsRestart at hp
  unfold State.replyCompletes
  split
  · next e =>
    rw [e] at hp
    exact (h.onPort p _).replyEnded _ hp
  · exact h

theorem abandonReply (h : RoadKept stay s0 s) (p : Port) (e f : Bool) (hp : stay → s.holdsRestart p = false) :
    RoadKept stay s0 (s.abandonReply p e f) := by
  unfold State.holdsRestart at hp
  unfold State.abandonReply
  split
  · exact h
  · next e =>
    rw [e] at hp
    exact (h.onPort p _).replyEnded _ hp
  · next e =>
    rw [e] at hp
    exact (h.onPort p _).replyEnded _ hp

theorem charReceived (h : RoadKept stay s0 s) (p : Port) (x : RxChar) (hp : stay → s.holdsRestart p = false) :
    RoadKept stay s0 (s.charReceived p x) := by
  unfold State.charReceived
  split
  · exact h
  · split
    · unfold State.readBack
      split
      · exact h
      · exact ite (fun _ => h.onPort p _) fun _ => h.abandonReply p _ _ hp
    · exact ite (fun _ => h.abandonReply p _ _ hp) fun _ => h.onPort p _
    · exact h.onPort p _

theorem takeRequest (h : RoadKept stay s0 s) (p : Port) (row : Instr) (owner : Frame → State → Answer × State)
    (ho : ∀ f u, RoadKept stay s0 u → u.smc = s.smc → u.cs = s.cs → RoadKept stay s0 (owner f u).2) :
    RoadKept stay s0 (s.takeRequest p row owner) := by
  unfold State.takeRequest
  split
  · exact h
  · split
    · simp only []
      split
      · exact (h.onPort p _).onPort p _
      · exact (ho _ _ (h.onPort p _) rfl rfl).onPort p _
    · exact h

/-! ### What the requests do (R62 to R72, R133 to R153, R181 to R184, R210, R214, R215) -/

theorem clearFlags (h : RoadKept stay s0 s) (p : Port) : RoadKept stay s0 (s.clearFlags p) := h.onMfs _

theorem setPending (h : RoadKept stay s0 s) (c : Settings) : RoadKept stay s0 (s.onCs fun x => { x with pendingSet := c }) :=
  h.onCs _

theorem setPassage (h : RoadKept stay s0 s) (i : Fin 16) (r : Passage) : RoadKept stay s0 (s.setPassage i r) := h.onPau _

theorem fileAt (h : RoadKept stay s0 s) (i : Fin 16) (r : Passage) : RoadKept stay s0 (s.fileAt i r) := by
  have filed := (h.setPassage i r).onPau fun u => { u with queue := u.queue ++ [s.handleAt i] }
  exact ite (fun _ => filed.joinTest i) fun _ => filed

theorem releaseHold (h : RoadKept stay s0 s) (i : Fin 12) (k : HoldKind) : RoadKept stay s0 (s.releaseHold i k) :=
  (h.onHt _).deliverReleased k

theorem ownReadStatus (h : RoadKept stay s0 s) (p : Port) (f : Frame) : RoadKept stay s0 (s.ownReadStatus p f).2 := by
  unfold State.ownReadStatus
  simp only []
  split
  · exact h
  · exact h.clearFlags p

theorem ownFilePassage (h : RoadKept stay s0 s) (p : Port) (f : Frame) : RoadKept stay s0 (s.ownFilePassage p f).2 := by
  unfold State.ownFilePassage
  split
  · exact h
  · split
    · exact h
    · split
      · exact h
      · split
        · exact h.fileAt _ _
        · exact h

theorem ownAmendPassage (h : RoadKept stay s0 s) (p : Port) (f : Frame) : RoadKept stay s0 (s.ownAmendPassage p f).2 := by
  unfold State.ownAmendPassage
  split
  · exact h
  · split
    · exact h
    · split
      · exact h
      · split
        · exact h
        · split
          · exact h
          · exact ite (fun _ => (h.setPassage _ _).joinTest _) fun _ => h.setPassage _ _

theorem ownWithdrawPassage (h : RoadKept stay s0 s) (p : Port) (f : Frame) : RoadKept stay s0 (s.ownWithdrawPassage p f).2 := by
  unfold State.ownWithdrawPassage
  split
  · exact h
  · split
    · exact h
    · split
      · exact h
      · split
        · exact h
        · exact h.retirePassage _

theorem ownBeginOpening (h : RoadKept stay s0 s) (f : Frame) : RoadKept stay s0 (s.ownBeginOpening f).2 := by
  have formed := h.formOpening
  generalize hf : s.formOpening = u at formed
  rw [State.ownBeginOpening, hf, apply_ite Prod.snd]
  exact ite (fun _ => formed) fun _ => h

theorem ownEndOpening (h : RoadKept stay s0 s) (f : Frame) : RoadKept stay s0 (s.ownEndOpening f).2 := by
  unfold State.ownEndOpening
  split
  · exact (h.channel s.enterClosing_offChannel).decideAspects
  · exact (h.channel s.enterClosing_offChannel).decideAspects
  · exact h
  · exact h

theorem ownPlaceHold (h : RoadKept stay s0 s) (p : Port) (f : Frame) : RoadKept stay s0 (s.ownPlaceHold p f).2 := by
  unfold State.ownPlaceHold
  split
  · exact h
  · split
    · exact h
    · simp only []
      split
      · exact h.placeHold p _ _
      · exact h.placeHold p _ _

theorem ownReleaseHold (h : RoadKept stay s0 s) (p : Port) (f : Frame) : RoadKept stay s0 (s.ownReleaseHold p f).2 := by
  unfold State.ownReleaseHold
  split
  · exact h
  · split
    · exact h
    · split
      · exact h.releaseHold _ _
      · exact h

theorem ownLoadSetting (h : RoadKept stay s0 s) (f : Frame) : RoadKept stay s0 (s.ownLoadSetting f).2 := by
  unfold State.ownLoadSetting
  split
  · exact h
  · exact h.setPending _

theorem ownCommit (h : RoadKept stay s0 s) (f : Frame) (hs : stay → s.configured = true) : RoadKept stay s0 (s.ownCommit f).2 := by
  unfold State.ownCommit
  split
  · exact h
  · split
    · exact h
    · exact h.commit hs

/-! ### The ports and the passing of time -/

theorem frameCompletes (h : RoadKept stay s0 s) (p : Port) (f : Frame) : RoadKept stay s0 (s.frameCompletes p f) := by
  unfold State.frameCompletes
  split
  · exact h
  · split
    · exact h
    · exact h.onPort p _

theorem frameAbandons (h : RoadKept stay s0 s) (p : Port) : RoadKept stay s0 (s.frameAbandons p) := by
  unfold State.frameAbandons
  split
  · exact h.onPort p _
  · exact h

theorem driverRises (h : RoadKept stay s0 s) (p : Port) : RoadKept stay s0 (s.driverRises p) := by
  unfold State.driverRises
  split
  · exact h.onPort p _
  · exact h

theorem dropFrame (h : RoadKept stay s0 s) (p : Port) :
    RoadKept stay s0 (match s.takeable p with
      | none => s
      | some b => if takeCommand p b.frame = .frameDropped p then s.onPort p PortRec.pop else s) := by
  split
  · exact h
  · exact ite (fun _ => h.onPort p _) fun _ => h

theorem startPeriodOf (h : RoadKept stay s0 s) (t : Tower) :
    RoadKept stay s0 (s.onOm fun o => { o with speed := o.speed.set t (o.speed.get t).startPeriod }) := h.onOm _ rfl

/-- Time passes over RCS's timers alone. -/
theorem elapse (h : RoadKept stay s0 s) (d : Ticks) : RoadKept stay s0 (s.elapse d) := by
  have hr : (s.elapse d).rcs.road = s.rcs.road := s.rcs.less_road d
  have hl : (s.elapse d).rcs.live = s.rcs.live := s.rcs.less_live d
  refine h.trans ⟨fun hg => ?_, fun hs hm => ?_, fun _ hs => ?_⟩
  · rw [hl]
    exact hg
  · rw [hr]
    exact hs hm
  · rw [hr]
    exact hs

theorem choose (h : RoadKept stay s0 s) (l : List Instr) : RoadKept stay s0 (s.choose l).2 := by
  unfold State.choose
  split
  · exact h
  · exact h
  · exact h.congr rfl

theorem nextEvent (h : RoadKept stay s0 s) : RoadKept stay s0 s.nextEvent.2 := by
  unfold State.nextEvent
  split
  · exact h.choose _
  · split
    · exact h
    · next d _ => exact choose (RoadKept.congr (t := { s.elapse d with free := s.free + 1 }) (h.elapse d) rfl) _

end RoadKept

section
variable {stay : Prop}

/-! ### Every command and every step -/

/-- Every command keeps the laws; and, where `stay` shuts out what takes a SEALED road away, it keeps SEALED. -/
theorem exec_roadKept (c : Instr) {s : State} (hc : stay → s.configured = true) (hm : stay → s.smc.motion ≠ .seatedLocked)
    (hr : stay → mayReset c s = false)
    (hl : ∀ lines lamps, c = .samplingInstant lines lamps → stay → (s.sample lines lamps).line 42 = true → s.line 42 = true) :
    ∀ t, exec c s = .next t → RoadKept stay s t := by
  have h : RoadKept stay s s := .refl s
  have request : ∀ (p : Port) (row : Instr) (owner : Frame → State → Answer × State),
      (∀ f u, RoadKept stay s u → RoadKept stay s (owner f u).2) → RoadKept stay s (s.takeRequest p row owner) :=
    fun p row owner ho => h.takeRequest p row owner fun f u hu _ _ => ho f u hu
  have reset : mayReset c s = true → ¬ stay := fun e hs => Bool.false_ne_true ((hr hs).symm.trans e)
  cases c with
  | powerOnReset => exact keeps_next (RoadKept.powerOn (reset rfl) _)
  | resetLine => exact keeps_next (RoadKept.powerOn (reset rfl) _)
  | readStatus p => exact keeps_next (request _ _ _ fun f _ hu => hu.ownReadStatus p f)
  | readMeasurements p => exact keeps_next (request _ _ _ fun _ _ hu => hu)
  | readFaults p => exact keeps_next (request _ _ _ fun _ _ hu => hu)
  | readHolds p => exact keeps_next (request _ _ _ fun f u hu => by rwa [u.ownReadHolds_state])
  | readPassage p => exact keeps_next (request _ _ _ fun f u hu => by rwa [u.ownReadPassage_state])
  | findPassage p => exact keeps_next (request _ _ _ fun f u hu => by rwa [u.ownFindPassage_state])
  | listPassages p => exact keeps_next (request _ _ _ fun _ _ hu => hu)
  | filePassage p => exact keeps_next (request _ _ _ fun f _ hu => hu.ownFilePassage p f)
  | amendPassage p => exact keeps_next (request _ _ _ fun f _ hu => hu.ownAmendPassage p f)
  | withdrawPassage p => exact keeps_next (request _ _ _ fun f _ hu => hu.ownWithdrawPassage p f)
  | beginOpening p => exact keeps_next (request _ _ _ fun f _ hu => hu.ownBeginOpening f)
  | endOpening p => exact keeps_next (request _ _ _ fun f _ hu => hu.ownEndOpening f)
  | closeRoad p => exact keeps_next (request _ _ _ fun _ _ hu => hu.road RoadRuns.refl.closeRoad)
  | reopenRoad p => exact keeps_next (h.takeRequest _ _ _ fun _ u hu hsmc _ => hu.reopenRoad fun hs => by rw [hsmc]; exact hm hs)
  | raiseSpan p => exact keeps_next (request _ _ _ fun _ _ hu => hu.refreshAttendance.raise _)
  | lowerSpan p => exact keeps_next (request _ _ _ fun _ _ hu => hu.refreshAttendance.lower)
  | haltSpan p => exact keeps_next (request _ _ _ fun _ _ hu => hu.halt)
  | attend p => exact keeps_next (request _ _ _ fun _ _ hu => hu.refreshAttendance)
  | placeHold p => exact keeps_next (request _ _ _ fun f _ hu => hu.ownPlaceHold p f)
  | releaseHold p => exact keeps_next (request _ _ _ fun f _ hu => hu.ownReleaseHold p f)
  | acknowledgeFaults p => exact keeps_next (request _ _ _ fun _ _ hu => hu.acknowledge)
  | loadSetting p => exact keeps_next (request _ _ _ fun f _ hu => hu.ownLoadSetting f)
  | loadSettingItemAlone p => exact keeps_next (request _ _ _ fun f u hu => by rwa [u.ownShowSetting_state])
  | commitSettings p => exact keeps_next (h.takeRequest _ _ _ fun f u hu _ hcs => hu.ownCommit f fun hs => by
      rw [State.configured, hcs]; exact hc hs)
  | restart p => exact keeps_next (request _ _ _ fun f u hu => by rwa [u.ownRestart_state])
  | restartActs => exact keeps_next (RoadKept.ite (fun _ => RoadKept.restartActs (reset rfl) _) fun _ => h)
  | unknownRequest p => exact keeps_next (request _ _ _ fun _ _ hu => hu)
  | frameDropped p => exact keeps_next (h.dropFrame p)
  | frameComplete p f => exact keeps_next (h.frameCompletes p f)
  | frameAbandoned p => exact keeps_next (h.frameAbandons p)
  | driverEnableRises p => exact keeps_next (h.driverRises p)
  | replyCompleted p => exact keeps_next (h.replyCompletes p hr)
  | replyAbandoned p => exact keeps_next (h.abandonReply p _ _ hr)
  | samplingInstant lines lamps => exact keeps_next (h.sample lines lamps (hl lines lamps rfl))
  | anemometerPulse => exact keeps_next (RoadKept.ite (fun _ => h) fun _ => h.onIq _)
  | windWindowEnd => exact keeps_next h.windowEnd
  | windDelayEnd => exact keeps_next (RoadKept.ite (fun _ => h.windowEnd) fun _ => h)
  | supplyDelayExpiry => exact keeps_next h.supplyExpiry
  | estopLoopOpens => exact keeps_next h.loopOpens
  | estopLoopCloses => exact keeps_next h.loopCloses
  | drivePeriodBoundary => exact keeps_next h.periodBoundary
  | scanCompletion codes => exact keeps_next (h.completeScan codes)
  | brakeTimerExpiry t => exact keeps_next (h.brakeExpiry t)
  | reversalIntervalExpiry t => exact keeps_next (h.reversalExpiry t)
  | lockTravelTimeout => exact keeps_next h.lockTimeout
  | seatTimeout => exact keeps_next h.seatTimeout
  | attendanceTimerExpiry => exact keeps_next h.attendanceExpiry
  | disagreementTimerExpiry t v => exact keeps_next (h.disagreementExpiry t v)
  | prewarnTimerExpiry => exact keeps_next (h.road RoadRuns.refl.prewarnExpiry)
  | amberTimerExpiry => exact keeps_next (h.road RoadRuns.refl.amberExpiry)
  | clearingTimerExpiry => exact keeps_next (h.road RoadRuns.refl.clearingExpiry)
  | extinguishTimerExpiry => exact keeps_next (h.road RoadRuns.refl.extinguishExpiry)
  | gateTravelTimeout g => exact keeps_next (h.road (RoadRuns.refl.travelExpiry g))
  | settleTimerExpiry g => exact keeps_next (h.road (RoadRuns.refl.settleExpiry g))
  | budgetTick => exact keeps_next h.budgetTick
  | budgetExhausted => exact keeps_next (RoadKept.ite (fun _ => h.budgetTick) fun _ => h)
  | stepTimerExpiry hd => exact keeps_next (h.stepExpiry hd)
  | hornGivesUp => exact keeps_next (RoadKept.ite (fun _ => h.stepExpiry .horn) fun _ => h)
  | provingPoint hd => exact keeps_next (h.provingPointOf hd)
  | passageClockTick => exact keeps_next (RoadKept.ite (fun _ => h) fun _ => (h.onPau _).tickPassages)
  | windowOpens i => exact keeps_next (RoadKept.ite (fun _ => h.countWait i) fun _ => h)
  | lapse i => exact keeps_next (RoadKept.ite (fun _ => h.countExpiry i) fun _ => h)
  | lingerEnd i => exact keeps_next (RoadKept.ite (fun _ => h.countExpiry i) fun _ => h)
  | holdClockTick => exact keeps_next (RoadKept.ite (fun _ => h) fun _ => h.onHt _)
  | characterReceived p x => exact keeps_next (h.charReceived p x hr)
  | resetLineRises => exact keeps_next (h.onCs _)
  | carrierPeriodStart t => exact keeps_next (RoadKept.ite (fun _ => h) fun _ => h.startPeriodOf t)

end

/-- A step runs a command in a state of the same laws, and where no command is due it only lets time pass. -/
theorem step_keeps_laws {s t : State} (h : step s = .next t) : RoadKept False s t := by
  have run : ∀ c (u : State), RoadKept False s u → exec c u = .next t → RoadKept False s t := fun c u hu he =>
    hu.trans (exec_roadKept c False.elim False.elim False.elim (fun _ _ _ => False.elim) t he)
  unfold step at h
  split at h
  · next rest _ => exact run _ { s with pending := rest } (RoadKept.congr (.refl s) rfl) h
  · have hn := (RoadKept.refl (stay := False) s).nextEvent
    split at h
    · next he => exact run _ _ (by rwa [he] at hn) h
    · next he =>
      rw [he] at hn
      cases h
      exact hn

/-- Settles O55: every operation issues a gate's functions from one command, and none while the motors may not run. -/
theorem everyStepKeepsTheGatesLaw : Obligations.EveryStepKeepsTheGatesLaw := by
  intro s t h hs
  rw [State.gatesLaw_iff] at h ⊢
  exact (step_keeps_laws hs).gates h

/-- Settles O60: the road leaves SEALED in a reopening, which needs the span SEATED_LOCKED, and in a reset alone, and a span starts
over a SEALED road alone. -/
theorem sealedRoadHoldsWhileTheSpanIsFree : Obligations.SealedRoadHoldsWhileTheSpanIsFree := by
  refine ⟨fun c s t hc hr hm hreset hl he => ?_, fun s t h hs => ?_⟩
  · have hline : ∀ lines lamps, c = .samplingInstant lines lamps → (s.sample lines lamps).line 42 = true → s.line 42 = true := by
      rintro lines lamps rfl
      cases he
      exact hl lines lamps rfl
    exact (exec_roadKept (stay := True) c (fun _ => hc) (fun _ => hm) (fun _ => hreset) (fun lines lamps e _ => hline lines lamps e)
      t he).sealed trivial hr
  · rw [State.spanLaw_iff] at h ⊢
    exact (step_keeps_laws hs).span h

end Sys2Proof.Machine
end

section
/-! SUPPORT. What the operations of the road that touch no fault write, one rule for each (R85, R86, R89, R100, R105). -/

namespace Sys2Proof.Machine

/-- A state with OM, RCS and PG blanked: RCS's own record, the commands and the heads' aspects apart. -/
def State.offSignals (s : State) : State := { s with om := Om.reset, rcs := Rcs.reset, pg := Pg.reset }

theorem State.offSignals_eq {s t : State} (h : t.offSignals = s.offSignals) : t = { s with rcs := t.rcs, om := t.om, pg := t.pg } := by
  simp only [State.offSignals, State.mk.injEq] at h
  obtain ⟨h1, h2, h3, h4, -, h6, h7, -, -, h10, h11, h12, h13⟩ := h
  cases t
  simp_all

@[simp] theorem offSignals_ite {c : Prop} [Decidable c] (a b : State) :
    (if c then a else b).offSignals = if c then a.offSignals else b.offSignals := by split <;> rfl

@[simp] theorem State.onRcs_offSignals (s : State) (f : Rcs → Rcs) : (s.onRcs f).offSignals = s.offSignals := rfl

@[simp] theorem State.setRoad_offSignals (s : State) (r : Road) : (s.setRoad r).offSignals = s.offSignals := rfl

@[simp] theorem State.issueGate_offSignals (s : State) (g : Gate) : (s.issueGate g).offSignals = s.offSignals := rfl

@[simp] theorem State.issueGates_offSignals (s : State) : s.issueGates.offSignals = s.offSignals :=
  foldl_keeps (F := State.offSignals) State.issueGate State.issueGate_offSignals Gate.all s

@[simp] theorem State.requestAspect_offSignals (s : State) (h : Head) (a : Aspect) : (s.requestAspect h a).offSignals = s.offSignals := by
  have hpau := s.requestAspect_pau h a
  rw [State.offChannel_eq (s.requestAspect_offChannel h a), hpau]
  rfl

@[simp] theorem State.setWarn_offSignals (s : State) (a : Aspect) : (s.setWarn a).offSignals = s.offSignals := by
  simp [State.setWarn]

@[simp] theorem State.setTraf_offSignals (s : State) (a : Aspect) : (s.setTraf a).offSignals = s.offSignals := by
  simp [State.setTraf]

@[simp] theorem State.dropCommands_offSignals (s : State) : s.dropCommands.offSignals = s.offSignals := by
  simp [State.dropCommands]

@[simp] theorem State.startBudget_offSignals (s : State) : s.startBudget.offSignals = s.offSignals := by
  unfold State.startBudget
  split <;> rfl

/-! ### Aspects and commands (R85, R86, R89) -/

@[simp] theorem State.requestAspect_rcs (s : State) (h : Head) (a : Aspect) : (s.requestAspect h a).rcs = s.rcs :=
  (congrArg (·.1) (s.requestAspect_offSpan h a) :)

@[simp] theorem State.setWarn_rcs (s : State) (a : Aspect) : (s.setWarn a).rcs = { s.rcs with warnAspect := a } := by
  unfold State.setWarn
  split
  · next h => rw [← h]
  · simp

@[simp] theorem State.setTraf_rcs (s : State) (a : Aspect) : (s.setTraf a).rcs = { s.rcs with trafAspect := a } := by
  unfold State.setTraf
  split
  · next h => rw [← h]
  · simp

@[simp] theorem State.requestAspect_gateLines (s : State) (h : Head) (a : Aspect) : (s.requestAspect h a).gateLines = s.gateLines :=
  (congrArg (·.2.2) (State.lawView_of_offChannel (s.requestAspect_offChannel h a)) :)

@[simp] theorem State.onRcs_gateLines (s : State) (f : Rcs → Rcs) : (s.onRcs f).gateLines = s.gateLines := rfl

@[simp] theorem State.setWarn_gateLines (s : State) (a : Aspect) : (s.setWarn a).gateLines = s.gateLines := by
  unfold State.setWarn
  split <;> simp

@[simp] theorem State.setTraf_gateLines (s : State) (a : Aspect) : (s.setTraf a).gateLines = s.gateLines := by
  unfold State.setTraf
  split <;> simp

@[simp] theorem State.dropCommands_rcs (s : State) :
    s.dropCommands.rcs = { s.rcs with gates := s.rcs.gates.mapAll fun r => { r with cmd := .none, travel := none } } :=
  State.issueGates_rcs _

theorem State.dropCommands_gateLines (s : State) : s.dropCommands.gateLines = fun _ => (false, false) := by
  have hg : ∀ g, ((s.onRcs fun m =>
      { m with gates := m.gates.mapAll fun r => { r with cmd := .none, travel := none } }).gate g).cmd = .none := fun g => by
    simp [State.gate]
  rw [State.dropCommands, State.issueGates_gateLines]
  exact funext fun g => by simp [State.issuedLines, hg]

/-! ### The entry to PREWARN (R86, R87, R100, R105) -/

/-- What a CLOSE brings in a road state that takes one, of a part whose RCS was `r` under the settings `c`. -/
structure ClosedFrom (r : Rcs) (c : Settings) (t : State) : Prop where
  road : t.rcs.road = .prewarn
  prewarn : t.rcs.prewarn = some (2880000 * c.tprewarn.toNat)
  holding : t.rcs.holding = false
  extinguish : t.rcs.extinguish = none
  budget : t.rcs.budget = r.budget
  warnAspect : t.rcs.warnAspect = .flash
  gates : ∀ g, (t.gate g).cmd = .none ∧ (t.gate g).travel = none ∧ t.cmd (gateDownFn g) = false ∧ t.cmd (gateUpFn g) = false
  traf :
    if r.road = .isOpen ∨ r.road = .extinguish then t.rcs.trafAspect = .amber ∧ t.rcs.amber = some (2880000 * c.tamber.toNat)
    else t.rcs.trafAspect = .red ∧ t.rcs.amber = none
  budgetTimer : t.rcs.budgetTimer = if r.road = .isOpen ∨ r.road = .recovery then some 2880000 else r.budgetTimer

@[simp] theorem State.enterPrewarn_offSignals (s : State) : s.enterPrewarn.offSignals = s.offSignals := by simp [State.enterPrewarn]

theorem State.startBudget_rcs (s : State) :
    s.startBudget.rcs =
      { s.rcs with
        budgetTimer := if s.rcs.road = .isOpen ∨ s.rcs.road = .recovery then some 2880000 else s.rcs.budgetTimer } := by
  simp only [State.startBudget, Bool.or_eq_true, decide_eq_true_eq]
  split <;> rfl

theorem State.enterPrewarn_closed (s : State) : ClosedFrom s.rcs s.act s.enterPrewarn := by
  have hact : s.startBudget.act = s.act := congrArg (·.cs.active) s.startBudget_offSignals
  have hlines : s.enterPrewarn.gateLines = fun _ => (false, false) := by
    simp only [State.enterPrewarn, State.setTraf_gateLines, State.setWarn_gateLines, State.dropCommands_gateLines]
  have hrcs : s.enterPrewarn.rcs = _ := State.setTraf_rcs _ _
  rw [State.setWarn_rcs, State.dropCommands_rcs, State.onRcs_rcs, State.startBudget_rcs, hact] at hrcs
  refine ⟨?_, ?_, ?_, ?_, ?_, ?_, fun g => ⟨?_, ?_, congrArg (·.1) (congrFun hlines g), congrArg (·.2) (congrFun hlines g)⟩, ?_, ?_⟩
  case refine_7 | refine_8 => simp [State.gate, hrcs]
  case refine_9 =>
    rw [hrcs]
    by_cases h : s.rcs.road = .isOpen ∨ s.rcs.road = .extinguish <;> simp [h, startTimer, secTicks]
  all_goals rw [hrcs]
  · rfl

/-- The road states that take a CLOSE (R87). -/
def Road.closable (r : Road) : Prop := r = .isOpen ∨ r = .recovery ∨ r = .barrierRaising ∨ r = .gateRaising ∨ r = .extinguish

theorem State.closeRoad_closable {s : State} (h : s.rcs.road.closable) : s.closeRoad = s.enterPrewarn := by
  obtain h | h | h | h | h := h <;> simp only [State.closeRoad, h]

theorem State.closeRoad_stays {s : State} (h : ¬ s.rcs.road.closable) : s.closeRoad = s := by
  unfold State.closeRoad
  split <;> simp_all [Road.closable]

end Sys2Proof.Machine
end

section
/-! CLOSE ROAD and the panel's CLOSE (R86, R87, R100, R105). -/

namespace Sys2Proof.Machine

/-- OPERATOR's request of a row that the key's REMOTE and CONFIGURED let through, and that takes no payload. -/
theorem State.takeRequest_asked {s : State} {b : Buffered} {rest : List Buffered} {k : Nat} {row : Instr}
    (owner : State → Status × State) (hask : s.operatorAsks b rest k [] = true) (hrow : takeCommand .operator b.frame = row)
    (hk : requestRow k = some (remoteRow [0])) (hu : (owner (s.popped .operator rest)).2.stores = (s.popped .operator rest).stores) :
    s.takeRequest .operator row (fun _ s => (.plain (owner s).1, (owner s).2)) =
      (owner (s.popped .operator rest)).2.withPorts
        (s.answered .operator b rest (owner (s.popped .operator rest)).1.ctorIdx []).sp := by
  obtain ⟨hoffers, hasks, hconf, hlocal⟩ := (s.operatorAsks_iff b rest _ _).1 hask
  obtain ⟨hkind, hpayload⟩ := (b.asks_iff _ _).1 hasks
  have hscreen : s.screen .operator b.frame = none :=
    State.screen_operator (by rw [hkind]; exact hk) (by simp [hpayload, remoteRow]) hconf (.inl hlocal)
  exact State.takeRequest_answered (a := .plain (owner (s.popped .operator rest)).1) _ hoffers hrow hscreen rfl hu rfl rfl

/-- CLOSE ROAD closes the road of the state that its frame has left, and answers OK (R87). -/
theorem execCloseRoad_eq {s : State} {b : Buffered} {rest : List Buffered} (h : s.operatorAsks b rest 0x20 [] = true) :
    exec (.closeRoad .operator) s =
      .next ((s.popped .operator rest).closeRoad.withPorts (s.answered .operator b rest 0 []).sp) := by
  obtain ⟨hoffers, hasks, -, -⟩ := (s.operatorAsks_iff b rest _ _).1 h
  obtain ⟨hkind, -⟩ := (b.asks_iff _ _).1 hasks
  have hrow : takeCommand .operator b.frame = .closeRoad .operator := by
    simp [takeCommand, State.not_dropped hoffers (by omega), hkind]
  exact congrArg Host.Outcome.next
    (State.takeRequest_asked (fun s => (.ok, s.closeRoad)) h hrow rfl (s.popped .operator rest).closeRoad_stores)

/-- What closes the road of a state with these levels closes it of `u`. -/
theorem Qualified.rcs {u w : State} {l : Fin 48} {b : Bool} (h : Qualified u l b w) : w.rcs = u.rcs :=
  (congrArg State.rcs h.offDrive :)

theorem Qualified.pg {u w : State} {l : Fin 48} {b : Bool} (h : Qualified u l b w) : w.pg = u.pg :=
  (congrArg State.pg h.offDrive :)

/-- What the road does without a fault, after a qualified line, as the state before the instant sees it. -/
theorem Qualified.signals {u w t : State} {l : Fin 48} {b : Bool} (h : Qualified u l b w) (ht : t.offSignals = w.offSignals) :
    t = { u with iq := t.iq, rcs := t.rcs, om := t.om, smc := t.smc, pg := t.pg, mfs := t.mfs } ∧
      t.smc = { u.smc with towers := t.smc.towers } ∧ ∀ x, (t.tower x).phase = (u.tower x).phase := by
  have hsmc : t.smc = w.smc := (congrArg State.smc ht :)
  refine ⟨?_, by rw [hsmc]; exact h.smc, fun x => ?_⟩
  · have hw := h.rest (t := w) rfl
    rw [show t.iq = w.iq from (congrArg State.iq ht :), hsmc, show t.mfs = w.mfs from (congrArg State.mfs ht :)]
    rw [hw] at ht
    exact State.offSignals_eq ht
  · rw [show t.tower x = w.tower x by simp only [State.tower, hsmc]]
    exact h.looks.phase x

/-- Settles O24: a closing is `enterPrewarn` in the road states that take one, and nothing in the others. -/
theorem closeRoadEntersPrewarn : Obligations.CloseRoadEntersPrewarn := by
  refine ⟨fun s b rest hask => ?_, fun u lines lamps level hq => ⟨_, rfl, ?_⟩⟩
  · have hexec := execCloseRoad_eq hask
    split
    · next hc =>
      rw [State.closeRoad_closable (s := s.popped .operator rest) hc] at hexec
      obtain ⟨hroad, hprewarn, hholding, hextinguish, hbudget, hwarn, hgates, htraf, htimer⟩ :=
        (s.popped .operator rest).enterPrewarn_closed
      have hrest := State.offSignals_eq (s.popped .operator rest).enterPrewarn_offSignals
      refine ⟨_, hexec, ?_, hroad, hprewarn, hholding, hextinguish, hbudget, hwarn, hgates, htraf, htimer⟩
      exact (congrArg (fun t => t.withPorts (s.answered .operator b rest 0 []).sp) hrest :)
    · next hc =>
      rw [State.closeRoad_stays (s := s.popped .operator rest) hc] at hexec
      exact hexec
  · obtain ⟨w, hs, hw⟩ := State.sample_qualified lamps (by decide) (by decide) hq
    have hdeliver : w.deliverLine 41 = if level && u.line 36 then w.closeRoad else w := by
      rw [← hw.line, ← hw.other 36 (by decide)]
      rfl
    rw [hs, hdeliver]
    by_cases hc : level = true ∧ u.line 36 = true ∧ u.rcs.road.closable
    · obtain ⟨rfl, h36, hclose⟩ := hc
      have hclosed := w.enterPrewarn_closed
      obtain ⟨hrest, hsmc, hphase⟩ := hw.signals w.enterPrewarn_offSignals
      rw [hw.rcs, hw.act] at hclosed
      rw [if_pos (by simp [h36]), State.closeRoad_closable (by rwa [hw.rcs])]
      refine ⟨hrest, hsmc, hphase, ?_⟩
      rw [if_pos ⟨rfl, h36, hclose⟩]
      obtain ⟨hroad, hprewarn, hholding, hextinguish, hbudget, hwarn, hgates, htraf, htimer⟩ := hclosed
      exact ⟨hroad, hprewarn, hholding, hextinguish, hbudget, hwarn, hgates, htraf, htimer⟩
    · have hstays : (if level && u.line 36 then w.closeRoad else w) = w := by
        split
        · next hp =>
          obtain ⟨hp, h36⟩ := Bool.and_eq_true_iff.1 hp
          exact State.closeRoad_stays fun hclose => hc ⟨hp, h36, by rwa [hw.rcs] at hclose⟩
        · rfl
      obtain ⟨hrest, hsmc, hphase⟩ := hw.signals (t := w) rfl
      rw [hstays]
      refine ⟨hrest, hsmc, hphase, ?_⟩
      split
      · next hclose => exact absurd hclose hc
      · exact ⟨hw.rcs, hw.pg, hw.cmd⟩

end Sys2Proof.Machine
end

section
/-! SUPPORT. What a drive writes in the records of the gates and in their lines (R89, R90, R92, R95). -/

namespace Sys2Proof.Machine

/-! ### A state but for the gates' records and the commands -/

/-- A state with the gates' records and the commands blanked. -/
def State.offGates (s : State) : State :=
  { s with rcs := { s.rcs with gates := Rcs.reset.gates }, om := { s.om with command := Om.reset.command } }

section Readings

variable {s t : State} (h : t.offGates = s.offGates)
include h

theorem State.offGates_rcs : t.rcs = { s.rcs with gates := t.rcs.gates } := by
  have hr : ({ t.rcs with gates := Rcs.reset.gates } : Rcs) = { s.rcs with gates := Rcs.reset.gates } := congrArg State.rcs h
  have hg := congrArg (fun r : Rcs => ({ r with gates := t.rcs.gates } : Rcs)) hr
  exact hg

theorem State.offGates_live : t.rcs.live = s.rcs.live := by rw [State.offGates_rcs h]; rfl
theorem State.offGates_act : t.act = s.act := (congrArg State.act h :)
theorem State.offGates_isDisplaced (f : Fin 40) : t.isDisplaced f = s.isDisplaced f := (congrArg (State.isDisplaced · f) h :)
theorem State.offGates_line (l : Fin 48) : t.line l = s.line l := (congrArg (State.line · l) h :)

theorem State.offGates_zoneClear (g : Gate) : t.zoneClear g = s.zoneClear g := by
  cases g <;> simp [State.zoneClear, State.offGates_line h]

theorem State.offGates_eq : t = { s with rcs := t.rcs, om := t.om } := by
  simp only [State.offGates, State.mk.injEq] at h
  obtain ⟨h1, h2, h3, h4, -, h6, h7, -, h9, h10, h11, h12, h13⟩ := h
  cases t
  simp_all

end Readings

@[simp] theorem offGates_ite {c : Prop} [Decidable c] (a b : State) :
    (if c then a else b).offGates = if c then a.offGates else b.offGates := by split <;> rfl

@[simp] theorem State.setGate_offGates (s : State) (g : Gate) (r : GateRec) : (s.setGate g r).offGates = s.offGates := rfl

@[simp] theorem State.issueGate_offGates (s : State) (g : Gate) : (s.issueGate g).offGates = s.offGates := rfl

@[simp] theorem State.issueGates_offGates (s : State) : s.issueGates.offGates = s.offGates :=
  foldl_keeps (F := State.offGates) State.issueGate State.issueGate_offGates Gate.all s

@[simp] theorem State.moveGate_offGates (s : State) (g : Gate) (c : GateCmd) : (s.moveGate g c).offGates = s.offGates := by
  simp [State.moveGate]

@[simp] theorem State.flagObstructed_offGates (s : State) (g : Gate) (c : GateCmd) :
    (s.flagObstructed g c).offGates = s.offGates := by
  simp [State.flagObstructed]

/-! ### One gate (R89, R90, R95) -/

/-- The lines that a record calls for. -/
def GateRec.lines (r : GateRec) (live : Bool) : Bool × Bool := (live && decide (r.cmd = .down), live && decide (r.cmd = .up))

/-- A record whose gate is driven toward a position: stopped there, else commanded, with a fresh travel timer where motors may run. -/
def GateRec.moved (r : GateRec) (live : Bool) (time : Ticks) (c : GateCmd) : GateRec :=
  if some r.pos = cmdPos c then { r with cmd := .none, travel := none }
  else { r with cmd := c, travel := if live then some time else none }

/-- What a drive asked for amounts to for a record (R95). -/
def GateRec.target (r : GateRec) (zone : Bool) (c : GateCmd) : GateCmd :=
  if c = .down && (r.obstructed || (r.pos ≠ .down && !zone)) then .up else c

/-- The obstruction flag that a drive asked for sets (R95). -/
def GateRec.flagged (r : GateRec) (zone : Bool) (c : GateCmd) : GateRec :=
  if c = .down && r.target zone c = .up && !r.obstructed then { r with obstructed := true, settle := .stopped } else r

/-- A record whose gate is asked toward a position. -/
def GateRec.driven (r : GateRec) (live : Bool) (time : Ticks) (zone : Bool) (c : GateCmd) : GateRec :=
  (r.flagged zone c).moved live time (r.target zone c)

@[simp] theorem GateRec.moved_pos (r : GateRec) (live : Bool) (time : Ticks) (c : GateCmd) : (r.moved live time c).pos = r.pos := by
  unfold GateRec.moved
  split <;> rfl

@[simp] theorem GateRec.moved_obstructed (r : GateRec) (live : Bool) (time : Ticks) (c : GateCmd) :
    (r.moved live time c).obstructed = r.obstructed := by
  unfold GateRec.moved
  split <;> rfl

@[simp] theorem GateRec.flagged_pos (r : GateRec) (zone : Bool) (c : GateCmd) : (r.flagged zone c).pos = r.pos := by
  unfold GateRec.flagged
  split <;> rfl

@[simp] theorem GateRec.driven_pos (r : GateRec) (live : Bool) (time : Ticks) (zone : Bool) (c : GateCmd) :
    (r.driven live time zone c).pos = r.pos := by simp [GateRec.driven]

/-- A flag changes no drive: it marks one that goes UP already. -/
theorem GateRec.flagged_target (r : GateRec) (zone : Bool) (c c' : GateCmd) : (r.flagged zone c).target zone c' = r.target zone c' := by
  unfold GateRec.flagged
  split
  · next h =>
    simp only [GateRec.target, Bool.and_eq_true, decide_eq_true_eq] at h ⊢
    obtain ⟨⟨rfl, ht⟩, -⟩ := h
    by_cases hc : c' = .down
    · subst hc
      split at ht
      · next ht => simp_all
      · cases ht
    · simp [hc]
  · rfl

theorem State.driveTarget_eq (s : State) (g : Gate) (c : GateCmd) : s.driveTarget g c = (s.gate g).target (s.zoneClear g) c := rfl

theorem State.setGate_gate (s : State) (g x : Gate) (r : GateRec) : (s.setGate g r).gate x = if g = x then r else s.gate x := by
  simp [State.gate, State.setGate]

theorem State.issueGate_gate (s : State) (g x : Gate) : (s.issueGate g).gate x = s.gate x := rfl

theorem State.issuedLines_eq (s : State) (g : Gate) : s.issuedLines g = (s.gate g).lines s.rcs.live := rfl

theorem State.setGate_gateLines (s : State) (g : Gate) (r : GateRec) : (s.setGate g r).gateLines = s.gateLines := rfl

/-- The travel time of a fresh drive (R90). -/
def State.travelTicks (s : State) : Ticks := 2880000 * s.act.gateTime.toNat

/-- A gate's record and the commands of its two functions. -/
def State.atGate (s : State) (g : Gate) : GateRec × Bool × Bool := (s.gate g, s.gateLines g)

theorem State.setGate_atGate (s : State) (g x : Gate) (r : GateRec) :
    (s.setGate g r).atGate x = if g = x then (r, s.gateLines x) else s.atGate x := by
  simp only [State.atGate, State.setGate_gate, State.setGate_gateLines]
  split <;> rfl

/-- A record written and its gate's functions issued. -/
theorem State.setIssue_atGate (s : State) (g x : Gate) (r : GateRec) :
    ((s.setGate g r).issueGate g).atGate x = if g = x then (r, r.lines s.rcs.live) else s.atGate x := by
  have hl : (s.setGate g r).rcs.live = s.rcs.live := rfl
  simp only [State.atGate, State.issueGate_gateLines, State.issueGate_gate, State.issuedLines_eq, State.setGate_gate, if_true,
    State.setGate_gateLines, hl]
  split <;> rfl

/-- A move that no displaced function stops. -/
theorem State.moveGate_atGate {s : State} {g : Gate} {c : GateCmd}
    (hb : s.rcs.live = true → some (s.gate g).pos ≠ cmdPos c → s.isDisplaced (gateFnFor g c) = false) (x : Gate) :
    (s.moveGate g c).atGate x =
      if g = x then
        ((s.gate g).moved s.rcs.live s.travelTicks c, ((s.gate g).moved s.rcs.live s.travelTicks c).lines s.rcs.live)
      else s.atGate x := by
  have hmove : s.moveGate g c = (s.setGate g ((s.gate g).moved s.rcs.live s.travelTicks c)).issueGate g := by
    by_cases hp : some (s.gate g).pos = cmdPos c
    · simp [State.moveGate, GateRec.moved, hp]
    · have hblocked : s.driveBlocked g c = false := by
        unfold State.driveBlocked
        cases hl : s.rcs.live
        · rfl
        · simp [hb hl hp]
      simp only [State.moveGate, GateRec.moved, hp, hblocked, decide_false, Bool.or_false, Bool.false_eq_true, if_false]
      rfl
  rw [hmove, State.setIssue_atGate]

theorem State.flagObstructed_atGate (s : State) (g x : Gate) (c : GateCmd) :
    (s.flagObstructed g c).atGate x = if g = x then ((s.gate g).flagged (s.zoneClear g) c, s.gateLines g) else s.atGate x := by
  have hflag : s.flagObstructed g c = s.setGate g ((s.gate g).flagged (s.zoneClear g) c) ∨
      s.flagObstructed g c = s ∧ (s.gate g).flagged (s.zoneClear g) c = s.gate g := by
    by_cases h : (c = .down && s.driveTarget g c = .up && !(s.gate g).obstructed) = true
    · have hr : (s.gate g).flagged (s.zoneClear g) c = { s.gate g with obstructed := true, settle := .stopped } := if_pos h
      exact .inl (by rw [hr]; exact if_pos h)
    · exact .inr ⟨if_neg h, if_neg h⟩
  obtain h | ⟨h, hr⟩ := hflag
  · rw [h, State.setGate_atGate]
    split
    · next e => rw [e]
    · rfl
  · rw [h, hr]
    split
    · next e => rw [← e]; rfl
    · rfl

/-! ### Several gates (R90, R92) -/

/-- From `s` to `t` each gate of a list has what `F` makes of it, and nothing else but commands is changed. -/
structure Drives (F : Gate → GateCmd → GateRec × Bool × Bool) (l : List (Gate × GateCmd)) (s t : State) : Prop where
  rest : t.offGates = s.offGates
  asked : ∀ g c, (g, c) ∈ l → t.atGate g = F g c
  other : ∀ g, g ∉ l.map Prod.fst → t.atGate g = s.atGate g

/-- A fold each of whose steps writes its own gate, which the steps before it have left as it was. -/
theorem foldl_drives {f : State → Gate × GateCmd → State} {F : Gate → GateCmd → GateRec × Bool × Bool} {s : State}
    (hrest : ∀ u x, (f u x).offGates = u.offGates) (l : List (Gate × GateCmd)) (hn : (l.map Prod.fst).Nodup)
    (hf : ∀ u g c x, (g, c) ∈ l → u.offGates = s.offGates → u.atGate g = s.atGate g →
      (f u (g, c)).atGate x = if g = x then F g c else u.atGate x)
    (u : State) (hu : u.offGates = s.offGates) (hl : ∀ g ∈ l.map Prod.fst, u.atGate g = s.atGate g) :
    Drives F l u (l.foldl f u) := by
  induction l generalizing u with
  | nil => exact ⟨rfl, by simp, fun _ _ => rfl⟩
  | cons x l ih =>
    obtain ⟨y, d⟩ := x
    obtain ⟨hx, hn⟩ := List.nodup_cons.1 hn
    have first : ∀ z, (f u (y, d)).atGate z = if y = z then F y d else u.atGate z := fun z =>
      hf u y d z (by simp) hu (hl y (by simp))
    have later : ∀ g ∈ l.map Prod.fst, y ≠ g := by
      rintro g hg rfl
      exact hx hg
    obtain ⟨krest, kasked, kother⟩ := ih hn (fun v g c z hmem => hf v g c z (List.mem_cons_of_mem _ hmem)) (f u (y, d))
      ((hrest u (y, d)).trans hu) fun g hg => by
        rw [first, if_neg (later g hg)]
        exact hl g (by simp only [List.map_cons, List.mem_cons]; exact .inr hg)
    refine ⟨krest.trans (hrest u (y, d)), fun g c hmem => ?_, fun g hg => ?_⟩
    · obtain e | hmem := List.mem_cons.1 hmem
      · cases e
        rw [List.foldl_cons, kother y hx, first, if_pos rfl]
      · exact kasked g c hmem
    · simp only [List.map_cons, List.mem_cons, not_or] at hg
      obtain ⟨hgx, hgl⟩ := hg
      rw [List.foldl_cons, kother g hgl, first, if_neg (Ne.symm hgx)]

/-- What a drive makes of a gate. -/
def State.drivenTo (s : State) (g : Gate) (c : GateCmd) : GateRec × Bool × Bool :=
  let r := (s.gate g).driven s.rcs.live s.travelTicks (s.zoneClear g) c
  (r, r.lines s.rcs.live)

/-- A drive that uses no displaced function: each gate asked for is driven, and the rest stands. -/
theorem State.driveGates_drives {s : State} {l : List (Gate × GateCmd)} (hn : (l.map Prod.fst).Nodup)
    (hb : ∀ x ∈ l, s.rcs.live = true → some (s.gate x.1).pos ≠ cmdPos (s.driveTarget x.1 x.2) →
      s.isDisplaced (gateFnFor x.1 (s.driveTarget x.1 x.2)) = false) :
    Drives s.drivenTo l s (s.driveGates l) := by
  have flags : Drives (fun g c => ((s.gate g).flagged (s.zoneClear g) c, s.gateLines g)) l s
      (l.foldl (fun s x => s.flagObstructed x.1 x.2) s) := by
    refine foldl_drives (s := s) (fun u x => u.flagObstructed_offGates x.1 x.2) l hn (fun u g c x _ hu hg => ?_) s rfl fun _ _ => rfl
    rw [State.flagObstructed_atGate, State.offGates_zoneClear hu, show u.gate g = s.gate g from congrArg (·.1) hg,
      show u.gateLines g = s.gateLines g from congrArg (·.2) hg]
  simp only [State.driveGates]
  generalize l.foldl (fun s x => s.flagObstructed x.1 x.2) s = v at flags ⊢
  have hlive := State.offGates_live flags.rest
  have htime : v.travelTicks = s.travelTicks := by rw [State.travelTicks, State.offGates_act flags.rest]; rfl
  have hrec : ∀ g c, (g, c) ∈ l → v.gate g = (s.gate g).flagged (s.zoneClear g) c := fun g c h => congrArg (·.1) (flags.asked g c h)
  have htarget : ∀ g c, (g, c) ∈ l → v.driveTarget g c = s.driveTarget g c := fun g c h => by
    rw [State.driveTarget_eq, hrec g c h, State.offGates_zoneClear flags.rest, GateRec.flagged_target]
    rfl
  have hfree : ∀ x ∈ l, v.rcs.live = true → some (v.gate x.1).pos ≠ cmdPos (v.driveTarget x.1 x.2) →
      v.isDisplaced (gateFnFor x.1 (v.driveTarget x.1 x.2)) = false := fun x hx h hp => by
    rw [htarget x.1 x.2 hx, hrec x.1 x.2 hx, GateRec.flagged_pos] at hp
    rw [htarget x.1 x.2 hx, State.offGates_isDisplaced flags.rest]
    exact hb x hx (hlive.symm.trans h) hp
  have hblocked : (l.filter fun x => v.driveBlocked x.1 (v.driveTarget x.1 x.2)) = [] := by
    refine List.filter_eq_nil_iff.2 fun x hx hblock => ?_
    simp only [State.driveBlocked, Bool.and_eq_true, decide_eq_true_eq] at hblock
    obtain ⟨⟨hl, hp⟩, hdisplaced⟩ := hblock
    rw [hfree x hx hl hp] at hdisplaced
    exact Bool.false_ne_true hdisplaced
  rw [hblocked, List.foldl_nil]
  have moves : Drives s.drivenTo l v (l.foldl (fun s x => s.moveGate x.1 (s.driveTarget x.1 x.2)) v) := by
    refine foldl_drives (s := v) (fun u x => u.moveGate_offGates x.1 _) l hn (fun u g c x hmem hu hg => ?_) v rfl fun _ _ => rfl
    have hgate : u.gate g = v.gate g := congrArg (·.1) hg
    have ht : u.driveTarget g c = v.driveTarget g c := by
      rw [State.driveTarget_eq, hgate, State.offGates_zoneClear hu]
      rfl
    have hu_live := State.offGates_live hu
    have hu_time : u.travelTicks = v.travelTicks := by rw [State.travelTicks, State.offGates_act hu]; rfl
    simp only [ht]
    rw [State.moveGate_atGate (fun h hp => by
      rw [hgate] at hp
      rw [State.offGates_isDisplaced hu]
      exact hfree (g, c) hmem (hu_live.symm.trans h) hp)]
    rw [hgate, hu_live, hu_time, htime, hlive, hrec g c hmem, htarget g c hmem]
    rfl
  exact ⟨moves.rest.trans flags.rest, moves.asked, fun g hg => (moves.other g hg).trans (flags.other g hg)⟩

end Sys2Proof.Machine
end

section
/-! SUPPORT. The steps of the road: what a step's drive leaves, and where the road goes past the steps that have ended (R90, R93, R94,
R97, R99). -/

namespace Sys2Proof.Machine

/-! ### What a drive leaves of RCS, displaced functions included (R90, R92, R102) -/

/-- RCS's record but for the gates and the cause that is its own finding. -/
def State.roadBody (s : State) : Rcs := { s.rcs with gates := Rcs.reset.gates, causeGate := false }

@[simp] theorem roadBody_ite {c : Prop} [Decidable c] (a b : State) :
    (if c then a else b).roadBody = if c then a.roadBody else b.roadBody := by split <;> rfl

theorem foldl_roadBody {α : Type} (f : State → α → State) (h : ∀ s x, (f s x).roadBody = s.roadBody) (l : List α) (s : State) :
    (l.foldl f s).roadBody = s.roadBody := foldl_keeps f h l s

theorem State.roadBody_of_rcs {s t : State} (h : t.rcs = s.rcs) : t.roadBody = s.roadBody := by simp only [State.roadBody, h]

@[simp] theorem State.setGate_roadBody (s : State) (g : Gate) (r : GateRec) : (s.setGate g r).roadBody = s.roadBody := rfl

@[simp] theorem State.issueGate_roadBody (s : State) (g : Gate) : (s.issueGate g).roadBody = s.roadBody := rfl

@[simp] theorem State.issueGates_roadBody (s : State) : s.issueGates.roadBody = s.roadBody :=
  State.roadBody_of_rcs s.issueGates_rcs

@[simp] theorem State.reportFault_roadBody (s : State) (f : Fin 37) (b : Bool) : (s.reportFault f b).roadBody = s.roadBody := rfl

theorem State.rcs_of_offSpan {s t : State} (h : t.offSpan = s.offSpan) : t.rcs = s.rcs := congrArg Prod.fst h

@[simp] theorem State.smcGateFault_roadBody (s : State) : s.smcGateFault.roadBody = s.roadBody :=
  State.roadBody_of_rcs (State.rcs_of_offSpan s.smcGateFault_offSpan)

@[simp] theorem State.noteGateFaults_roadBody (s : State) : s.noteGateFaults.roadBody = s.roadBody := by
  unfold State.noteGateFaults State.setCauses
  simp only []
  split
  · rw [State.issueGates_roadBody]; rfl
  · rfl

@[simp] theorem State.reportGate_roadBody (s : State) (g : Gate) (b : Bool) : (s.reportGate g b).roadBody = s.roadBody := by
  simp [State.reportGate]

@[simp] theorem State.pulseGate_roadBody (s : State) (g : Gate) : (s.pulseGate g).roadBody = s.roadBody := by simp [State.pulseGate]

@[simp] theorem State.moveGate_roadBody (s : State) (g : Gate) (c : GateCmd) : (s.moveGate g c).roadBody = s.roadBody := by
  simp [State.moveGate]

@[simp] theorem State.flagObstructed_roadBody (s : State) (g : Gate) (c : GateCmd) : (s.flagObstructed g c).roadBody = s.roadBody := by
  simp [State.flagObstructed]

@[simp] theorem State.driveGates_roadBody (s : State) (l : List (Gate × GateCmd)) : (s.driveGates l).roadBody = s.roadBody := by
  simp [State.driveGates, foldl_roadBody]

@[simp] theorem State.driveStep_roadBody (s : State) : s.driveStep.roadBody = s.roadBody := s.driveGates_roadBody _

section Readings
variable {s t : State} (h : t.roadBody = s.roadBody)
include h
theorem State.roadBody_road : t.rcs.road = s.rcs.road := congrArg (·.road) h
theorem State.roadBody_phase : t.rcs.phase = s.rcs.phase := congrArg (·.phase) h
theorem State.roadBody_prewarn : t.rcs.prewarn = s.rcs.prewarn := congrArg (·.prewarn) h
theorem State.roadBody_amber : t.rcs.amber = s.rcs.amber := congrArg (·.amber) h
theorem State.roadBody_trafAspect : t.rcs.trafAspect = s.rcs.trafAspect := congrArg (·.trafAspect) h
end Readings

/-! ### The advance, by its steps -/

/-- What each step past a step that has ended keeps, the advance keeps. -/
theorem State.advanceSteps_keeps_of {P : State → Prop} (hP : ∀ s t, P s → s.rcs.live = true → s.nextStep = some t → P t) (n : Nat)
    {s : State} (h : P s) : P (State.advanceSteps n s) := by
  induction n generalizing s with
  | zero => exact h
  | succ n ih =>
    unfold State.advanceSteps
    split
    · exact h
    · next hl =>
      split
      · exact h
      · next t e => exact ih (hP s t h (by simpa using hl) e)

theorem State.advance_keeps_of {P : State → Prop} (hP : ∀ s t, P s → s.rcs.live = true → s.nextStep = some t → P t) {s : State}
    (h : P s) : P s.advance := State.advanceSteps_keeps_of hP 6 h

/-- Where motors may not run, or no step has ended, the road stays. -/
theorem State.advance_stays {s : State} (h : s.rcs.live = true → s.nextStep = none) : s.advance = s := by
  simp only [State.advance, State.advanceSteps]
  split
  · rfl
  · next hl =>
    rw [h (by simpa using hl)]

theorem State.nextStep_of_not_done {s : State} (h : s.stepDone = false) : s.nextStep = none := by
  unfold State.nextStep
  simp only [h, Bool.false_and, Bool.false_eq_true, if_false]
  split <;> rfl

/-- A gate of the step that is not at its position holds the road where it is. -/
theorem State.stepDone_of_off {s : State} {g : Gate} {c : GateCmd} (hg : (g, c) ∈ s.stepGates)
    (hp : some (s.gate g).pos ≠ cmdPos c) : s.stepDone = false := by
  refine Bool.eq_false_iff.2 fun h => hp ?_
  have hx := List.all_eq_true.1 h (g, c) hg
  simp only [Bool.and_eq_true, decide_eq_true_eq] at hx
  exact hx.1

theorem State.advance_of_off {s : State} {g : Gate} {c : GateCmd} (hg : (g, c) ∈ s.stepGates)
    (hp : some (s.gate g).pos ≠ cmdPos c) : s.advance = s :=
  State.advance_stays fun _ => State.nextStep_of_not_done (State.stepDone_of_off hg hp)

/-- From ENTRY_LOWERING the road goes at most to CLEARING, whose timer is armed (R94). -/
theorem State.advance_entryLowering {s : State} (h : s.rcs.road = .entryLowering) :
    s.advance = s ∨ s.advance = (s.setRoad .clearing).armClearing := by
  have armed : (s.setRoad .clearing).armClearing.nextStep = none := by
    have hc : (s.setRoad .clearing).armClearing.rcs.clearing ≠ .expired := by
      simp only [State.armClearing, State.onRcs_rcs]
      split <;> simp
    have hr : (s.setRoad .clearing).armClearing.rcs.road = .clearing := rfl
    simp only [State.nextStep, hr, hc, decide_false, Bool.and_false, Bool.false_eq_true, if_false]
  refine State.advance_keeps_of (P := fun u => u = s ∨ u = (s.setRoad .clearing).armClearing) (fun u t hu _ hn => ?_) (.inl rfl)
  obtain rfl | rfl := hu
  · simp only [State.nextStep, h] at hn
    split at hn <;> cases hn
    exact .inr rfl
  · rw [armed] at hn
    cases hn

/-- A lowering past CLEARING stays in the road states of the exit gates and the barriers (R94, R97). -/
def Road.lowering (r : Road) : Prop := r = .exitLowering ∨ r = .barrierLowering ∨ r = .sealed

theorem State.advanceSteps_lowering (n : Nat) {s : State} (h : s.rcs.road.lowering) :
    (State.advanceSteps n s).rcs.road.lowering := by
  refine State.advanceSteps_keeps_of (P := fun u => u.rcs.road.lowering) (fun u t hu _ hn => ?_) n h
  unfold State.nextStep at hn
  obtain e | e | e := hu <;> simp only [e] at hn
  · split at hn <;> cases hn
    exact .inr (.inl (State.roadBody_road (State.driveStep_roadBody _)))
  · split at hn <;> cases hn
    exact .inr (.inr (congrArg Rcs.road (State.dropCommands_rcs _)))
  · cases hn

/-- With the entry gates down and the clearing timer expired the road leaves CLEARING (R94). -/
theorem State.advance_clearing {s : State} (hl : s.rcs.live = true) (hr : s.rcs.road = .clearing) (hc : s.rcs.clearing = .expired)
    (hd : s.stepDone = true) : s.advance.rcs.road.lowering := by
  have hn : s.nextStep = some (s.onRcs fun m => { m with road := .exitLowering, clearing := .stopped }).driveStep := by
    simp only [State.nextStep, hr]
    exact if_pos (by simp [hd, hc])
  rw [State.advance, State.advanceSteps, if_neg (by simp [hl]), hn]
  exact State.advanceSteps_lowering 5 (.inl (State.roadBody_road (State.driveStep_roadBody _)))

/-- A raising stays in its road states (R99). -/
def Road.raising (r : Road) : Prop := r = .barrierRaising ∨ r = .gateRaising ∨ r = .extinguish

theorem State.advance_raising {s : State} (h : s.rcs.road.raising) : s.advance.rcs.road.raising := by
  refine State.advance_keeps_of (P := fun u => u.rcs.road.raising) (fun u t hu _ hn => ?_) h
  unfold State.nextStep at hn
  obtain e | e | e := hu <;> simp only [e] at hn
  · split at hn <;> cases hn
    exact .inr (.inl (State.roadBody_road (State.driveStep_roadBody _)))
  · split at hn
    · split at hn <;> cases hn
      · exact .inr (.inl ((State.roadBody_road (State.driveStep_roadBody _)).trans e))
      · exact .inr (.inr (congrArg Rcs.road (State.setTraf_rcs _ _)))
    · cases hn
  · cases hn

/-! ### A step's drive with no displaced function (R90) -/

theorem stepGates_nodup (road : Road) (phase : RaisingPhase) : ((Machine.stepGates road phase).map Prod.fst).Nodup := by
  cases road <;> cases phase <;> decide

theorem stepGates_moves {road : Road} {phase : RaisingPhase} : ∀ x ∈ Machine.stepGates road phase, x.2 = .down ∨ x.2 = .up := by
  cases road <;> cases phase <;> decide

/-- Motors may run, and no function is displaced. -/
structure State.Free (s : State) : Prop where
  live : s.rcs.live = true
  undisplaced : ∀ f, s.isDisplaced f = false

theorem State.driveStep_drives {s : State} (h : ∀ f, s.isDisplaced f = false) : Drives s.drivenTo s.stepGates s s.driveStep :=
  State.driveGates_drives (stepGates_nodup _ _) fun _ _ _ _ => h _

namespace Drives

variable {s t : State} {l : List (Gate × GateCmd)} (h : Drives s.drivenTo l s t)
include h

/-- A drive moves no gate at once, and sets an obstruction flag at gates that are not down alone, and at those asked DOWN. -/
theorem proofs (g : Gate) :
    (t.gate g).pos = (s.gate g).pos ∧
      ((s.gate g).pos = .down ∨ (∀ x ∈ l, x.2 = .up) → (t.gate g).obstructed = (s.gate g).obstructed) := by
  by_cases hg : g ∈ l.map Prod.fst
  · obtain ⟨⟨g', c⟩, hmem, rfl⟩ := List.mem_map.1 hg
    have hr : t.gate g' = (s.gate g').driven s.rcs.live s.travelTicks (s.zoneClear g') c := congrArg (·.1) (h.asked g' c hmem)
    rw [hr]
    refine ⟨GateRec.driven_pos _ _ _ _ _, fun hs => ?_⟩
    rw [GateRec.driven, GateRec.moved_obstructed, GateRec.flagged, if_neg]
    intro hf
    simp only [Bool.and_eq_true, decide_eq_true_eq, GateRec.target] at hf
    obtain ⟨⟨rfl, ht⟩, hn⟩ := hf
    obtain hd | hup := hs
    · simp_all
    · cases hup _ hmem
  · have hr : t.gate g = s.gate g := congrArg (·.1) (h.other g hg)
    rw [hr]
    exact ⟨rfl, fun _ => rfl⟩

theorem body : t.rcs = { s.rcs with gates := t.rcs.gates } := State.offGates_rcs h.rest

theorem free (hf : s.Free) : t.Free :=
  ⟨(State.offGates_live h.rest).trans hf.live, fun f => (State.offGates_isDisplaced h.rest f).trans (hf.undisplaced f)⟩

end Drives

end Sys2Proof.Machine
end

section
/-! REOPEN ROAD and the panel's REOPEN (R88, R98, R99). -/

namespace Sys2Proof.Machine

/-- The state in which a reopening drives the barriers. -/
def State.raisingShown (s : State) : State := ((s.raisingBegun.issueGates).setWarn .flash).setTraf .red

theorem State.enterBarrierRaising_eq (s : State) : s.enterBarrierRaising = s.raisingShown.driveStep.advance := rfl

theorem State.raisingShown_rcs (s : State) :
    s.raisingShown.rcs = { s.raisingBegun.rcs with warnAspect := .flash, trafAspect := .red } := by
  rw [State.raisingShown, State.setTraf_rcs, State.setWarn_rcs, State.issueGates_rcs]

theorem State.raisingShown_offRoad (s : State) : s.raisingShown.offRoad = s.offRoad := by
  have hbegun : s.raisingBegun.offRoad = s.leaveSealed.startBudget.offRoad :=
    State.onRcs_offRoad _ _ (fun g => by simp [State.gate, GateRec.clearForRaising]) rfl rfl
  rw [State.raisingShown, State.setTraf_offRoad, State.setWarn_offRoad, State.issueGates_offRoad, hbegun, State.startBudget_offRoad,
    State.leaveSealed_offRoad]

theorem State.isDisplaced_of_offRoad {s t : State} (h : t.offRoad = s.offRoad) (f : Fin 40) : t.isDisplaced f = s.isDisplaced f := by
  have hd : t.om.displaced = s.om.displaced := congrArg (·.1.2.2.2.2.displaced) h
  simp only [State.isDisplaced, hd]

theorem State.raisingShown_offSequencer (s : State) : s.raisingShown.offSequencer = s.offSequencer :=
  (RoadRuns.setTraf (s0 := s.raisingBegun) (.setWarn (.issued (f := id) .refl id) _) _).offSequencer.trans
    (RoadRuns.reopenBegins s).offSequencer

theorem State.act_of_offSequencer {s t : State} (h : t.offSequencer = s.offSequencer) : t.act = s.act := (congrArg State.act h :)

theorem State.raisingShown_stepGates (s : State) : s.raisingShown.stepGates = [(.b1, .up), (.b2, .up)] := by
  have hroad : s.raisingShown.rcs.road = .barrierRaising := by rw [State.raisingShown_rcs]; rfl
  simp [State.stepGates, hroad, Machine.stepGates]

/-- After a reopening the road is on its way up (R88, R99). -/
theorem State.enterBarrierRaising_road (s : State) : s.enterBarrierRaising.rcs.road.raising := by
  rw [State.enterBarrierRaising_eq]
  refine State.advance_raising (.inl ?_)
  rw [State.roadBody_road (State.driveStep_roadBody _), State.raisingShown_rcs]
  rfl

/-- With no GATE fault there is none to take back (R98). -/
theorem State.leaveSealed_clear {s : State} (h : ∀ g, s.fault (gateFault g) = .clear) : s.leaveSealed = s := by
  have stays : ∀ g, s.reportGate g false = s := fun g => by
    simp [State.reportGate, State.faultChanges, State.faultEnters, State.faultLatches, h g]
  have all : ∀ l : List Gate, l.foldl (fun u g => u.reportGate g false) s = s := by
    intro l
    induction l with
    | nil => rfl
    | cons g l ih => rw [List.foldl_cons, stays, ih]
  unfold State.leaveSealed
  split
  · exact all _
  · rfl

/-- What a reopening brings: the road on its way up, and held in BARRIER_RAISING by a barrier that is not up-proven, which is driven
UP (R88, R90, R99). -/
structure Reopens (s t : State) : Prop where
  road : t.rcs.road.raising
  drives : s.rcs.suspended = false → s.rcs.holding = false → (∀ g, s.fault (gateFault g) = .clear) →
    (∀ f : Fin 40, s.isDisplaced f = false) → ((s.gate .b1).pos ≠ .up ∨ (s.gate .b2).pos ≠ .up) →
    t.rcs.road = .barrierRaising ∧
      ∀ g, g = .b1 ∨ g = .b2 → (s.gate g).pos ≠ .up →
        (t.gate g).cmd = .up ∧ t.cmd (gateUpFn g) = true ∧ (t.gate g).travel = some (2880000 * s.act.gateTime.toNat)

theorem State.enterBarrierRaising_reopens (s : State) : Reopens s s.enterBarrierRaising := by
  refine ⟨s.enterBarrierRaising_road, fun hs hh hf hd hoff => ?_⟩
  obtain ⟨b, hb, hpos⟩ : ∃ b, (b = .b1 ∨ b = .b2) ∧ (s.gate b).pos ≠ .up :=
    hoff.elim (fun h => ⟨.b1, .inl rfl, h⟩) fun h => ⟨.b2, .inr rfl, h⟩
  have hact := State.act_of_offSequencer s.raisingShown_offSequencer
  have hpos' : ∀ g, (s.raisingShown.gate g).pos = (s.gate g).pos := congrFun (State.poses_of_offRoad s.raisingShown_offRoad)
  have hlive : s.raisingShown.rcs.live = true := by
    rw [State.raisingShown_rcs, State.raisingBegun, State.leaveSealed_clear hf, State.onRcs_rcs, State.startBudget_rcs]
    exact Bool.and_eq_true_iff.2 ⟨by simpa [Rcs.suspended] using hs, by simpa using hh⟩
  have hdrive := State.driveStep_drives (s := s.raisingShown) fun f => by
    rw [State.isDisplaced_of_offRoad s.raisingShown_offRoad]
    exact hd f
  have hmem : ∀ {g : Gate}, g = .b1 ∨ g = .b2 → (g, GateCmd.up) ∈ s.raisingShown.stepGates := by
    rintro g (rfl | rfl) <;> simp [State.raisingShown_stepGates]
  have hroad := State.roadBody_road s.raisingShown.driveStep_roadBody
  have hphase := State.roadBody_phase s.raisingShown.driveStep_roadBody
  have hstays : s.enterBarrierRaising = s.raisingShown.driveStep := by
    rw [State.enterBarrierRaising_eq]
    refine State.advance_of_off (g := b) (c := .up) ?_ ?_
    · rw [State.stepGates, hroad, hphase]
      exact hmem hb
    · rw [(hdrive.proofs b).1, hpos' b]
      simpa [cmdPos] using hpos
  rw [hstays]
  refine ⟨by rw [hroad, State.raisingShown_rcs]; rfl, fun g hg hp => ?_⟩
  have hat := hdrive.asked g .up (hmem hg)
  have hto : s.raisingShown.drivenTo g .up =
      ({ s.raisingShown.gate g with cmd := .up, travel := some (2880000 * s.act.gateTime.toNat) }, false, true) := by
    simp [State.drivenTo, GateRec.driven, GateRec.flagged, GateRec.target, GateRec.moved, GateRec.lines, cmdPos, hpos', hp, hlive,
      State.travelTicks, hact]
  rw [hto] at hat
  exact ⟨congrArg (·.1.cmd) hat, congrArg (·.2.2) hat, congrArg (·.1.travel) hat⟩

/-- A reopening under a span SEATED_LOCKED reaches neither the span nor the channel. -/
theorem State.enterBarrierRaising_rest {s : State} (hm : s.smc.motion = .seatedLocked) :
    s.enterBarrierRaising =
      { s with om := s.enterBarrierRaising.om, rcs := s.enterBarrierRaising.rcs, pg := s.enterBarrierRaising.pg,
               mfs := s.enterBarrierRaising.mfs } := by
  obtain ⟨hsmc, hpau⟩ := State.enterBarrierRaising_quiet (s := s) (by rw [hm]; exact Motion.quiet_seatedLocked)
  have h := State.offSequencer_eq s.enterBarrierRaising_offSequencer
  rwa [hsmc, hpau] at h

/-- The frame and the reply are not among what a reopening brings. -/
theorem Reopens.withPorts {s t : State} {p : Port} {rest : List Buffered} (sp : PerPort PortRec) (h : Reopens (s.popped p rest) t) :
    Reopens s (t.withPorts sp) :=
  ⟨h.road, h.drives⟩

/-- What RCS, SMC and their outputs do after a qualified line, as the state before the instant sees it. -/
theorem Qualified.frame {u w t : State} {l : Fin 48} {b : Bool} (h : Qualified u l b w)
    (ht : t = { w with om := t.om, rcs := t.rcs, pg := t.pg, pau := t.pau, smc := t.smc, mfs := t.mfs }) :
    t = { u with iq := t.iq, rcs := t.rcs, om := t.om, smc := t.smc, pg := t.pg, pau := t.pau, mfs := t.mfs } := by
  have hiq : t.iq = w.iq := by rw [ht]
  rw [h.looks.rest] at ht
  rw [hiq]
  exact ht

/-- The reopening of a state with the new levels is one of the state before the instant. -/
theorem Qualified.reopens {u w t : State} {l : Fin 48} {b : Bool} (h : Qualified u l b w) (k : Reopens w t) : Reopens u t := by
  have hgate : ∀ g, w.gate g = u.gate g := fun g => by simp only [State.gate, h.rcs]
  have hfault : ∀ g, w.fault (gateFault g) = u.fault (gateFault g) := fun g =>
    h.looks.fault _ (.inr (by simp only [gateFault]; omega))
  have hdisplaced : ∀ f, w.isDisplaced f = u.isDisplaced f := fun f => by
    have hd : w.om.displaced = u.om.displaced := by rw [h.looks.rest]
    simp only [State.isDisplaced, hd]
  refine ⟨k.road, fun hs hh hf hd hoff => ?_⟩
  have hdrives := k.drives
  simp only [h.rcs, hgate, hfault, hdisplaced, h.act] at hdrives
  exact hdrives hs hh hf hd hoff

/-- REOPEN ROAD brings the state that its frame has left what RCS makes of it (R88). -/
theorem execReopenRoad_eq {s : State} {b : Buffered} {rest : List Buffered} (h : s.operatorAsks b rest 0x21 [] = true) :
    exec (.reopenRoad .operator) s =
      .next ((s.popped .operator rest).reopenRoad.2.withPorts
        (s.answered .operator b rest (s.popped .operator rest).reopenRoad.1.ctorIdx []).sp) := by
  obtain ⟨hoffers, hasks, -, -⟩ := (s.operatorAsks_iff b rest _ _).1 h
  obtain ⟨hkind, -⟩ := (b.asks_iff _ _).1 hasks
  have hrow : takeCommand .operator b.frame = .reopenRoad .operator := by
    simp [takeCommand, State.not_dropped hoffers (by omega), hkind]
  exact congrArg Host.Outcome.next
    (State.takeRequest_asked (fun s => s.reopenRoad) h hrow rfl (s.popped .operator rest).reopenRoad_stores)

/-- The road states in which a REOPEN has nothing to do (R88). -/
def Road.reopened (r : Road) : Prop := r = .isOpen ∨ r = .barrierRaising ∨ r = .gateRaising ∨ r = .extinguish

theorem State.reopenRoad_reopened {s : State} (h : s.rcs.road.reopened) : s.reopenRoad = (.ok, s) := by
  obtain h | h | h | h := h <;> simp only [State.reopenRoad, h]

/-- The conditions of a reopening (R88, R98). -/
def State.mayReopen (s : State) : Prop := s.smc.motion = .seatedLocked ∧ s.hasHold .keepClosed = false

theorem State.reopenRoad_asked {s : State} (h : ¬ s.rcs.road.reopened) :
    (s.mayReopen → s.reopenRoad = (.ok, s.enterBarrierRaising)) ∧ (¬ s.mayReopen → s.reopenRoad = (.notNow, s)) := by
  have hr : s.reopenRoad =
      if s.smc.motion = .seatedLocked && !s.hasHold .keepClosed then (.ok, s.enterBarrierRaising) else (.notNow, s) := by
    unfold State.reopenRoad
    split
    case h_1 e | h_2 e | h_3 e | h_4 e => exact absurd (by simp [Road.reopened, e]) h
    all_goals rfl
  have hc : (s.smc.motion = .seatedLocked && !s.hasHold .keepClosed) = true ↔ s.mayReopen := by
    simp [State.mayReopen]
  exact ⟨fun hm => by rw [hr, if_pos (hc.2 hm)], fun hm => by rw [hr, if_neg (mt hc.1 hm)]⟩

/-- Settles O25: a reopening is `enterBarrierRaising` where its conditions hold, and nothing else. -/
theorem reopenRoadNeedsTheSpanLocked : Obligations.ReopenRoadNeedsTheSpanLocked := by
  refine ⟨fun s b rest hask => ?_, fun u lines lamps level hq => ⟨_, rfl, ?_⟩⟩
  · have hexec := execReopenRoad_eq hask
    refine ⟨fun ha => ?_, fun hna hno => ?_, fun hna hm hk => ?_⟩
    · rw [State.reopenRoad_reopened (s := s.popped .operator rest) ha] at hexec
      exact hexec
    · rw [(State.reopenRoad_asked (s := s.popped .operator rest) hna).2 fun hm => ?_] at hexec
      · exact hexec
      · obtain ⟨hm, hk⟩ := hm
        obtain hno | hno := hno
        · exact hno hm
        · exact Bool.false_ne_true (hk.symm.trans hno)
    · rw [(State.reopenRoad_asked (s := s.popped .operator rest) hna).1 ⟨hm, hk⟩] at hexec
      have hrest := State.enterBarrierRaising_rest (s := s.popped .operator rest) hm
      obtain ⟨hroad, hdrives⟩ := (s.popped .operator rest).enterBarrierRaising_reopens.withPorts (s.answered .operator b rest 0 []).sp
      exact ⟨_, hexec, (congrArg (fun t => t.withPorts (s.answered .operator b rest 0 []).sp) hrest :), hroad, hdrives⟩
  · obtain ⟨w, hs, hw⟩ := State.sample_qualified lamps (by decide) (by decide) hq
    have hdeliver : w.deliverLine 42 = if level && u.line 36 then w.reopenRoad.2 else w := by
      rw [← hw.line, ← hw.other 36 (by decide)]
      rfl
    have hholds : w.hasHold .keepClosed = u.hasHold .keepClosed := by rw [hw.looks.rest]; rfl
    have hmay : w.mayReopen ↔ u.mayReopen := by rw [State.mayReopen, hw.motion, hholds]; rfl
    rw [hs, hdeliver]
    by_cases hc : level = true ∧ u.line 36 = true ∧ ¬ u.rcs.road.reopened ∧ u.mayReopen
    · obtain ⟨rfl, h36, hna, hm⟩ := hc
      have hmotion : w.smc.motion = .seatedLocked := hw.motion.trans hm.1
      obtain ⟨hsmc, hpau⟩ := State.enterBarrierRaising_quiet (s := w) (by rw [hmotion]; exact Motion.quiet_seatedLocked)
      rw [if_pos (by simp [h36]), (State.reopenRoad_asked (by rwa [hw.rcs])).1 (hmay.2 hm)]
      refine ⟨?_, by rw [hsmc]; exact hw.smc, fun x => ?_, ?_⟩
      · have hrest := hw.frame (t := w.enterBarrierRaising) ?_
        · rwa [hpau.trans hw.pau] at hrest
        · rw [hsmc, hpau]
          exact State.enterBarrierRaising_rest hmotion
      · rw [show w.enterBarrierRaising.tower x = w.tower x by simp only [State.tower, hsmc]]
        exact hw.looks.phase x
      · obtain ⟨hroad, hdrives⟩ := hw.reopens w.enterBarrierRaising_reopens
        rw [if_pos ⟨rfl, h36, hna, hm⟩]
        exact ⟨hroad, hdrives⟩
    · have hstays : (if level && u.line 36 then w.reopenRoad.2 else w) = w := by
        split
        · next hp =>
          obtain ⟨hp, h36⟩ := Bool.and_eq_true_iff.1 hp
          by_cases ha : u.rcs.road.reopened
          · rw [State.reopenRoad_reopened (by rwa [hw.rcs])]
          · rw [(State.reopenRoad_asked (by rwa [hw.rcs])).2 fun hm => hc ⟨hp, h36, ha, hmay.1 hm⟩]
        · rfl
      obtain ⟨hrest, hsmc, hphase⟩ := hw.signals (t := w) rfl
      rw [hstays]
      refine ⟨hrest, hsmc, hphase, ?_⟩
      split
      · next hreopens => exact absurd hreopens hc
      · exact ⟨hw.rcs, hw.pg, hw.cmd⟩

end Sys2Proof.Machine
end

section
/-! SUPPORT. The return of members to FILED and the end of the opening (R170, R171, R173). -/

namespace Sys2Proof.Machine

/-! ### Records returned to FILED (R170) -/

/-- A record that has returned to FILED (R170, R171). -/
def Passage.returned (r : Passage) : Passage := { r with state := .filed, deferred := true, lift := none }

/-- From `s` to `t` the records whose handles pass `p` return to FILED; the handles and the filing queue stand. -/
def Returned (p : Handle 16 → Prop) [DecidablePred p] (s t : State) : Prop :=
  t.pau.queue = s.pau.queue ∧
    ∀ i : Fin 16,
      t.pau.slots[i] =
        { gen := (s.pau.slots[i]).gen,
          record := (s.pau.slots[i]).record.map fun r =>
            if p { slot := i, gen := (s.pau.slots[i]).gen } then r.returned else r }

namespace Returned

variable {p q : Handle 16 → Prop} [DecidablePred p] [DecidablePred q] {s t u : State}

/-- The record that a handle names afterwards. -/
theorem passage (h : Returned p s t) (k : Handle 16) :
    t.passage k = (s.passage k).map fun r => if p k then r.returned else r := by
  obtain ⟨i, g⟩ := k
  unfold State.passage
  simp only [h.2 i]
  by_cases hg : (s.pau.slots[i]).gen = g
  · subst hg
    rw [if_pos rfl, if_pos rfl]
  · rw [if_neg hg, if_neg hg, Option.map_none]

theorem isSome (h : Returned p s t) (k : Handle 16) : (t.passage k).isSome = (s.passage k).isSome := by
  rw [h.passage, Option.isSome_map]

theorem refl (h : ∀ k, ¬ p k) : Returned p s s := by
  refine ⟨rfl, fun i => ?_⟩
  simp only [if_neg (h _), Option.map_id']

/-- A record returns once. -/
theorem return_return (a b : Prop) [Decidable a] [Decidable b] (r : Passage) :
    (if b then (if a then r.returned else r).returned else if a then r.returned else r) = if a ∨ b then r.returned else r := by
  by_cases ha : a
  · simp [ha, Passage.returned]
  · simp [ha]

theorem trans (h : Returned p s t) (k : Returned q t u) : Returned (fun y => p y ∨ q y) s u := by
  refine ⟨k.1.trans h.1, fun i => ?_⟩
  rw [k.2 i, h.2 i]
  simp only [Option.map_map, Slot.mk.injEq, true_and]
  exact congrArg (fun f => (s.pau.slots[i]).record.map f) (funext fun r => return_return _ _ r)

theorem congr (h : Returned p s t) (hpq : ∀ k, p k ↔ q k) : Returned q s t := by
  refine ⟨h.1, fun i => ?_⟩
  rw [h.2 i]
  simp only [hpq]

/-- The opening does not matter. -/
theorem of_eq (h : Returned p s t) (hs : u.pau.slots = t.pau.slots) (hq : u.pau.queue = t.pau.queue) : Returned p s u := by
  unfold Returned at h ⊢
  rw [hs, hq]
  exact h

end Returned

/-- The return of the record that one handle names. -/
theorem State.setPassage_returned {s : State} {h : Handle 16} {r : Passage} (hr : s.passage h = some r) :
    Returned (· = h) s (s.setPassage h.slot r.returned) := by
  have hg : (s.pau.slots[h.slot]).gen = h.gen ∧ (s.pau.slots[h.slot]).record = some r := by
    unfold State.passage at hr
    split at hr
    · next hg => exact ⟨hg, hr⟩
    · cases hr
  obtain ⟨hgen, hrec⟩ := hg
  refine ⟨rfl, fun i => ?_⟩
  simp only [State.setPassage, State.onPau_pau, Pau.setRecord, Fin.getElem_fin, Vector.getElem_set]
  by_cases hi : h.slot = i
  · subst hi
    simp only [Fin.getElem_fin] at hgen hrec
    simp [hgen, hrec]
  · have hv : ¬ h.slot.val = i.val := fun e => hi (Fin.ext e)
    have hk : ¬ ({ slot := i, gen := (s.pau.slots[i]).gen } : Handle 16) = h := fun e => hi (by rw [← e])
    simp only [Fin.getElem_fin] at hk
    simp [hv, hk]

theorem State.backToFiled_some {s : State} {h : Handle 16} {r : Passage} (hr : s.passage h = some r) :
    s.backToFiled h = (s.setPassage h.slot r.returned).onOpening (·.drop h) := by
  rw [State.backToFiled, hr]
  rfl

/-- Only the records and the opening change. -/
def PassagesOnly (s t : State) : Prop := t = { s with pau := { s.pau with slots := t.pau.slots, opening := t.pau.opening } }

theorem PassagesOnly.trans {s t u : State} (h : PassagesOnly s t) (k : PassagesOnly t u) : PassagesOnly s u := by
  unfold PassagesOnly at h k ⊢
  rw [h] at k
  exact k

/-- The members of a list that are all there return to FILED and leave the member list and the admission queues. -/
theorem foldl_backToFiled (l : List (Handle 16)) (s : State) (hl : ∀ h ∈ l, (s.passage h).isSome = true) :
    PassagesOnly s (l.foldl State.backToFiled s) ∧ Returned (· ∈ l) s (l.foldl State.backToFiled s) ∧
      (l.foldl State.backToFiled s).pau.opening =
        { s.pau.opening with
          members := s.pau.opening.members.filter (· ∉ l), queueUp := s.pau.opening.queueUp.filter (· ∉ l),
          queueDown := s.pau.opening.queueDown.filter (· ∉ l) } := by
  induction l generalizing s with
  | nil => exact ⟨rfl, .refl (by simp), by simp⟩
  | cons h l ih =>
    obtain ⟨r, hr⟩ := Option.isSome_iff_exists.1 (hl h List.mem_cons_self)
    have hone := State.backToFiled_some hr
    have hreturn : Returned (· = h) s (s.backToFiled h) := by
      rw [hone]
      exact (State.setPassage_returned hr).of_eq rfl rfl
    obtain ⟨hrest, hreturned, hopen⟩ := ih (s.backToFiled h) fun k hk => by
      rw [hreturn.isSome]; exact hl k (List.mem_cons_of_mem _ hk)
    rw [List.foldl_cons]
    refine ⟨PassagesOnly.trans ?_ hrest, (hreturn.trans hreturned).congr fun k => by simp, ?_⟩
    · rw [hone]; rfl
    · rw [hopen, hone]
      simp [State.onOpening, State.setPassage, Pau.setRecord, Opening.drop, List.filter_filter, Bool.and_comm]

/-! ### The waiting members (R170, R171) -/

/-- The GROUPED and ADMITTED members. -/
def State.waiting (s : State) : List (Handle 16) := s.membersIn .grouped ++ s.membersIn .admitted

theorem State.mem_membersIn {s : State} {x : PassState} {h : Handle 16} :
    h ∈ s.membersIn x ↔ h ∈ s.pau.opening.members ∧ ∃ r, s.passage h = some r ∧ r.state = x := by
  rw [State.membersIn, State.inState, List.mem_filter]
  cases hr : s.passage h <;> simp

theorem State.returns_iff {s : State} {h : Handle 16} :
    s.returns h = true ↔ h ∈ s.pau.opening.members ∧ ∃ r, s.passage h = some r ∧ (r.state = .grouped ∨ r.state = .admitted) := by
  rw [State.returns, Bool.and_eq_true, List.contains_iff_mem]
  cases hr : s.passage h <;> simp

theorem State.mem_waiting {s : State} {h : Handle 16} : h ∈ s.waiting ↔ s.returns h = true := by
  rw [State.waiting, List.mem_append, State.mem_membersIn, State.mem_membersIn, State.returns_iff, ← and_or_left, ← exists_or]
  simp only [← and_or_left]

/-- The waiting members have returned, and no more of PAU has changed but the direction. -/
structure Waived (s t : State) (o : OpeningState) : Prop where
  rest : PassagesOnly s t
  returned : ReturnedToFiled s t
  opening : t.pau.opening = s.openingLeft o

/-- The waiting members return, and leave the opening with its direction. -/
theorem State.waiting_returned (s : State) :
    PassagesOnly s (s.waiting.foldl State.backToFiled s) ∧ ReturnedToFiled s (s.waiting.foldl State.backToFiled s) ∧
      (s.waiting.foldl State.backToFiled s).pau.opening =
        { s.openingLeft s.pau.opening.state with active := s.pau.opening.active } := by
  obtain ⟨hrest, hreturned, hopen⟩ := foldl_backToFiled s.waiting s fun h hh => by
    obtain ⟨-, r, hr, -⟩ := State.returns_iff.1 (State.mem_waiting.1 hh)
    simp [hr]
  refine ⟨hrest, hreturned.congr fun _ => State.mem_waiting, hopen.trans ?_⟩
  simp only [State.mem_waiting]
  simp [State.openingLeft]

/-- A direction whose queue is left empty is given back; without an open clearance nobody is admitted then (R160, R161). -/
theorem State.settleDirection_closed {s : State} (h : s.pau.opening.state = .admitting → s.rcs.budget = 0) :
    s.settleDirection =
      { s with
        pau :=
          { s.pau with
            opening :=
              { s.pau.opening with
                active := heldBy s.pau.opening.active s.pau.opening.queueUp s.pau.opening.queueDown } } } := by
  obtain ⟨u, hu, hsettle⟩ := s.settleDirection_eq
  have hidle : s.pau.opening.state = .admitting → u.admissionTest = u := fun ha => by
    refine (State.admissionTest_idle (.inl ?_)).1
    have hb : u.rcs.budget = 0 := by rw [hu]; exact h ha
    simp [State.openClearance, hb]
  rw [hsettle, ← hu]
  split
  · next hc => exact hidle hc.2.2
  · rfl

theorem State.waiting_waived {s : State} (h : s.pau.opening.state = .admitting → s.rcs.budget = 0) :
    Waived s (s.waiting.foldl State.backToFiled s).settleDirection s.pau.opening.state := by
  obtain ⟨hrest, hreturned, hopen⟩ := s.waiting_returned
  have hsettle := State.settleDirection_closed (s := s.waiting.foldl State.backToFiled s) fun ha => by
    rw [hopen] at ha
    rw [hrest]
    exact h ha
  rw [hsettle]
  refine ⟨PassagesOnly.trans hrest rfl, hreturned, ?_⟩
  simp only [hopen]
  rfl

/-! ### The opening closes (R170, R171, R173) -/

/-- Who waits has returned, so nobody waits any more; the others stand. -/
theorem Waived.inState {s t : State} {o : OpeningState} (h : Waived s t o) :
    t.membersIn .grouped = [] ∧ t.membersIn .admitted = [] ∧ (t.membersIn .transiting = [] ↔ s.hasMember .transiting = false) := by
  have hret : Returned (fun k => s.returns k = true) s t := h.returned
  have hmem : ∀ k, k ∈ t.pau.opening.members ↔ k ∈ s.pau.opening.members ∧ ¬ s.returns k = true := fun k => by
    rw [h.opening]
    simp [State.openingLeft]
  have hstands : ∀ k x, k ∈ t.membersIn x ↔ k ∈ s.membersIn x ∧ ¬ s.returns k = true := by
    intro k x
    rw [State.mem_membersIn, State.mem_membersIn, hmem, hret.passage]
    by_cases hk : s.returns k = true
    · simp [hk]
    · simp [hk]
  refine ⟨List.eq_nil_iff_forall_not_mem.2 fun k hk => ?_, List.eq_nil_iff_forall_not_mem.2 fun k hk => ?_, ?_⟩
  · obtain ⟨hin, hnot⟩ := (hstands k _).1 hk
    exact hnot (State.mem_waiting.1 (List.mem_append_left _ hin))
  · obtain ⟨hin, hnot⟩ := (hstands k _).1 hk
    exact hnot (State.mem_waiting.1 (List.mem_append_right _ hin))
  · have hnone : s.hasMember .transiting = false ↔ ∀ k, k ∉ s.membersIn .transiting := by
      rw [← Bool.not_eq_true, State.hasMember, List.any_eq_true]
      simp only [State.mem_membersIn, not_exists, not_and]
      refine forall_congr' fun k => imp_congr_right fun _ => ?_
      cases s.passage k <;> simp
    rw [hnone, List.eq_nil_iff_forall_not_mem]
    refine forall_congr' fun k => not_congr ⟨fun hk => ((hstands k _).1 hk).1, fun hk => (hstands k _).2 ⟨hk, fun hr => ?_⟩⟩
    obtain ⟨-, r, hr, hrs⟩ := State.mem_membersIn.1 hk
    obtain ⟨-, r', hr', hrs'⟩ := State.returns_iff.1 ‹_›
    simp_all

theorem heldBy_heldBy (a : Option Dir) (up down : List (Handle 16)) :
    heldBy (heldBy a up down) up down = heldBy a up down := by
  cases a with
  | none => rfl
  | some d =>
    cases d
    · by_cases h : up = [] <;> simp [heldBy, h]
    · by_cases h : down = [] <;> simp [heldBy, h]

/-- The entry to CLOSING_CHANNEL of an opening in which nobody waits. -/
theorem Waived.enterClosing {s t : State} {o : OpeningState} (h : Waived s t o) (hm : s.hasMember .transiting = false) :
    PassagesOnly s t.enterClosing ∧ ChannelClosed s t.enterClosing := by
  obtain ⟨hgrouped, hadmitted, htransiting⟩ := h.inState
  have hclose : t.enterClosing = (t.onOpening fun o => { o with state := .closingChannel }).settleDirection.finishingTest := by
    rw [State.enterClosing, hgrouped, hadmitted]
    rfl
  have hsettle := State.settleDirection_closed (s := t.onOpening fun o => { o with state := .closingChannel }) fun ha => by cases ha
  have hopen : (t.onOpening fun o => { o with state := .closingChannel }).settleDirection.pau.opening =
      s.openingLeft .closingChannel := by
    rw [hsettle]
    simp [State.onOpening, h.opening, State.openingLeft, heldBy_heldBy]
  generalize (t.onOpening fun o => { o with state := .closingChannel }).settleDirection = u at hclose hsettle hopen
  have hrest : PassagesOnly t u := by rw [hsettle]; rfl
  have hret : ReturnedToFiled s u := by
    rw [hsettle]
    exact h.returned
  have hstate : u.pau.opening.state = .closingChannel := by rw [hopen]; rfl
  have hidle : u.membersIn .transiting = [] := by
    rw [hsettle]
    exact htransiting.2 hm
  have hmay : ∀ v : State, v.iq = u.iq → s.mayFinish v = u.beamsClear := fun v hv => by
    simp [State.mayFinish, State.beamsClear, State.line, hm, hv]
  rw [hclose, State.finishingTest]
  by_cases hb : u.beamsClear = true
  · rw [if_pos (by simp [State.opening, hstate, hidle, hb])]
    refine ⟨h.rest.trans (hrest.trans rfl), hret, ?_⟩
    rw [hmay (u.onOpening fun _ => Opening.absent) rfl, if_pos hb]
    rfl
  · rw [if_neg (by simp [hb])]
    refine ⟨h.rest.trans hrest, hret, ?_⟩
    rw [hmay u rfl, if_neg hb, hopen]

end Sys2Proof.Machine
end

section
/-! The budget clock (R105, R106, R170). -/

namespace Sys2Proof.Machine

/-- What an exhausted budget makes of an open channel (R106, R170, R171). -/
structure BudgetSpent (s t : State) : Prop where
  rest : PassagesOnly s t
  returned : ReturnedToFiled s t
  stays : s.hasMember .transiting = true → t.pau.opening = s.openingLeft s.pau.opening.state
  closes : s.hasMember .transiting = false → ChannelClosed s t

theorem OpeningState.isOpen_iff (o : OpeningState) : o.isOpen = true ↔ o = .gathered ∨ o = .admitting := by
  cases o <;> simp [OpeningState.isOpen]

theorem Waived.closeIfSpent {s t : State} (h : Waived s t s.pau.opening.state) (ho : s.pau.opening.state.isOpen = true)
    (hb : s.rcs.budget = 0) : BudgetSpent s t.closeIfSpent := by
  obtain ⟨-, hadmitted, htransiting⟩ := h.inState
  have hopen : t.opening.state.isOpen = true := by
    rw [State.opening, h.opening]
    exact ho
  have hbudget : t.rcs.budget = 0 := by
    rw [h.rest]
    exact hb
  unfold State.closeIfSpent
  cases hm : s.hasMember .transiting with
  | false =>
    rw [if_pos (by simp [hopen, hbudget, hadmitted, htransiting.2 hm])]
    obtain ⟨hrest, hclosed⟩ := h.enterClosing hm
    exact ⟨hrest, hclosed.1, fun hc => (Bool.false_ne_true (hm.symm.trans hc)).elim, fun _ => hclosed⟩
  | true =>
    rw [if_neg ?_]
    · exact ⟨h.rest, h.returned, fun _ => h.opening, fun hc => (Bool.false_ne_true (hc.symm.trans hm)).elim⟩
    · have hsome : t.membersIn .transiting ≠ [] := fun he => Bool.false_ne_true ((htransiting.1 he).symm.trans hm)
      simp [hsome]

/-- The aspects decided afterwards touch neither the records nor the opening. -/
theorem BudgetSpent.of_pau {s t u : State} (h : BudgetSpent s t) (hs : u.pau.slots = t.pau.slots) (hq : u.pau.queue = t.pau.queue)
    (ho : u.pau.opening = t.pau.opening) (hi : u.iq = t.iq) :
    ReturnedToFiled s u ∧ if s.hasMember .transiting = true then u.pau.opening = s.openingLeft s.pau.opening.state
      else ChannelClosed s u := by
  have hret : ReturnedToFiled s u := by
    unfold ReturnedToFiled
    rw [hs, hq]
    exact h.returned
  have hmay : s.mayFinish u = s.mayFinish t := by simp only [State.mayFinish, State.line, hi]
  refine ⟨hret, ?_⟩
  split
  · next hm => exact ho.trans (h.stays hm)
  · next hm =>
    obtain ⟨-, hclosed⟩ := h.closes (by simpa using hm)
    exact ⟨hret, by rw [ho, hmay]; exact hclosed⟩

/-- The channel of an opening that takes joins, at the exhaustion of the budget. -/
theorem State.budgetSpent_open {s : State} (ho : s.pau.opening.state.isOpen = true) (hb : s.rcs.budget = 0) :
    ∃ t, BudgetSpent s t ∧ s.budgetSpent = t.decideAspects :=
  ⟨_, (State.waiting_waived fun _ => hb).closeIfSpent ho hb, if_pos ho⟩

/-- The state in which the exhaustion of the budget is told. -/
def State.budgetGone (s : State) : State := { s with rcs := { s.rcs with budget := 0, budgetTimer := some 2880000 } }

theorem State.budgetTick_eq {s : State} (h : s.rcs.budgetTimer.isSome = true) :
    s.budgetTick =
      if s.rcs.budget = 1 then s.budgetGone.budgetSpent
      else { s with rcs := { s.rcs with budget := s.rcs.budget - 1, budgetTimer := some 2880000 } } := by
  have hrun : ¬ s.rcs.budgetTimer.isNone = true := by
    rw [Option.isNone_eq_false_iff.2 h]
    exact Bool.false_ne_true
  unfold State.budgetTick
  rw [if_neg hrun]
  by_cases hb : s.rcs.budget = 1
  · simp only [hb, if_true]
    rw [State.budgetGone, ← show s.rcs.budget - 1 = 0 by rw [hb]]
    rfl
  · simp only [hb, if_false]
    rfl

/-- Deciding the aspects writes them, and no more of PAU. -/
theorem State.decideAspects_pau (s : State) :
    s.decideAspects.pau = { s.pau with decidedU := s.decideAspects.pau.decidedU, decidedD := s.decideAspects.pau.decidedD } := by
  rw [State.decideAspects, State.handAspect_pau, State.handAspect_pau]
  rfl

/-- What the tick that brings the budget to 0 makes of the channel (R106, R170). -/
structure BudgetTaken (s t : State) : Prop where
  returned : ReturnedToFiled s t
  rest : t.pau = { t.pau with clock := s.pau.clock, clearanceLow := s.pau.clearanceLow, intrusion := s.pau.intrusion,
                              lastClearance := s.pau.lastClearance }
  decided : t.aspectsDecided
  opening : if s.hasMember .transiting = true then t.pau.opening = s.openingLeft s.pau.opening.state else ChannelClosed s t

theorem State.budgetGone_open {s : State} (ho : s.pau.opening.state.isOpen = true) : BudgetTaken s s.budgetGone.budgetSpent := by
  obtain ⟨t, ht, hspent⟩ := State.budgetSpent_open (s := s.budgetGone) ho rfl
  have hpau := t.decideAspects_pau
  have hdecided := t.decideAspects_decided
  have hiq : t.decideAspects.iq = t.iq := State.stores_iq t.decideAspects_stores
  rw [← hspent] at hpau hdecided hiq
  obtain ⟨hret, hopen⟩ := ht.of_pau (u := s.budgetGone.budgetSpent) (by rw [hpau]) (by rw [hpau]) (by rw [hpau]) hiq
  refine ⟨hret, ?_, hdecided, hopen⟩
  rw [hpau, ht.rest]
  rfl

/-- A waiting member's record returns; the record of a member under way stands. -/
theorem BudgetTaken.record {s t : State} (h : BudgetTaken s t) {k : Handle 16} (hk : k ∈ s.pau.opening.members) {r : Passage}
    (hr : s.passage k = some r) :
    (r.state = .grouped ∨ r.state = .admitted → t.passage k = some r.returned) ∧
      (r.state = .transiting → t.passage k = some r) := by
  have hret : Returned (fun k => s.returns k = true) s t := h.returned
  have hpass := hret.passage k
  have hiff : s.returns k = true ↔ r.state = .grouped ∨ r.state = .admitted := by
    rw [State.returns_iff, hr]
    exact ⟨fun ⟨_, x, hx, hw⟩ => by cases hx; exact hw, fun hw => ⟨hk, r, rfl, hw⟩⟩
  rw [hr, Option.map_some] at hpass
  refine ⟨fun hw => by rw [hpass, if_pos (hiff.2 hw)], fun hx => ?_⟩
  rw [hpass, if_neg fun hw => ?_]
  rcases hiff.1 hw with hw | hw <;> simp [hx] at hw

/-- Settles O47: a tick takes a second off, and the one that leaves none is told to PAU. -/
theorem budgetTicksDownAndIsSpent : Obligations.BudgetTicksDownAndIsSpent := by
  intro s hs
  have htick := State.budgetTick_eq hs
  refine ⟨fun hb => congrArg Host.Outcome.next (htick.trans (if_neg hb)), fun hb c hc => ?_⟩
  rw [if_pos hb] at htick
  have hexec : exec c s = .next s.budgetGone.budgetSpent := by
    obtain rfl | rfl := hc
    · exact congrArg Host.Outcome.next htick
    · exact congrArg Host.Outcome.next ((if_pos hb).trans htick)
  have hrest := State.offChannel_eq s.budgetGone.budgetSpent_offChannel
  have hrcs : s.budgetGone.budgetSpent.rcs = s.budgetGone.rcs := by rw [hrest]
  have hopen := s.pau.opening.state.isOpen_iff
  have hnone : ¬ s.pau.opening.state.isOpen = true → s.budgetGone.budgetSpent = s.budgetGone := fun ho => if_neg ho
  refine ⟨_, hexec, hrcs, ?_, ?_, fun ho k hk r hr => (State.budgetGone_open (hopen.2 ho)).record hk hr, fun ho => ?_, fun ho => ?_⟩
  · rw [hrcs]
    exact hrest
  · by_cases ho : s.pau.opening.state.isOpen = true
    · exact (State.budgetGone_open ho).returned.1
    · rw [hnone ho]
      rfl
  · obtain ⟨hret, hpau, hdecided, hopening⟩ := State.budgetGone_open (hopen.2 ho)
    refine ⟨hpau, hdecided, ?_⟩
    split
    · next hm => exact ⟨hret, by rwa [if_pos hm] at hopening⟩
    · next hm => rwa [if_neg hm] at hopening
  · rw [hnone fun hi => ?_]
    · exact ⟨rfl, rfl, rfl⟩
    · obtain ho | ho := ho <;> simp [ho, OpeningState.isOpen] at hi

end Sys2Proof.Machine
end

section
/-! SUPPORT. Where the road stands past the steps that have ended (R94, R97, R99, R104). -/

namespace Sys2Proof.Machine

/-! ### The proofs that a road state reads -/

/-- Where the road stands past the steps that have ended. -/
def State.past (s : State) : Road × RaisingPhase :=
  roadPast (fun g => (s.gate g).pos) (fun g => (s.gate g).obstructed) (decide (s.rcs.clearing = .expired)) s.rcs.road s.rcs.phase

/-- The road states of a closing, which read the proofs of gates that are down (R94, R97). -/
def Road.closing : Road → Bool
  | .entryLowering | .clearing | .exitLowering | .barrierLowering => true
  | .isOpen | .prewarn | .sealed | .barrierRaising | .gateRaising | .extinguish | .recovery => false

theorem roadPast_of_downs {pos pos' : Gate → GatePos} {obs obs' : Gate → Bool} {c : Bool} {road : Road} {phase : RaisingPhase}
    (hr : road.closing = true) (h : ∀ g, (decide (pos' g = .down) && !obs' g) = (decide (pos g = .down) && !obs g)) :
    roadPast pos' obs' c road phase = roadPast pos obs c road phase := by
  cases road
  case entryLowering | clearing | exitLowering | barrierLowering => simp only [roadPast, h]
  all_goals cases hr

/-- The steps left to go past: each step past a step that has ended takes one off. -/
def roadRank : Road → RaisingPhase → Nat
  | .entryLowering, _ => 4
  | .clearing, _ | .barrierRaising, _ => 3
  | .exitLowering, _ | .gateRaising, .exit => 2
  | .barrierLowering, _ | .gateRaising, .entry => 1
  | .isOpen, _ | .prewarn, _ | .sealed, _ | .extinguish, _ | .recovery, _ => 0

def State.rank (s : State) : Nat := roadRank s.rcs.road s.rcs.phase

theorem State.stepGates_up {s : State} (h : s.rcs.road.closing = false) : ∀ x ∈ s.stepGates, x.2 = .up := by
  unfold State.stepGates
  generalize s.rcs.road = road, s.rcs.phase = phase at h
  cases road
  case entryLowering | clearing | exitLowering | barrierLowering => cases h
  all_goals cases phase <;> decide

/-- A drive of the step proves no gate and takes no proof away. -/
theorem Drives.past {s t : State} (h : Drives s.drivenTo s.stepGates s t) : t.past = s.past := by
  have hpos : ∀ g, (t.gate g).pos = (s.gate g).pos := fun g => (h.proofs g).1
  have hbody := h.body
  have hroad : t.rcs.road = s.rcs.road := by rw [hbody]
  have hphase : t.rcs.phase = s.rcs.phase := by rw [hbody]
  have hclearing : t.rcs.clearing = s.rcs.clearing := by rw [hbody]
  unfold State.past
  rw [hroad, hphase, hclearing]
  cases hc : s.rcs.road.closing with
  | true =>
    refine roadPast_of_downs hc fun g => ?_
    rw [hpos g]
    by_cases hd : (s.gate g).pos = .down
    · rw [(h.proofs g).2 (.inl hd)]
    · simp [hd]
  | false =>
    have hobs : ∀ g, (t.gate g).obstructed = (s.gate g).obstructed := fun g => (h.proofs g).2 (.inr (State.stepGates_up hc))
    simp only [hpos, hobs]

theorem Drives.rank {s t : State} (h : Drives s.drivenTo s.stepGates s t) : t.rank = s.rank := by
  rw [State.rank, h.body]
  rfl

/-- A gate is proven at a position, with no obstruction flag. -/
def State.isAt (s : State) (p : GatePos) (g : Gate) : Bool := decide ((s.gate g).pos = p) && !(s.gate g).obstructed

/-- The proofs that end the step of a road state (R90, R94). -/
theorem State.stepDone_eq (s : State) :
    s.stepDone = s.stepGates.all fun x => if x.2 = .down then s.isAt .down x.1 else s.isAt .up x.1 := by
  refine Bool.eq_iff_iff.2 ?_
  simp only [State.stepDone, List.all_eq_true]
  refine forall₂_congr fun x hx => ?_
  obtain h | h := stepGates_moves x hx <;> simp [h, cmdPos, State.isAt]

/-- Where the road stands past the steps that have ended, in the proofs that end them. -/
theorem State.past_eq (s : State) :
    s.past =
      let down (l : List Gate) := l.all (s.isAt .down)
      let up (l : List Gate) := l.all (s.isAt .up)
      let lowered := if down [.w1, .w3, .w2, .w4, .b1, .b2] then Road.sealed
        else if down [.w1, .w3, .w2, .w4] then .barrierLowering else .exitLowering
      let raised := if !up [.w2, .w4] then (Road.gateRaising, RaisingPhase.exit)
        else if !up [.w1, .w3] then (.gateRaising, .entry) else (.extinguish, .entry)
      match s.rcs.road, s.rcs.phase with
      | .entryLowering, k => (if down [.w1, .w3] then .clearing else .entryLowering, k)
      | .clearing, k => (if down [.w1, .w3] && s.rcs.clearing = .expired then lowered else .clearing, k)
      | .exitLowering, k => (lowered, k)
      | .barrierLowering, k => (if lowered = .sealed then .sealed else .barrierLowering, k)
      | .barrierRaising, k => if up [.b1, .b2] then raised else (.barrierRaising, k)
      | .gateRaising, .exit => raised
      | .gateRaising, .entry => if up [.w1, .w3] then (.extinguish, .entry) else (.gateRaising, .entry)
      | r, k => (r, k) := by
  unfold State.past
  generalize s.rcs.road = road, s.rcs.phase = phase
  cases road <;> cases phase <;> rfl

/-- Past a step that has not ended the road does not go. -/
theorem State.past_of_stays {s : State} (h : s.nextStep = none) : s.past = (s.rcs.road, s.rcs.phase) := by
  rw [State.past_eq]
  simp only [State.nextStep, State.stepDone_eq, State.stepGates] at h
  cases hr : s.rcs.road
  case gateRaising => cases hp : s.rcs.phase <;> simp_all [Machine.stepGates]
  case exitLowering | barrierLowering => simp only [hr, Machine.stepGates] at h ⊢; grind
  all_goals simp_all [Machine.stepGates]

/-- From `s` past a step that has ended to `t`: the road goes as far from there, with fewer steps left. -/
structure PastStep (s t : State) : Prop where
  past : t.past = s.past
  rank : t.rank < s.rank
  free : t.Free

theorem State.nextStep_past {s t : State} (hs : s.Free) (h : s.nextStep = some t) : PastStep s t := by
  have driven : ∀ u : State, u.Free → u.past = s.past → u.rank < s.rank → PastStep s u.driveStep := fun u hu hp hr => by
    have hd := State.driveStep_drives hu.undisplaced
    exact ⟨hd.past.trans hp, hd.rank ▸ hr, hd.free hu⟩
  have onRcs : ∀ f : Rcs → Rcs, (f s.rcs).live = s.rcs.live → (s.onRcs f).Free := fun f hf => ⟨hf.trans hs.live, hs.undisplaced⟩
  have isAt : ∀ (f : Rcs → Rcs) (p : GatePos) (g : Gate), (f s.rcs).gates = s.rcs.gates → (s.onRcs f).isAt p g = s.isAt p g :=
    fun f p g hf => by
      have hg : (s.onRcs f).gate g = s.gate g := by simp only [State.gate, State.onRcs_rcs, hf]
      rw [State.isAt, hg, State.isAt]
  simp only [State.nextStep, State.stepDone_eq, State.stepGates] at h
  cases hr : s.rcs.road <;> simp only [hr] at h
  case entryLowering =>
    split at h <;> cases h
    next hd =>
    have hc : (s.setRoad .clearing).armClearing.rcs.clearing ≠ .expired := by
      simp only [State.armClearing, State.onRcs_rcs]
      split <;> simp
    refine ⟨?_, ?_, hs.live, hs.undisplaced⟩
    · rw [State.past_eq, State.past_eq]
      simp_all [State.armClearing, State.setRoad, Machine.stepGates]
    · simp [State.rank, roadRank, hr, State.armClearing, State.setRoad]
  case clearing =>
    split at h <;> cases h
    next hd =>
    refine driven _ (onRcs _ rfl) ?_ ?_
    · rw [State.past_eq, State.past_eq]
      simp_all [Machine.stepGates]
    · simp [State.rank, roadRank, hr]
  case exitLowering =>
    split at h <;> cases h
    next hd =>
    refine driven _ (onRcs _ rfl) ?_ ?_
    · rw [State.past_eq, State.past_eq]
      simp_all [Machine.stepGates, State.setRoad]
    · simp [State.rank, roadRank, hr, State.setRoad]
  case barrierLowering =>
    split at h <;> cases h
    next hd =>
    have hrcs := (s.setRoad .sealed).dropCommands_rcs
    refine ⟨?_, ?_, (congrArg Rcs.live hrcs).trans hs.live,
      fun f => (State.isDisplaced_of_offRoad (State.dropCommands_offRoad _) f).trans (hs.undisplaced f)⟩
    · rw [State.past_eq, State.past_eq, hrcs]
      simp_all [Machine.stepGates, State.setRoad]
    · rw [State.rank, State.rank, hrcs]
      simp [roadRank, hr, State.setRoad]
  case barrierRaising =>
    split at h <;> cases h
    next hd =>
    refine driven _ (onRcs _ rfl) ?_ ?_
    · rw [State.past_eq, State.past_eq]
      simp_all [Machine.stepGates]
    · simp [State.rank, roadRank, hr]
  case gateRaising =>
    split at h
    · next hd =>
      cases hp : s.rcs.phase <;> simp only [hp] at h <;> cases h
      · refine driven _ (onRcs _ rfl) ?_ ?_
        · rw [State.past_eq, State.past_eq]
          simp_all [Machine.stepGates]
          cases s.isAt .up .w1 <;> cases s.isAt .up .w3 <;> rfl
        · simp [State.rank, roadRank, hr, hp]
      · have hrcs := ((s.setRoad .extinguish).onRcs fun m =>
          { m with extinguish := startTimer (secTicks s.act.textinguish) }).setTraf_rcs .green
        refine ⟨?_, ?_, (congrArg Rcs.live hrcs).trans hs.live,
          fun f => (State.isDisplaced_of_offRoad (State.setTraf_offRoad _ _) f).trans (hs.undisplaced f)⟩
        · rw [State.past_eq, State.past_eq, hrcs]
          simp_all [Machine.stepGates, State.setRoad]
        · rw [State.rank, State.rank, hrcs]
          simp [roadRank, hr, hp, State.setRoad]
    · cases h
  all_goals cases h

/-- The road has gone past every step that has ended, and has stopped only where none has. -/
structure Advanced (s t : State) : Prop where
  past : t.past = s.past
  free : t.Free
  stops : t.nextStep = none
  moves : t = s ∨ t.rank < s.rank

theorem State.nextStep_none_of_rank {s : State} (hs : s.Free) (h : s.rank = 0) : s.nextStep = none := by
  cases hn : s.nextStep with
  | none => rfl
  | some t => exact absurd (State.nextStep_past hs hn).rank (by omega)

theorem State.advanceSteps_advanced (n : Nat) {s : State} (hs : s.Free) (h : s.rank ≤ n) : Advanced s (State.advanceSteps n s) := by
  induction n generalizing s with
  | zero => exact ⟨rfl, hs, State.nextStep_none_of_rank hs (Nat.le_zero.1 h), .inl rfl⟩
  | succ n ih =>
    rw [State.advanceSteps, if_neg (by simp [hs.live])]
    cases hn : s.nextStep with
    | none => exact ⟨rfl, hs, hn, .inl rfl⟩
    | some t =>
      have hstep := State.nextStep_past hs hn
      have hrank := hstep.rank
      obtain ⟨hpast, hfree, hstops, hmoves⟩ := ih hstep.free (by omega)
      refine ⟨hpast.trans hstep.past, hfree, hstops, .inr (lt_of_le_of_lt ?_ hrank)⟩
      obtain e | hlt := hmoves
      · exact (congrArg State.rank e).le
      · exact hlt.le

theorem State.rank_le (s : State) : s.rank ≤ 6 := by
  unfold State.rank
  cases s.rcs.road <;> cases s.rcs.phase <;> decide

theorem State.advance_advanced {s : State} (hs : s.Free) : Advanced s s.advance := State.advanceSteps_advanced 6 hs s.rank_le

/-- Where the motors may run, the road goes past every step that has ended (R94, R97, R99, R104). -/
theorem Advanced.road {s t : State} (h : Advanced s t) : (t.rcs.road, t.rcs.phase) = s.past :=
  (State.past_of_stays h.stops).symm.trans h.past

/-- Where the road has not moved, nothing has. -/
theorem Advanced.stays {s t : State} (h : Advanced s t) (hr : (t.rcs.road, t.rcs.phase) = (s.rcs.road, s.rcs.phase)) : t = s := by
  have hrank : t.rank = s.rank := congrArg (fun x : Road × RaisingPhase => roadRank x.1 x.2) hr
  obtain e | hlt := h.moves
  · exact e
  · omega

end Sys2Proof.Machine
end

section
/-! SUPPORT. The restart of an interrupted step, and the causes of suspension (R101 to R104). -/

namespace Sys2Proof.Machine

/-! ### A step in which nothing stands in the way of a gate -/

/-- No gate is obstructed, and every zone is clear. -/
structure State.Calm (s : State) : Prop where
  clear : ∀ g, (s.gate g).obstructed = false
  zones : ∀ g, s.zoneClear g = true

theorem State.zoneClear_of_iq {s t : State} (h : t.iq = s.iq) (g : Gate) : t.zoneClear g = s.zoneClear g := by
  cases g <;> simp [State.zoneClear, State.line, h]

theorem State.Calm.of_gates {s t : State} (h : s.Calm) (hg : ∀ g, (t.gate g).obstructed = (s.gate g).obstructed)
    (hi : t.stores = s.stores) : t.Calm :=
  ⟨fun g => (hg g).trans (h.clear g), fun g => (State.zoneClear_of_iq (State.stores_iq hi) g).trans (h.zones g)⟩

/-- A gate asked for under a clear zone, with no obstruction, goes where it is asked. -/
theorem GateRec.driven_calm {r : GateRec} (h : r.obstructed = false) (live : Bool) (time : Ticks) (c : GateCmd) :
    r.driven live time true c = r.moved live time c := by
  have ht : r.target true c = c := by simp [GateRec.target, h]
  have hf : r.flagged true c = r := by
    rw [GateRec.flagged, ht, if_neg]
    cases c <;> simp
  rw [GateRec.driven, hf, ht]

/-- The record and the lines of a gate that a step keeps under drive. -/
theorem GateRec.moved_stepDriven {r : GateRec} {time : Ticks} {c : GateCmd} :
    if cmdPos c = some r.pos then
      (r.moved true time c).cmd = .none ∧ (r.moved true time c).travel = none ∧
        (r.moved true time c).lines true = (false, false)
    else
      (r.moved true time c).cmd = c ∧ (r.moved true time c).travel = some time ∧
        (r.moved true time c).lines true = (decide (c = .down), decide (c = .up)) := by
  split
  · next h => simp [GateRec.moved, GateRec.lines, h.symm]
  · next h => simp [GateRec.moved, GateRec.lines, Ne.symm h]

/-- The step's drives, with nothing in the way (R90). -/
theorem Drives.settles {s t : State} (h : Drives s.drivenTo s.stepGates s t) (hf : s.Free) (hc : s.Calm) : t.Calm ∧ t.stepDriven := by
  have hrec : ∀ g c, (g, c) ∈ s.stepGates →
      t.gate g = (s.gate g).moved true s.travelTicks c ∧
        t.gateLines g = ((s.gate g).moved true s.travelTicks c).lines true := fun g c hmem => by
    have hat := h.asked g c hmem
    simp only [State.drivenTo, hc.zones, GateRec.driven_calm (hc.clear g), hf.live] at hat
    exact ⟨congrArg (·.1) hat, congrArg (·.2) hat⟩
  refine ⟨⟨fun g => ?_, fun g => (State.offGates_zoneClear h.rest g).trans (hc.zones g)⟩, fun g c hmem => ?_⟩
  · by_cases hg : g ∈ s.stepGates.map Prod.fst
    · obtain ⟨⟨g, c⟩, hmem, rfl⟩ := List.mem_map.1 hg
      rw [(hrec g c hmem).1, GateRec.moved_obstructed]
      exact hc.clear g
    · rw [show t.gate g = s.gate g from congrArg (·.1) (h.other g hg)]
      exact hc.clear g
  · rw [h.body] at hmem
    obtain ⟨hgate, hlines⟩ := hrec g c hmem
    have hact : t.act = s.act := State.offGates_act h.rest
    have hmoved := GateRec.moved_stepDriven (r := s.gate g) (time := s.travelTicks) (c := c)
    rw [← hlines, ← hgate] at hmoved
    rw [show (t.gate g).pos = (s.gate g).pos by rw [hgate, GateRec.moved_pos], hact]
    split at hmoved
    · next hp =>
      obtain ⟨hcmd, htravel, hl⟩ := hmoved
      rw [if_pos hp]
      exact ⟨hcmd, htravel, congrArg (·.1) hl, congrArg (·.2) hl⟩
    · next hp =>
      obtain ⟨hcmd, htravel, hl⟩ := hmoved
      rw [if_neg hp]
      exact ⟨hcmd, htravel, congrArg (·.1) hl, congrArg (·.2) hl⟩

/-- The motors may run, nothing stands in the way, and the step's gates are driven. -/
structure State.Settled (s : State) : Prop where
  free : s.Free
  calm : s.Calm
  driven : s.stepDriven

theorem State.driveStep_settled {s : State} (hf : s.Free) (hc : s.Calm) : s.driveStep.Settled := by
  have hd := State.driveStep_drives hf.undisplaced
  obtain ⟨hcalm, hdriven⟩ := hd.settles hf hc
  exact ⟨hd.free hf, hcalm, hdriven⟩

/-- Past a step that has ended the next one's gates are driven. -/
theorem State.Settled.nextStep {s t : State} (h : s.Settled) (hn : s.nextStep = some t) : t.Settled := by
  have hfree := (State.nextStep_past h.free hn).free
  have hstores := State.nextStep_stores s t hn
  have driven : ∀ f : Rcs → Rcs, (f s.rcs).live = s.rcs.live → (f s.rcs).gates = s.rcs.gates → (s.onRcs f).driveStep.Settled :=
    fun f hl hg => State.driveStep_settled ⟨hl.trans h.free.live, h.free.undisplaced⟩
      (h.calm.of_gates (fun g => by simp only [State.gate, State.onRcs_rcs, hg]) rfl)
  have ended : t.stepGates = [] → (∀ g, (t.gate g).obstructed = (s.gate g).obstructed) → t.Settled := fun he hg =>
    ⟨hfree, h.calm.of_gates hg hstores, fun g c hmem => by
      rw [show Machine.stepGates t.rcs.road t.rcs.phase = [] from he] at hmem
      cases hmem⟩
  simp only [State.nextStep] at hn
  cases hr : s.rcs.road <;> simp only [hr] at hn
  case entryLowering =>
    split at hn <;> cases hn
    refine ⟨hfree, h.calm.of_gates (fun _ => rfl) rfl, fun g c hmem => h.driven g c ?_⟩
    rw [hr]
    exact hmem
  case clearing =>
    split at hn <;> cases hn
    exact driven _ rfl rfl
  case exitLowering =>
    split at hn <;> cases hn
    exact driven _ rfl rfl
  case barrierLowering =>
    split at hn <;> cases hn
    have hrcs := (s.setRoad .sealed).dropCommands_rcs
    refine ended ?_ fun g => ?_
    · rw [State.stepGates, hrcs]
      rfl
    · simp [State.gate, State.setRoad]
  case barrierRaising =>
    split at hn <;> cases hn
    exact driven _ rfl rfl
  case gateRaising =>
    split at hn
    · cases hp : s.rcs.phase <;> simp only [hp] at hn <;> cases hn
      · exact driven _ rfl rfl
      · refine ended ?_ fun g => ?_
        · rw [State.stepGates, State.setTraf_rcs]
          rfl
        · simp [State.gate, State.setRoad]
    · cases hn
  all_goals cases hn

theorem State.Settled.advance {s : State} (h : s.Settled) : s.advance.Settled :=
  State.advance_keeps_of (P := State.Settled) (fun _ _ hu _ hn => hu.nextStep hn) h

/-! ### The timers of PREWARN (R86, R93) -/

/-- The prewarn timer and the amber timer. -/
def State.closureTimers (s : State) : Option Ticks × Option Ticks := (s.rcs.prewarn, s.rcs.amber)

@[simp] theorem State.driveStep_closureTimers (s : State) : s.driveStep.closureTimers = s.closureTimers := by
  rw [State.closureTimers, State.roadBody_prewarn s.driveStep_roadBody, State.roadBody_amber s.driveStep_roadBody]
  rfl

@[simp] theorem State.advance_closureTimers (s : State) : s.advance.closureTimers = s.closureTimers := by
  refine State.advance_keeps_of (P := fun u => u.closureTimers = s.closureTimers) (fun u t hu _ hn => Eq.trans ?_ hu) rfl
  simp only [State.nextStep] at hn
  cases hr : u.rcs.road <;> simp only [hr] at hn
  case gateRaising =>
    split at hn
    · cases hp : u.rcs.phase <;> simp only [hp] at hn <;> cases hn
      · rw [State.driveStep_closureTimers]; rfl
      · rw [State.closureTimers, State.setTraf_rcs]; rfl
    · cases hn
  case barrierLowering =>
    split at hn <;> cases hn
    rw [State.closureTimers, State.dropCommands_rcs]; rfl
  case entryLowering =>
    split at hn <;> cases hn
    rfl
  case clearing | exitLowering | barrierRaising =>
    split at hn <;> cases hn
    rw [State.driveStep_closureTimers]; rfl
  all_goals cases hn

/-! ### The restart (R101, R104) -/

/-- The closure waits at the end of PREWARN for heads that are not impaired any more (R93). -/
def State.closureGoes (s : State) : Prop := s.rcs.road = .prewarn ∧ s.rcs.waitingHeads = true ∧ s.roadHeadImpaired = false

/-- The state in which the closure that has waited goes on. -/
def State.closureGone (s : State) : State :=
  (s.onRcs fun m => { m with road := .entryLowering, waitingHeads := false }).setTraf .red

theorem State.enterEntryLowering_eq (s : State) : s.enterEntryLowering = s.closureGone.driveStep.advance := rfl

theorem State.closureGone_rcs (s : State) :
    s.closureGone.rcs = { s.rcs with road := .entryLowering, waitingHeads := false, trafAspect := .red } :=
  State.setTraf_rcs _ _

theorem State.closureGone_stores (s : State) : s.closureGone.stores = s.stores := State.setTraf_stores _ _

theorem State.closureGone_free {s : State} (h : s.Free) : s.closureGone.Free :=
  ⟨(congrArg Rcs.live s.closureGone_rcs).trans h.live,
    fun f => (State.isDisplaced_of_offRoad (State.setTraf_offRoad _ _) f).trans (h.undisplaced f)⟩

theorem State.driveStep_of_idle {s : State} (h : s.stepGates = []) : s.driveStep = s := by
  rw [State.driveStep, h]
  rfl

/-- The state from which a restart takes the road past the steps that have ended: the closure that has waited goes on where it may
(R93, R104). -/
theorem State.restartStep_eq {s : State} (h : s.Free) :
    (s.closureGoes → s.restartStep = s.closureGone.driveStep.advance) ∧
      (¬ s.closureGoes → s.restartStep = s.driveStep.advance) := by
  have hrestart : s.restartStep = s.driveStep.headsChecked.advance := if_pos h.live
  have hsuspended : s.rcs.suspended = false := by
    have hl := h.live
    simp only [Rcs.live, Bool.and_eq_true, Bool.not_eq_true'] at hl
    exact hl.1
  refine ⟨fun hg => ?_, fun hg => ?_⟩
  · obtain ⟨hroad, hwait, himpaired⟩ := hg
    have hidle : s.driveStep = s := State.driveStep_of_idle (by rw [State.stepGates, hroad]; rfl)
    have hheads : s.headsChecked = s.closureGone.driveStep.advance :=
      if_pos (by simp [hroad, hwait, himpaired, hsuspended])
    have hfree := (State.driveStep_drives (State.closureGone_free h).undisplaced).free (State.closureGone_free h)
    rw [hrestart, hidle, hheads]
    exact State.advance_stays fun _ => (State.advance_advanced hfree).stops
  · have hd := (State.driveStep_drives h.undisplaced).rest
    have hrcs := State.offGates_rcs hd
    have hheads : s.driveStep.headsChecked = s.driveStep := if_neg fun hc => hg ?_
    · rw [hrestart, hheads]
    · have himpaired : s.driveStep.roadHeadImpaired = s.roadHeadImpaired := (congrArg State.roadHeadImpaired hd :)
      have hwaiting : s.driveStep.rcs.waitingHeads = s.rcs.waitingHeads := by rw [hrcs]
      simp only [himpaired, hwaiting, State.roadBody_road s.driveStep_roadBody, Bool.and_eq_true, decide_eq_true_eq,
        Bool.not_eq_true'] at hc
      obtain ⟨⟨⟨hwait, hroad⟩, hi⟩, -⟩ := hc
      exact ⟨hroad, hwait, hi⟩

theorem State.restartStep_free {s : State} (h : s.Free) : s.restartStep.Free := by
  obtain ⟨hgoes, hstays⟩ := State.restartStep_eq h
  have drive : ∀ u : State, u.Free → u.driveStep.advance.Free := fun u hu =>
    (State.advance_advanced ((State.driveStep_drives hu.undisplaced).free hu)).free
  by_cases hg : s.closureGoes
  · rw [hgoes hg]
    exact drive _ (State.closureGone_free h)
  · rw [hstays hg]
    exact drive _ h

/-- The drives of a step and the road past it, in a state that has the proofs and the timers of `s`. -/
theorem State.driveStep_restarts {s u : State} (hf : u.Free) (hc : u.Calm) (ht : u.closureTimers = s.closureTimers)
    (hp : ∀ g, (u.gate g).pos = (s.gate g).pos) :
    (u.driveStep.advance.rcs.road, u.driveStep.advance.rcs.phase) = u.past ∧
      (∀ g, (u.driveStep.advance.gate g).pos = (s.gate g).pos) ∧ u.driveStep.advance.stepDriven ∧
      u.driveStep.advance.rcs.prewarn = s.rcs.prewarn ∧ u.driveStep.advance.rcs.amber = s.rcs.amber := by
  have hd := State.driveStep_drives hf.undisplaced
  have htimers : u.driveStep.advance.closureTimers = s.closureTimers := by simpa using ht
  have hposes : u.driveStep.advance.poses = u.poses := State.poses_of_offRoad (by simp)
  exact ⟨(State.advance_advanced (hd.free hf)).road.trans hd.past, fun g => (congrFun hposes g).trans (hp g),
    (State.driveStep_settled hf hc).advance.driven, congrArg (·.1) htimers, congrArg (·.2) htimers⟩

/-- A restart with no displaced function and nothing in the way of a gate (R101, R104). -/
theorem State.restartStep_restarts {s : State} (h : s.Free) (hc : s.Calm) : StepRestarted s s.restartStep := by
  have hobs : (fun g => (s.gate g).obstructed) = fun _ => false := funext hc.clear
  obtain ⟨hgoes, hstays⟩ := State.restartStep_eq h
  unfold StepRestarted
  by_cases hg : s.closureGoes
  · have hrcs := s.closureGone_rcs
    have hgate : ∀ g, s.closureGone.gate g = s.gate g := fun g => by rw [State.gate, hrcs]; rfl
    have hpast : s.closureGone.past =
        roadPast (fun g => (s.gate g).pos) (fun _ => false) (s.rcs.clearing = .expired) .entryLowering s.rcs.phase := by
      simp only [State.past, hgate, hrcs, hobs]
    obtain ⟨hroad, hrest⟩ := State.driveStep_restarts (s := s) (State.closureGone_free h)
      (hc.of_gates (fun g => by rw [hgate]) s.closureGone_stores) (by rw [State.closureTimers, hrcs]; rfl) fun g => by rw [hgate]
    rw [hgoes hg]
    exact ⟨(hroad.trans hpast).trans (congrArg (roadPast _ _ _ · _) (if_pos hg).symm), hrest⟩
  · have hpast : s.past = roadPast (fun g => (s.gate g).pos) (fun _ => false) (s.rcs.clearing = .expired) s.rcs.road s.rcs.phase := by
      simp only [State.past, hobs]
    obtain ⟨hroad, hrest⟩ := State.driveStep_restarts (s := s) h hc rfl fun _ => rfl
    rw [hstays hg]
    exact ⟨(hroad.trans hpast).trans (congrArg (roadPast _ _ _ · _) (if_neg hg).symm), hrest⟩

/-! ### The causes (R102, R104) -/

/-- A restart does not read the causes. -/
theorem StepRestarted.of_causes {s s' t : State} {x y z : Bool} (h : StepRestarted s' t) (hg : ∀ g, s'.gate g = s.gate g)
    (hr : s'.rcs = { s.rcs with causeGate := x, causeLoop := y, causeSupply := z }) (hp : s'.pg = s.pg) : StepRestarted s t := by
  simpa only [StepRestarted, hg, hr, hp] using h

/-- A change of the causes of suspension, with the restart after the last one. -/
theorem State.changeCauses_leaves {s : State} {f : Rcs → Rcs} {r : Rcs} (hr : f s.rcs = r)
    (hb : r = { s.rcs with causeGate := r.causeGate, causeLoop := r.causeLoop, causeSupply := r.causeSupply })
    (hcause : s.rcs.suspended = true ∨ r.suspended = false) : CauseLeaves s (s.changeCauses f) r := by
  have hset : s.setCauses f = s.onRcs f := by
    refine if_neg ?_
    rw [State.onRcs_rcs, hr]
    obtain h | h := hcause <;> simp [h]
  have hrcs : (s.onRcs f).rcs = r := hr
  have hchange : s.changeCauses f = if s.rcs.suspended && !r.suspended then (s.onRcs f).restartStep else s.onRcs f := by
    simp only [State.changeCauses, hset, hrcs]
  refine ⟨fun he => ?_, fun hs hn => ⟨fun hh => ?_, fun hh hd => ?_⟩⟩
  · rw [hchange, if_neg (by simp [he])]
    exact hrcs
  · rw [hchange, if_pos (by simp [hs, hn]), State.restartStep, if_neg (by rw [hrcs]; simp [Rcs.live, hh])]
    exact hrcs
  · have hfree : (s.onRcs f).Free := ⟨by rw [hrcs]; simp [Rcs.live, hn, hh], hd⟩
    have hlive := (State.restartStep_free hfree).live
    rw [hchange, if_pos (by simp [hs, hn])]
    simp only [Rcs.live, Bool.and_eq_true, Bool.not_eq_true'] at hlive
    refine ⟨hlive.1, hlive.2, fun hcalm => ?_⟩
    have hgate : ∀ g, (s.onRcs f).gate g = s.gate g := fun g => by
      rw [State.gate, hrcs, show r.gates = s.rcs.gates by rw [hb]]
      rfl
    exact (State.restartStep_restarts hfree ⟨fun g => by rw [hgate]; exact (hcalm g).1, fun g => (hcalm g).2⟩).of_causes hgate
      (hrcs.trans hb) rfl

end Sys2Proof.Machine
end

section
/-! The timers of the road's steps, the deck loops and the interlock loop (R86, R93, R94, R99, R102 to R105). -/

namespace Sys2Proof.Machine

/-! ### A trip leaves the gates' lines (R75) -/

theorem State.setCmd_gateLines (s : State) {f : Fin 40} (b : Bool) (hf : f.val < 12 ∨ 24 ≤ f.val) :
    (s.setCmd f b).gateLines = s.gateLines := (congrArg (·.2.2) (s.setCmd_lawView b hf) :)

theorem State.releaseDirection_gateLines (s : State) (t : Tower) : (s.releaseDirection t).gateLines = s.gateLines := by
  have h : ((s.setCmd (towerFn t 0) false).setCmd (towerFn t 1) false).gateLines = s.gateLines := by
    cases t <;> exact (State.setCmd_gateLines _ _ (by decide)).trans (State.setCmd_gateLines _ _ (by decide))
  unfold State.releaseDirection
  split
  · exact h
  · split
    · exact h
    · rfl

theorem State.tripBase_gateLines (s : State) : s.tripBase.gateLines = s.gateLines := by
  have hoff : ∀ u : State, (smcCommands.foldl (fun s f => s.setCmd f false) u).gateLines = u.gateLines := fun u => by
    simp (disch := decide) only [smcCommands, List.foldl_cons, List.foldl_nil, State.setCmd_gateLines]
  have hstill : ((s.releaseDirection .a).releaseDirection .b).zeroSpeed.gateLines = s.gateLines :=
    (State.releaseDirection_gateLines _ .b).trans (s.releaseDirection_gateLines .a)
  have honSmc : ∀ (u : State) (f : Smc → Smc), (u.onSmc f).gateLines = u.gateLines := fun _ _ => rfl
  rw [State.tripBase, honSmc, hoff, hstill]

theorem State.trip_gateLines (s : State) : s.trip.gateLines = s.gateLines := by
  by_cases h : s.smc.motion = .tripped
  · rw [State.trip, if_pos h]
  · rw [State.trip_eq h, show ∀ u : State, u.compare.gateLines = u.gateLines from
      fun u => congrArg (·.2.2) u.compare_looks.lawView]
    split
    · rw [show ∀ u : State, u.holdingLeft.gateLines = u.gateLines from
        fun u => congrArg (·.2.2) (State.lawView_of_offChannel u.holdingLeft_offChannel)]
      exact s.tripBase_gateLines
    · exact s.tripBase_gateLines

theorem State.reportEstop_gateLines (s : State) : s.reportEstop.gateLines = s.gateLines := by
  have hreport : (s.reported 0 s.isEstop).gateLines = s.gateLines := by
    unfold State.reported
    split
    · exact (congrArg (·.2.2) (s.reportFault_lawView 0 _) :)
    · rfl
  unfold State.reportEstop
  split
  · rw [State.tripReport_eq (by decide)]
    split
    · exact (State.trip_gateLines _).trans hreport
    · exact hreport
  · rfl

/-! ### The interlock loop (R102 to R104) -/

/-- What a restart leaves is read of RCS, of the gates' lines and of the configuration. -/
theorem StepRestarted.congr {s s' t t' : State} (h : StepRestarted s t) (hr : s'.rcs = s.rcs) (hp : s'.pg = s.pg)
    (htr : t'.rcs = t.rcs) (htl : t'.gateLines = t.gateLines) (hta : t'.act = t.act) : StepRestarted s' t' := by
  have hsg : s'.gate = s.gate := funext fun g => by rw [State.gate, State.gate, hr]
  have htg : t'.gate = t.gate := funext fun g => by rw [State.gate, State.gate, htr]
  have hdown : ∀ g, t'.cmd (gateDownFn g) = t.cmd (gateDownFn g) := fun g => congrArg (·.1) (congrFun htl g)
  have hup : ∀ g, t'.cmd (gateUpFn g) = t.cmd (gateUpFn g) := fun g => congrArg (·.2) (congrFun htl g)
  have hdriven : t'.stepDriven ↔ t.stepDriven := by
    unfold State.stepDriven
    rw [htr, htg, hta]
    refine forall₃_congr fun g c _ => ?_
    rw [hdown, hup]
  unfold StepRestarted at h ⊢
  rw [hr, hp, htr, hsg, htg, hdriven]
  exact h

theorem CauseLeaves.congr {s s' t t' : State} {r : Rcs} (h : CauseLeaves s t r) (hr : s'.rcs = s.rcs) (hp : s'.pg = s.pg)
    (hd : ∀ f, s'.isDisplaced f = s.isDisplaced f) (hz : ∀ g, s'.zoneClear g = s.zoneClear g) (htr : t'.rcs = t.rcs)
    (htl : t'.gateLines = t.gateLines) (hta : t'.act = t.act) : CauseLeaves s' t' r := by
  unfold CauseLeaves at h ⊢
  simp only [State.gate, hr, hd, hz, htr] at h ⊢
  refine ⟨h.1, fun hs hn => ⟨(h.2 hs hn).1, fun hh hdis => ?_⟩⟩
  obtain ⟨hsus, hhold, hrest⟩ := (h.2 hs hn).2 hh hdis
  exact ⟨hsus, hhold, fun hcalm => (hrest hcalm).congr hr hp htr htl hta⟩

/-- The first cause of suspension: every travel timer stops, and every gate function goes off (R102, R103). -/
theorem State.setCauses_suspends {s : State} {f : Rcs → Rcs} (hs : s.rcs.suspended = false) (hf : (f s.rcs).suspended = true) :
    (s.setCauses f).rcs = { f s.rcs with gates := (f s.rcs).gates.mapAll fun r => { r with travel := none } } ∧
      (s.setCauses f).gateLines = fun _ => (false, false) := by
  have hset : s.setCauses f = (s.onRcs f).stopTravel.issueGates := if_pos (by simp [hs, hf])
  have hrcs : (s.onRcs f).stopTravel.rcs = { f s.rcs with gates := (f s.rcs).gates.mapAll fun r => { r with travel := none } } := rfl
  have hlive : (s.onRcs f).stopTravel.rcs.live = false := by
    rw [hrcs]
    exact congrArg (fun b => !b && !(f s.rcs).holding) hf
  rw [hset, State.issueGates_rcs, State.issueGates_gateLines]
  exact ⟨hrcs, funext fun g => by simp [State.issuedLines, hlive]⟩

theorem State.setCauses_stays {s : State} {f : Rcs → Rcs} (hs : s.rcs.suspended = true) : s.setCauses f = s.onRcs f :=
  if_neg (by simp [hs])

/-- The interlock loop's opening (R102, R103). -/
theorem State.causeLoop_enters (s : State) :
    let t := s.changeCauses fun m => { m with causeLoop := true }
    t.rcs = { s.rcs with causeLoop := true, gates := t.rcs.gates } ∧
      ∀ g, t.gate g = (if s.rcs.suspended = true then s.gate g else { s.gate g with travel := none }) ∧
        (s.rcs.suspended = false → t.gateLines g = (false, false)) := by
  intro t
  have ht : t = s.setCauses fun m => { m with causeLoop := true } := s.changeCauses_loop_open
  cases hs : s.rcs.suspended with
  | true =>
    rw [ht, State.setCauses_stays hs]
    exact ⟨rfl, fun g => ⟨rfl, fun h => by cases h⟩⟩
  | false =>
    obtain ⟨hrcs, hlines⟩ := State.setCauses_suspends (s := s) (f := fun m => { m with causeLoop := true }) hs
      (by simp [Rcs.suspended])
    rw [ht, hlines, hrcs]
    refine ⟨rfl, fun g => ⟨?_, fun _ => rfl⟩⟩
    rw [State.gate, hrcs]
    simp [State.gate]

/-- The loop's event, taken by the other blocks with no change to RCS and its lines. -/
theorem State.loop_taken {u w : State} {level : Bool} (h : Qualified u 0 level w) :
    w.deliverLine 0 = (w.changeCauses fun m => { m with causeLoop := !level }).reportEstop := by
  rw [← h.line]
  rfl

theorem Qualified.isDisplaced {u w : State} {l : Fin 48} {b : Bool} (h : Qualified u l b w) (f : Fin 40) :
    w.isDisplaced f = u.isDisplaced f := by
  have hd : w.om.displaced = u.om.displaced := by rw [h.looks.rest]
  simp only [State.isDisplaced, hd]

theorem Qualified.gate {u w : State} {l : Fin 48} {b : Bool} (h : Qualified u l b w) (g : Gate) : w.gate g = u.gate g := by
  rw [State.gate, State.gate, h.rcs]

/-- The zones' lines are 27 to 30. -/
theorem Qualified.zoneClear {u w : State} {l : Fin 48} {b : Bool} (h : Qualified u l b w) (hl : l.val < 27 ∨ 30 < l.val) (g : Gate) :
    w.zoneClear g = u.zoneClear g := by
  cases g <;> simp only [State.zoneClear] <;> exact h.other _ (by rintro rfl; simp at hl)

/-- Line 0 at a sampling instant (R102 to R104). -/
theorem State.loop_qualifies {u w : State} {level : Bool} (h : Qualified u 0 level w) :
    (w.deliverLine 0).rcs.causeLoop = (!level) ∧
      (level = false →
        (w.deliverLine 0).rcs = { u.rcs with causeLoop := true, gates := (w.deliverLine 0).rcs.gates } ∧
        ∀ g, (w.deliverLine 0).gate g =
            (if u.rcs.suspended = true then u.gate g else { u.gate g with travel := none }) ∧
          (u.rcs.suspended = false → (w.deliverLine 0).gateLines g = (false, false))) ∧
      (level = true → CauseLeaves u (w.deliverLine 0) { u.rcs with causeLoop := false }) := by
  have hrcs : (w.deliverLine 0).rcs = (w.changeCauses fun m => { m with causeLoop := !level }).rcs := by
    rw [State.loop_taken h]
    exact State.rcs_of_offSpan (State.reportEstop_offSpan _)
  have hlines : (w.deliverLine 0).gateLines = (w.changeCauses fun m => { m with causeLoop := !level }).gateLines := by
    rw [State.loop_taken h, State.reportEstop_gateLines]
  have hact : (w.deliverLine 0).act = (w.changeCauses fun m => { m with causeLoop := !level }).act := by
    rw [State.loop_taken h]
    exact congrArg (·.active) (State.stores_cs (State.reportEstop_stores _))
  have hloop : (w.changeCauses fun m => { m with causeLoop := !level }).rcs.causeLoop = !level :=
    (congrArg (·.2.2.1) (w.changeCauses_offRoad fun m => { m with causeLoop := !level }) :)
  refine ⟨by rw [hrcs, hloop], ?_, ?_⟩
  · rintro rfl
    obtain ⟨hr, hg⟩ := w.causeLoop_enters
    have hgate : ∀ (v : State) (g : Gate), v.rcs = (w.deliverLine 0).rcs → (w.deliverLine 0).gate g = v.gate g := fun v g hv => by
      rw [State.gate, State.gate, hv]
    rw [h.rcs] at hr hg
    refine ⟨by rw [hrcs]; exact hr, fun g => ?_⟩
    obtain ⟨hgg, hgl⟩ := hg g
    rw [hgate _ g hrcs.symm, hlines]
    refine ⟨hgg.trans ?_, hgl⟩
    rw [State.gate, State.gate, h.rcs]
  · rintro rfl
    have hcause : w.rcs.suspended = true ∨ ({ w.rcs with causeLoop := false } : Rcs).suspended = false := by
      cases hs : w.rcs.suspended with
      | true => exact .inl rfl
      | false =>
        simp only [Rcs.suspended, Bool.or_eq_false_iff] at hs
        exact .inr (by simp [Rcs.suspended, hs.1.1, hs.2])
    have hleaves := State.changeCauses_leaves (s := w) (f := fun m => { m with causeLoop := false }) rfl rfl hcause
    rw [h.rcs] at hleaves
    exact hleaves.congr h.rcs.symm h.pg.symm (fun f => (h.isDisplaced f).symm) (fun g => (h.zoneClear (by decide) g).symm)
      hrcs hlines hact

/-! ### The timers (R86, R93, R94, R99) -/

/-- The state in which the prewarn timer has run out. -/
def State.prewarned (s : State) : State := s.onRcs fun m => { m with prewarn := none }

theorem State.prewarnExpiry_eq {s : State} (hs : s.rcs.suspended = false) (hr : s.rcs.road = .prewarn)
    (hp : s.rcs.prewarn.isSome = true) :
    s.prewarnExpiry =
      if s.roadHeadImpaired then s.prewarned.onRcs fun m => { m with waitingHeads := true } else s.prewarned.enterEntryLowering := by
  unfold State.prewarnExpiry
  rw [if_neg (by simp [hs, hr, Option.isSome_iff_ne_none.1 hp])]
  rfl

/-- The entry gates are lowered, with the traffic heads RED (R93). -/
theorem State.enterEntryLowering_road (s : State) :
    (s.enterEntryLowering.rcs.road = .entryLowering ∨ s.enterEntryLowering.rcs.road = .clearing) ∧
      s.enterEntryLowering.rcs.prewarn = s.rcs.prewarn ∧ s.enterEntryLowering.rcs.trafAspect = .red := by
  have hbody := s.closureGone.driveStep_roadBody
  have hrcs := s.closureGone_rcs
  have hroad : s.closureGone.driveStep.rcs.road = .entryLowering := by rw [State.roadBody_road hbody, hrcs]
  have hprewarn : s.closureGone.driveStep.rcs.prewarn = s.rcs.prewarn := by rw [State.roadBody_prewarn hbody, hrcs]
  have htraf : s.closureGone.driveStep.rcs.trafAspect = .red := by rw [State.roadBody_trafAspect hbody, hrcs]
  rw [State.enterEntryLowering_eq]
  obtain h | h := State.advance_entryLowering hroad <;> rw [h]
  · exact ⟨.inl hroad, hprewarn, htraf⟩
  · exact ⟨.inr rfl, hprewarn, htraf⟩

/-- An entry gate that is not down-proven is driven DOWN at the closure of the entry (R90, R93). -/
theorem State.enterEntryLowering_drives {s : State} (hl : s.rcs.live = true) (hd1 : s.isDisplaced (gateDownFn .w1) = false)
    (hd3 : s.isDisplaced (gateDownFn .w3) = false) (hz1 : s.zoneClear .w1 = true) (hz3 : s.zoneClear .w3 = true)
    (ho1 : (s.gate .w1).obstructed = false) (ho3 : (s.gate .w3).obstructed = false) {g : Gate} (hg : g = .w1 ∨ g = .w3)
    (hp : (s.gate g).pos ≠ .down) :
    (s.enterEntryLowering.gate g).cmd = .down ∧ s.enterEntryLowering.cmd (gateDownFn g) = true ∧
      (s.enterEntryLowering.gate g).travel = some s.travelTicks := by
  have hrcs := s.closureGone_rcs
  have hgate : ∀ x, s.closureGone.gate x = s.gate x := fun x => by rw [State.gate, hrcs]; rfl
  have hzone : ∀ x, s.closureGone.zoneClear x = s.zoneClear x := State.zoneClear_of_iq (State.stores_iq s.closureGone_stores)
  have hdisplaced : ∀ f, s.closureGone.isDisplaced f = s.isDisplaced f := State.isDisplaced_of_offRoad (State.setTraf_offRoad _ _)
  have hact : s.closureGone.act = s.act := congrArg (·.active) (State.stores_cs s.closureGone_stores)
  have hlive : s.closureGone.rcs.live = true := (congrArg Rcs.live hrcs).trans hl
  have hsteps : s.closureGone.stepGates = [(.w1, .down), (.w3, .down)] := by
    rw [State.stepGates, hrcs]
    rfl
  have hentry : ∀ x, x = .w1 ∨ x = .w3 →
      s.isDisplaced (gateDownFn x) = false ∧ s.zoneClear x = true ∧ (s.gate x).obstructed = false := by
    rintro x (rfl | rfl)
    · exact ⟨hd1, hz1, ho1⟩
    · exact ⟨hd3, hz3, ho3⟩
  have hmem : ∀ x, x ∈ s.closureGone.stepGates → (x.1 = .w1 ∨ x.1 = .w3) ∧ x.2 = .down := fun x hx => by
    rw [hsteps] at hx
    simp only [List.mem_cons, List.not_mem_nil, or_false] at hx
    obtain rfl | rfl := hx <;> simp
  have hdrive : Drives s.closureGone.drivenTo s.closureGone.stepGates s.closureGone s.closureGone.driveStep := by
    refine State.driveGates_drives (stepGates_nodup _ _) fun x hx _ _ => ?_
    obtain ⟨hx1, hx2⟩ := hmem x hx
    obtain ⟨hd, hz, ho⟩ := hentry x.1 hx1
    have htarget : s.closureGone.driveTarget x.1 x.2 = .down := by
      rw [State.driveTarget_eq, hgate, hzone, hz, hx2]
      simp [GateRec.target, ho]
    rw [htarget, hdisplaced]
    exact hd
  have hin : (g, GateCmd.down) ∈ s.closureGone.stepGates := by
    rw [hsteps]
    obtain rfl | rfl := hg <;> simp
  have hstays : s.enterEntryLowering = s.closureGone.driveStep := by
    rw [State.enterEntryLowering_eq]
    refine State.advance_of_off (g := g) (c := .down) ?_ ?_
    · rw [State.stepGates, State.roadBody_road (State.driveStep_roadBody _), State.roadBody_phase (State.driveStep_roadBody _)]
      exact hin
    · rw [(hdrive.proofs g).1, hgate]
      simpa [cmdPos] using hp
  obtain ⟨-, hz, ho⟩ := hentry g hg
  have hat := hdrive.asked g .down hin
  simp only [State.drivenTo, hgate, hzone, hz, GateRec.driven_calm ho, hlive] at hat
  have hmoved : (s.gate g).moved true s.closureGone.travelTicks .down = { s.gate g with cmd := .down, travel := some s.travelTicks } := by
    rw [GateRec.moved, if_neg (by simpa [cmdPos] using hp), State.travelTicks, hact]
    rfl
  rw [hmoved] at hat
  rw [hstays]
  exact ⟨congrArg (·.1.cmd) hat, congrArg (·.2.1) hat, congrArg (·.1.travel) hat⟩

/-- The amber timer's expiry in PREWARN (R86). -/
theorem State.amberExpiry_eq {s : State} (hs : s.rcs.suspended = false) (hr : s.rcs.road = .prewarn) (ha : s.rcs.amber.isSome = true) :
    s.amberExpiry = (s.onRcs fun m => { m with amber := none }).setTraf .red := by
  unfold State.amberExpiry
  rw [if_neg (by simp [hs, Option.isSome_iff_ne_none.1 ha])]
  exact if_pos hr

/-- The extinguish timer's expiry in EXTINGUISH (R99, R105). -/
theorem State.extinguishExpiry_eq {s : State} (hs : s.rcs.suspended = false) (hr : s.rcs.road = .extinguish)
    (he : s.rcs.extinguish.isSome = true) :
    s.extinguishExpiry =
      (s.onRcs fun m =>
        { m with road := .isOpen, extinguish := none, budget := s.act.bmax.toNat, budgetTimer := none }).setWarn .dark := by
  unfold State.extinguishExpiry
  rw [if_neg (by simp [hs, hr, Option.isSome_iff_ne_none.1 he])]

/-- The entry gates are down, with no obstruction, and nothing holds the motors (R94). -/
def State.mayClear (s : State) : Prop :=
  (s.gate .w1).pos = .down ∧ (s.gate .w3).pos = .down ∧ (s.gate .w1).obstructed = false ∧ (s.gate .w3).obstructed = false ∧
    s.rcs.holding = false

/-- The clearing timer's expiry in CLEARING (R94). -/
theorem State.clearingExpiry_cases {s : State} {r : Ticks} (hs : s.rcs.suspended = false) (hr : s.rcs.road = .clearing)
    (hc : s.rcs.clearing = .running r) :
    (s.mayClear → s.clearingExpiry.rcs.road.lowering) ∧
      (¬ s.mayClear → s.clearingExpiry = s.onRcs fun m => { m with clearing := .expired }) := by
  have hexpiry : s.clearingExpiry = (s.onRcs fun m => { m with clearing := .expired }).advance := by
    simp only [State.clearingExpiry, hc, hs]
    rfl
  have hroad : (s.onRcs fun m => { m with clearing := .expired }).rcs.road = .clearing := hr
  have hlive : (s.onRcs fun m => { m with clearing := .expired }).rcs.live = !s.rcs.holding := by
    change (!s.rcs.suspended && !s.rcs.holding) = _
    rw [hs]
    rfl
  have hdone : (s.onRcs fun m => { m with clearing := .expired }).stepDone = true ↔
      ((s.gate .w1).pos = .down ∧ (s.gate .w1).obstructed = false) ∧ (s.gate .w3).pos = .down ∧ (s.gate .w3).obstructed = false := by
    simp [State.stepDone, State.stepGates, hr, Machine.stepGates, cmdPos, State.gate]
  rw [hexpiry]
  refine ⟨fun hm => ?_, fun hm => State.advance_stays fun hl => State.nextStep_of_not_done (Bool.eq_false_iff.2 fun hd => hm ?_)⟩
  · obtain ⟨hp1, hp3, ho1, ho3, hh⟩ := hm
    exact State.advance_clearing (by rw [hlive, hh]; rfl) hroad rfl (hdone.2 ⟨⟨hp1, ho1⟩, hp3, ho3⟩)
  · obtain ⟨⟨hp1, ho1⟩, hp3, ho3⟩ := hdone.1 hd
    rw [hlive] at hl
    exact ⟨hp1, hp3, ho1, ho3, by simpa using hl⟩

/-! ### The deck loops (R73, R94, R103) -/

/-- A deck loop's event, with the halt that a loop that becomes occupied brings. -/
theorem State.deck_taken {u w : State} {l : Fin 48} {level : Bool} (hl : l = 31 ∨ l = 32) (h : Qualified u l level w) :
    w.deliverLine l = if level then w.loopEvent else w.loopEvent.haltIn [.unlocking, .raising] := by
  rw [← h.line]
  obtain rfl | rfl := hl <;> rfl

theorem State.loopEvent_eq (s : State) :
    s.loopEvent =
      { s with
        rcs :=
          if s.rcs.road = .clearing then
            { s.rcs with
              clearing := if s.line 31 = true ∧ s.line 32 = true then .running (2880000 * s.act.tclear.toNat) else .stopped }
          else s.rcs } := by
  have hdeck : s.deckOccupied = true ↔ ¬ (s.line 31 = true ∧ s.line 32 = true) := by
    unfold State.deckOccupied
    cases s.line 31 <;> cases s.line 32 <;> simp
  unfold State.loopEvent
  split
  · by_cases hd : s.line 31 = true ∧ s.line 32 = true
    · rw [if_pos hd, State.armClearing, State.onRcs, if_neg fun h => hdeck.1 h hd]
      rfl
    · rw [if_neg hd, State.armClearing, State.onRcs, if_pos (hdeck.2 hd)]
  · rfl

theorem State.deck_qualifies {u w : State} {l : Fin 48} {level : Bool} (hl : l = 31 ∨ l = 32) (h : Qualified u l level w) :
    w.deliverLine l =
        { u with iq := (w.deliverLine l).iq, om := (w.deliverLine l).om, smc := (w.deliverLine l).smc, rcs := (w.deliverLine l).rcs,
                 mfs := (w.deliverLine l).mfs } ∧
      (w.deliverLine l).rcs = (if u.rcs.road = .clearing then
        { u.rcs with
          clearing := if (w.deliverLine l).line 31 = true ∧ (w.deliverLine l).line 32 = true then
            .running (2880000 * u.act.tclear.toNat) else .stopped }
       else u.rcs) ∧
      if level = true then SmcStands u (w.deliverLine l) else HaltsIn [.unlocking, .raising] u (w.deliverLine l) := by
  have hev := w.loopEvent_eq
  have hstands : SmcStands u w.loopEvent := by rw [hev]; exact h.stands
  have hpau : w.loopEvent.pau = u.pau := by rw [hev]; exact h.pau
  have hline : ∀ k, k ≠ l → w.loopEvent.line k = u.line k := fun k hk => by rw [hev]; exact h.other k hk
  have hoff : (w.deliverLine l).offDrive = w.loopEvent.offDrive := by
    rw [State.deck_taken hl h]
    split
    · rfl
    · exact State.haltIn_offDrive _ (by decide)
  have hrest := State.offDrive_eq hoff
  have hrcs : (w.deliverLine l).rcs = w.loopEvent.rcs := by rw [hrest]
  have hiq : (w.deliverLine l).iq = w.iq := by rw [hrest, hev]
  have hframe := h.frame (t := w.deliverLine l) (by rw [hrest, hev])
  refine ⟨?_, ?_, ?_⟩
  · have hpg : (w.deliverLine l).pg = u.pg := by
      rw [hrest, hev]
      exact h.pg
    have hpau' : (w.deliverLine l).pau = u.pau := by
      rw [hrest]
      exact hpau
    rw [hpg, hpau'] at hframe
    exact hframe
  · have hlines : ∀ k, (w.deliverLine l).line k = w.line k := fun k => by rw [State.line, State.line, hiq]
    rw [hrcs, hev, hlines, hlines, h.rcs, h.act]
  · rw [State.deck_taken hl h]
    cases level with
    | true => exact hstands
    | false =>
      refine State.haltIn_haltsIn (by decide) hstands hpau (hline 1 ?_) (hline 6 ?_) <;> obtain rfl | rfl := hl <;> decide

/-- Settles O45: the timers' expiries and the loops' events, each with what it takes the road to. -/
theorem roadStepTimersAdvanceTheRoad : Obligations.RoadStepTimersAdvanceTheRoad := by
  refine ⟨fun s hs => ⟨fun hr hp => ⟨fun hi => ?_, fun hi => ⟨_, rfl, ?_⟩⟩, fun hr ha => ⟨_, rfl, ?_⟩,
    fun r hr hc => ⟨_, rfl, ?_⟩, fun hr he => ⟨_, rfl, ?_⟩⟩, fun u lines lamps l level hl hq => ⟨_, rfl, ?_⟩,
    fun u lines lamps level hq => ⟨_, rfl, ?_⟩⟩
  · exact congrArg Host.Outcome.next ((State.prewarnExpiry_eq hs hr hp).trans (if_pos hi))
  · have hframe := (RoadRuns.refl (s0 := s)).prewarnExpiry.eq
    have hexpiry : s.prewarnExpiry = s.prewarned.enterEntryLowering :=
      (State.prewarnExpiry_eq hs hr hp).trans (if_neg (ne_of_eq_of_ne hi Bool.false_ne_true))
    obtain ⟨hroad, hprewarn, htraf⟩ := s.prewarned.enterEntryLowering_road
    rw [← hexpiry] at hroad hprewarn htraf
    refine ⟨hframe, hroad, hprewarn, htraf, fun g hg hh hd1 hd3 _ hz1 hz3 ho1 ho3 hpos => ?_⟩
    have hlive : s.prewarned.rcs.live = true := by
      change (!s.rcs.suspended && !s.rcs.holding) = true
      rw [hs, hh]
      rfl
    have hdrives := State.enterEntryLowering_drives (s := s.prewarned) hlive hd1 hd3 hz1 hz3 ho1 ho3 hg hpos
    rw [← hexpiry] at hdrives
    exact hdrives
  · have hexpiry := State.amberExpiry_eq hs hr ha
    have hframe := State.offSignals_eq (s := s) (t := s.amberExpiry) (by rw [hexpiry, State.setTraf_offSignals]; rfl)
    refine ⟨by rw [hexpiry, State.setTraf_rcs]; rfl, hframe⟩
  · obtain ⟨hgoes, hstays⟩ := State.clearingExpiry_cases hs hr hc
    split
    · next hm => exact ⟨(RoadRuns.refl (s0 := s)).clearingExpiry.eq, hgoes hm⟩
    · next hm => exact hstays hm
  · have hexpiry := State.extinguishExpiry_eq hs hr he
    have hframe := State.offSignals_eq (s := s) (t := s.extinguishExpiry) (by rw [hexpiry, State.setWarn_offSignals]; rfl)
    refine ⟨by rw [hexpiry, State.setWarn_rcs]; rfl, hframe⟩
  · obtain ⟨w, hw, hqual⟩ := State.sample_qualified lamps (by omega) (by omega) hq
    rw [hw]
    exact State.deck_qualifies hl hqual
  · obtain ⟨w, hw, hqual⟩ := State.sample_qualified lamps (by decide) (by decide) hq
    rw [hw]
    obtain ⟨hcause, hopens, hcloses⟩ := State.loop_qualifies hqual
    refine ⟨hcause, fun hf => ?_, hcloses⟩
    obtain ⟨hrcs, hgates⟩ := hopens hf
    refine ⟨hrcs, fun g => ⟨(hgates g).1, fun hs => ?_⟩⟩
    have hl := (hgates g).2 hs
    exact ⟨congrArg (·.1) hl, congrArg (·.2) hl⟩

end Sys2Proof.Machine
end

section
/-! SUPPORT. The report of a GATE fault: the suspension, and the halt that SMC takes (R73, R91, R98, R102). -/

namespace Sys2Proof.Machine

/-! ### The halt that a GATE fault brings (R73) -/

/-- The motion states that a GATE fault halts (R73). -/
abbrev gateHalts : List Motion := [.raising, .holding, .lowering, .seating]

theorem State.smcGateFault_holding {s : State} (h : s.smc.motion = .holding) : s.smcGateFault = s.enterHalted.holdingLeft := by
  simp [State.smcGateFault, State.haltIn, State.halt, h]

theorem State.smcGateFault_other {s : State} (h : s.smc.motion ≠ .holding) :
    s.smcGateFault = s.haltIn [.raising, .lowering, .seating] := by
  simp [State.smcGateFault, State.haltIn, h]

/-- A GATE fault that becomes ACTIVE, taken in a state whose span is that of `s` (R73, R158). -/
theorem State.smcGateFault_haltsIn {s u : State} (h : SmcStands s u) (hp : u.pau = s.pau) (h1 : u.line 1 = s.line 1)
    (h6 : u.line 6 = s.line 6) : HaltsIn gateHalts s u.smcGateFault := by
  by_cases hm : s.smc.motion = .holding
  · rw [State.smcGateFault_holding (h.motion.trans hm)]
    have hoff := u.enterHalted.holdingLeft_offChannel
    have hsmc : u.enterHalted.holdingLeft.smc = u.enterHalted.smc := State.offChannel_smc hoff
    refine ⟨fun _ => ⟨⟨by rw [hsmc]; rfl, fun w => ?_⟩, by rw [hsmc]; rfl, by rw [hsmc]; rfl, ?_⟩,
      fun hn => absurd ⟨hm, by decide⟩ hn⟩
    · rw [State.tower, hsmc]
      exact h.phase w
    · split
      · next ho =>
        obtain ⟨hcalled, hdecided⟩ := State.holdingLeft_calls (s := u.enterHalted) (by rw [← hp] at ho; exact ho)
        refine ⟨hcalled.of_pau ?_ rfl, hdecided⟩
        rw [← hp]
        rfl
      · next ho =>
        rw [State.holdingLeft_stays (by rw [← hp] at ho; exact ho)]
        exact hp
  · rw [State.smcGateFault_other (ne_of_eq_of_ne h.motion hm)]
    obtain ⟨-, hhalts⟩ := State.haltIn_haltsIn (l := [.raising, .lowering, .seating]) (by decide) h hp h1 h6
    obtain ⟨hpau, hhalts⟩ := hhalts fun hh => hm hh.1
    refine ⟨fun hh => absurd hh.1 hm, fun _ => ⟨hpau, ?_⟩⟩
    have hmem : s.smc.motion ∈ gateHalts ↔ s.smc.motion ∈ [Motion.raising, .lowering, .seating] := by simp [hm]
    simpa only [hmem] using hhalts

/-- What a GATE fault's halt leaves is read of SMC and of the channel. -/
theorem HaltsIn.of_gateReads {s t u : State} (h : HaltsIn gateHalts s t) (hsmc : u.smc = t.smc)
    (hreads : u.channelReads = t.channelReads) (hpau : u.pau = t.pau) : HaltsIn gateHalts s u := by
  have htower : ∀ w, u.tower w = t.tower w := fun w => by rw [State.tower, State.tower, hsmc]
  have hstands : SmcStands s t → SmcStands s u := fun k => by
    simpa only [SmcStands, hsmc, htower] using k
  refine ⟨fun hh => ?_, fun hn => ?_⟩
  · obtain ⟨⟨hm, hph⟩, hstop, htarget, hopen⟩ := h.1 hh
    refine ⟨⟨by rw [hsmc, hm], fun w => by rw [htower, hph]⟩, by rw [hsmc, hstop], by rw [hsmc, htarget], ?_⟩
    split
    · next ho =>
      rw [if_pos ho] at hopen
      exact ⟨hopen.1.of_pau rfl hpau, State.aspectsDecided_of_eq hreads hpau hopen.2⟩
    · next ho =>
      rw [if_neg ho] at hopen
      exact hpau.trans hopen
  · obtain ⟨hp, hhalts⟩ := h.2 hn
    refine ⟨hpau.trans hp, ?_⟩
    by_cases hin : s.smc.motion ∈ gateHalts
    · rw [if_pos hin] at hhalts ⊢
      cases hm : s.smc.motion <;> simp only [hm] at hhalts hin ⊢
      case raising | lowering | seating =>
        simpa only [HaltTaken, hsmc, htower, SmcStands] using hhalts
      case holding => exact absurd ⟨hm, by decide⟩ hn
      all_goals exact absurd hin (by decide)
    · rw [if_neg hin] at hhalts ⊢
      exact hstands hhalts

/-- A halt reports no fault but the comparisons' (R73, R77). -/
theorem State.smcGateFault_fault (s : State) {f : Fin 37} (hf : 9 < f.val) : s.smcGateFault.fault f = s.fault f := by
  have stops : (s.beginStop .halt).fault f = s.fault f := by
    obtain ⟨u, hstop, -, hmfs, ⟨tw, hsmc⟩, -⟩ := s.halt_stops
    have hrest : u.checkRest.mfs = u.mfs := by
      simp only [State.checkRest, show u.smc.stop = .halt by rw [hsmc]]
      split <;> rfl
    rw [hstop, u.checkRest.compare_looks.fault f (.inr hf), State.fault, State.fault, hrest, hmfs]
  by_cases hm : s.smc.motion = .holding
  · rw [State.smcGateFault_holding hm, State.fault, State.offChannel_mfs s.enterHalted.holdingLeft_offChannel]
    rfl
  · rw [State.smcGateFault_other hm, State.haltIn]
    split
    · next hin =>
      have hmoves : s.smc.motion = .raising ∨ s.smc.motion = .lowering ∨ s.smc.motion = .seating := by simpa using hin
      have hhalt : s.halt = s.beginStop .halt ∨ s.halt = s := by
        obtain h | h | h := hmoves <;> simp only [State.halt, h]
        all_goals split
        all_goals simp
      obtain h | h := hhalt <;> rw [h]
      exact stops
    · rfl

/-! ### The suspension (R102, R103) -/

/-- A change of the causes writes no more than RCS's gates and their commands. -/
theorem State.setCauses_offGates (s : State) (f : Rcs → Rcs) : (s.setCauses f).offGates = (s.onRcs f).offGates := by
  simp only [State.setCauses]
  split
  · rw [State.issueGates_offGates]; rfl
  · rfl

theorem State.setCauses_gate (s : State) {f : Rcs → Rcs} (hf : (f s.rcs).gates = s.rcs.gates) (g : Gate) :
    (s.setCauses f).gate g = s.gate g ∨ (s.setCauses f).gate g = { s.gate g with travel := none } := by
  have hgate : (s.onRcs f).gate g = s.gate g := by rw [State.gate, State.onRcs_rcs, hf]; rfl
  simp only [State.setCauses]
  split
  · refine .inr ?_
    rw [State.gate, State.issueGates_rcs]
    simp only [State.stopTravel, State.onRcs_rcs, hf]
    simp [State.gate]
  · exact .inl hgate

/-- RCS notes a GATE fault that is there: it is suspended, and every gate function goes off. -/
theorem State.noteGateFaults_off {s : State} (hf : s.gateFaulted = true)
    (h : s.rcs.suspended = false ∨ s.gateLines = fun _ => (false, false)) :
    s.noteGateFaults.rcs.causeGate = true ∧ s.noteGateFaults.gateLines = fun _ => (false, false) := by
  have hcause : s.noteGateFaults.rcs.causeGate = true := by
    rw [State.noteGateFaults, State.offGates_rcs (s.setCauses_offGates _)]
    exact hf
  refine ⟨hcause, ?_⟩
  cases hs : s.rcs.suspended with
  | false => exact (State.setCauses_suspends hs (by simp [Rcs.suspended, hf])).2
  | true =>
    rw [State.noteGateFaults, State.setCauses_stays hs, State.onRcs_gateLines]
    exact h.resolve_left (by simp [hs])

/-! ### The report (R98, R197) -/

theorem State.reportGate_enters {s : State} {g : Gate} (h : s.fault (gateFault g) ≠ .active) :
    s.reportGate g true = (s.reportFault (gateFault g) true).noteGateFaults.smcGateFault := by
  simp [State.reportGate, State.faultChanges, State.faultEnters, h]

theorem State.reportGate_latches {s : State} {g : Gate} (h : s.fault (gateFault g) = .active) :
    s.reportGate g false = (s.reportFault (gateFault g) false).noteGateFaults := by
  simp [State.reportGate, State.faultChanges, State.faultEnters, State.faultLatches, h]

theorem State.reportGate_stays {s : State} {g : Gate} {b : Bool} (h : b = true ↔ s.fault (gateFault g) = .active) :
    s.reportGate g b = s := by
  cases b <;> simp_all [State.reportGate, State.faultChanges, State.faultEnters, State.faultLatches]

theorem State.gateFaulted_of_fault {s : State} {g : Gate} (h : s.fault (gateFault g) ≠ .clear) : s.gateFaulted = true :=
  List.any_eq_true.2 ⟨g, Gate.mem_all g, by simpa using h⟩

/-- What a report of a GATE condition and the suspension that it may bring leave: the faults as reported, and nothing in SMC, in the
channel or of the lines. -/
structure GateNoted (s : State) (g : Gate) (b : Bool) (t : State) : Prop where
  fault : ∀ f, t.fault f = if gateFault g = f then (s.fault f).report b else s.fault f
  smc : t.smc = s.smc
  pau : t.pau = s.pau
  iq : t.iq = s.iq
  reads : t.channelReads = s.channelReads
  body : t.roadBody = s.roadBody
  gate : ∀ x, t.gate x = s.gate x ∨ t.gate x = { s.gate x with travel := none }

theorem State.noteGateFaults_noted (s : State) (g : Gate) (b : Bool) :
    GateNoted s g b (s.reportFault (gateFault g) b).noteGateFaults := by
  have hoff : (s.reportFault (gateFault g) b).noteGateFaults.offGates = ((s.reportFault (gateFault g) b).onRcs _).offGates :=
    State.setCauses_offGates _ _
  have hrest := State.offGates_eq hoff
  have hrcs := State.offGates_rcs hoff
  refine ⟨fun f => ?_, ?_, ?_, ?_, ?_, ?_, fun x => State.setCauses_gate _ rfl x⟩
  · rw [State.fault, hrest]
    refine (State.reportFault_fault s (gateFault g) f b).trans ?_
    split
    · next e => rw [e]
    · rfl
  · rw [hrest]; rfl
  · rw [hrest]; rfl
  · rw [hrest]; rfl
  · have hbudget : (s.reportFault (gateFault g) b).noteGateFaults.rcs.budget = s.rcs.budget := by rw [hrcs]; rfl
    simp only [State.channelReads, hbudget]
    rw [hrest]
    rfl
  · rw [State.noteGateFaults_roadBody, State.reportFault_roadBody]

end Sys2Proof.Machine
end

section
/-! SUPPORT. The travel timer and the GATE condition of SEALED (R73, R91, R98, R102). -/

namespace Sys2Proof.Machine

/-- The state in which a gate's travel timer has run out. -/
def State.gateStopped (s : State) (g : Gate) : State := (s.setGate g { s.gate g with cmd := .none, travel := none }).issueGate g

theorem State.travelExpiry_eq {s : State} {g : Gate} (h : (s.gate g).travel.isSome = true) :
    s.travelExpiry g = (s.gateStopped g).pulseGate g := by
  unfold State.travelExpiry
  exact if_neg (by simp [Option.isSome_iff_ne_none.1 h])

/-- What the GATE condition present and absent again brings (R91, R102). -/
structure GatePulsed (s : State) (g : Gate) (t : State) : Prop where
  fault : t.fault (gateFault g) = .latched
  cause : t.rcs.causeGate = true
  lines : t.gateLines = fun _ => (false, false)
  body : t.roadBody = s.roadBody
  gate : ∀ x, t.gate x = s.gate x ∨ t.gate x = { s.gate x with travel := none }
  stands : s.fault (gateFault g) = .active → t.smc = s.smc
  halts : s.fault (gateFault g) ≠ .active → HaltsIn gateHalts s t

/-- The GATE condition gone again, of a gate whose fault is ACTIVE. -/
theorem State.reportGate_latched {s : State} {g : Gate} (ha : s.fault (gateFault g) = .active)
    (h : s.rcs.suspended = false ∨ s.gateLines = fun _ => (false, false)) :
    GateNoted s g false (s.reportGate g false) ∧ (s.reportGate g false).fault (gateFault g) = .latched ∧
      (s.reportGate g false).rcs.causeGate = true ∧ (s.reportGate g false).gateLines = fun _ => (false, false) := by
  rw [State.reportGate_latches ha]
  have hnoted := s.noteGateFaults_noted g false
  have hfault : (s.reportFault (gateFault g) false).fault (gateFault g) = .latched := by
    rw [State.reportFault_fault, if_pos rfl, ha]
    rfl
  have hlines : (s.reportFault (gateFault g) false).gateLines = s.gateLines := (congrArg (·.2.2) (s.reportFault_lawView _ _) :)
  have hoff := State.noteGateFaults_off (s := s.reportFault (gateFault g) false)
    (State.gateFaulted_of_fault (g := g) (by rw [hfault]; decide)) (by rw [hlines]; exact h)
  refine ⟨hnoted, ?_, hoff⟩
  rw [hnoted.fault, if_pos rfl, ha]
  rfl

/-- The lines of a suspended RCS stay off at a halt. -/
theorem State.smcGateFault_linesOff {s : State} (hs : s.rcs.causeGate = true) (h : s.gateLines = fun _ => (false, false)) :
    s.smcGateFault.gateLines = fun _ => (false, false) := by
  have hkept := (RoadKept.refl (stay := True) s).haltIn gateHalts
  have hlive : s.rcs.live = false := by simp [Rcs.live, Rcs.suspended, hs]
  have hrcs : s.smcGateFault.rcs = s.rcs := State.rcs_of_offSpan s.smcGateFault_offSpan
  have hok : LinesOk s.smcGateFault.rcs.live s.smcGateFault.gateLines := hkept.gates (by simp [LinesOk, h])
  rw [hrcs, hlive] at hok
  exact funext fun g => Prod.ext ((hok g).2 rfl).1 ((hok g).2 rfl).2

theorem State.pulseGate_pulsed {s : State} (g : Gate) (hs : s.rcs.suspended = false) : GatePulsed s g (s.pulseGate g) := by
  by_cases ha : s.fault (gateFault g) = .active
  · have hpulse : s.pulseGate g = s.reportGate g false := by
      rw [State.pulseGate, State.reportGate_stays (b := true) (by simp [ha])]
    obtain ⟨hnoted, hfault, hcause, hlines⟩ := State.reportGate_latched ha (.inl hs)
    rw [hpulse]
    exact ⟨hfault, hcause, hlines, hnoted.body, hnoted.gate, fun _ => hnoted.smc, fun hn => absurd ha hn⟩
  · have henter := State.reportGate_enters ha
    have hnoted := s.noteGateFaults_noted g true
    have hactive : (s.reportFault (gateFault g) true).noteGateFaults.fault (gateFault g) = .active := by
      rw [hnoted.fault, if_pos rfl]
      rfl
    have hreported : (s.reportFault (gateFault g) true).fault (gateFault g) = .active := by
      rw [State.reportFault_fault, if_pos rfl]
      rfl
    obtain ⟨hcause, hlines⟩ := State.noteGateFaults_off (s := s.reportFault (gateFault g) true)
      (State.gateFaulted_of_fault (g := g) (by rw [hreported]; decide)) (.inl hs)
    generalize (s.reportFault (gateFault g) true).noteGateFaults = u at henter hnoted hactive hcause hlines
    have hstands : SmcStands s u := by
      have htower : ∀ w, u.tower w = s.tower w := fun w => by rw [State.tower, State.tower, hnoted.smc]
      exact ⟨by rw [hnoted.smc], fun w => by rw [htower]⟩
    have hline : ∀ l, u.line l = s.line l := fun l => by rw [State.line, State.line, hnoted.iq]
    have hhalts := State.smcGateFault_haltsIn hstands hnoted.pau (hline 1) (hline 6)
    have hfault : u.smcGateFault.fault (gateFault g) = .active := by
      rw [State.smcGateFault_fault u (by simp [gateFault]; omega), hactive]
    have hrcs : u.smcGateFault.rcs = u.rcs := State.rcs_of_offSpan u.smcGateFault_offSpan
    obtain ⟨hlast, hlatched, hcause', hlines'⟩ := State.reportGate_latched hfault
      (.inr (State.smcGateFault_linesOff hcause hlines))
    rw [State.pulseGate, henter]
    refine ⟨hlatched, hcause', hlines', ?_, fun x => ?_, fun hn => absurd hn ha, fun _ =>
      hhalts.of_gateReads hlast.smc hlast.reads hlast.pau⟩
    · rw [hlast.body, State.smcGateFault_roadBody, hnoted.body]
    · have hgate : u.smcGateFault.gate x = u.gate x := by rw [State.gate, State.gate, hrcs]
      obtain h1 | h1 := hnoted.gate x <;> obtain h2 | h2 := hlast.gate x <;> rw [hgate, h1] at h2 <;> simp [h2]

/-- A report of a GATE condition, taken in a state whose span and channel are those of `s` (R73, R98, R102). -/
theorem State.reportGate_reported {s u : State} (g : Gate) (b : Bool) (h : SmcStands s u) (hp : u.pau = s.pau)
    (h1 : u.line 1 = s.line 1) (h6 : u.line 6 = s.line 6) :
    (u.reportGate g b).fault (gateFault g) = (u.fault (gateFault g)).report b ∧
      if (u.reportGate g b).fault (gateFault g) = .active ∧ u.fault (gateFault g) ≠ .active then
        (u.reportGate g b).rcs.causeGate = true ∧ HaltsIn gateHalts s (u.reportGate g b)
      else SmcStands s (u.reportGate g b) := by
  have stands : ∀ t : State, t.smc = u.smc → SmcStands s t := fun t ht => by
    have htower : ∀ w, t.tower w = u.tower w := fun w => by rw [State.tower, State.tower, ht]
    simpa only [SmcStands, ht, htower] using h
  have hnoted := u.noteGateFaults_noted g b
  have hfault : (u.reportFault (gateFault g) b).noteGateFaults.fault (gateFault g) = (u.fault (gateFault g)).report b := by
    rw [hnoted.fault, if_pos rfl]
  by_cases ha : u.fault (gateFault g) = .active
  · rw [if_neg fun hc => hc.2 ha]
    cases b with
    | true =>
      rw [State.reportGate_stays (b := true) (by simp [ha]), ha]
      exact ⟨rfl, h⟩
    | false =>
      rw [State.reportGate_latches ha]
      exact ⟨hfault, stands _ hnoted.smc⟩
  · cases b with
    | false =>
      rw [State.reportGate_stays (b := false) (by simp [ha]), if_neg fun hc => ha hc.1]
      refine ⟨?_, h⟩
      cases hv : u.fault (gateFault g) <;> simp_all [FaultValue.report]
    | true =>
      rw [State.reportGate_enters ha]
      have hreported : (u.reportFault (gateFault g) true).fault (gateFault g) = .active := by
        rw [State.reportFault_fault, if_pos rfl]
        rfl
      have hcause : (u.reportFault (gateFault g) true).noteGateFaults.rcs.causeGate = true := by
        rw [State.noteGateFaults, State.offGates_rcs (State.setCauses_offGates _ _)]
        exact State.gateFaulted_of_fault (g := g) (by rw [hreported]; decide)
      have hrcs := State.rcs_of_offSpan (u.reportFault (gateFault g) true).noteGateFaults.smcGateFault_offSpan
      have hline : ∀ l, (u.reportFault (gateFault g) true).noteGateFaults.line l = u.line l := fun l => by
        rw [State.line, State.line, hnoted.iq]
      have hhalts := State.smcGateFault_haltsIn (stands _ hnoted.smc) (hnoted.pau.trans hp) ((hline 1).trans h1) ((hline 6).trans h6)
      rw [State.smcGateFault_fault _ (by simp [gateFault]; omega), hfault, if_pos ⟨rfl, ha⟩]
      exact ⟨rfl, by rw [hrcs]; exact hcause, hhalts⟩

end Sys2Proof.Machine
end

section
/-! SUPPORT. What a gate's own events make of it: its proving, its zone and its settle timer (R90, R94 to R96). -/

namespace Sys2Proof.Machine

/-! ### One gate's record and lines -/

/-- From `s` to `t` one gate's record and lines change, and nothing else but commands. -/
structure GateOnly (g : Gate) (s t : State) : Prop where
  rest : t.offGates = s.offGates
  other : ∀ x, x ≠ g → t.atGate x = s.atGate x

namespace GateOnly

variable {g : Gate} {s t u : State}

theorem refl (g : Gate) (s : State) : GateOnly g s s := ⟨rfl, fun _ _ => rfl⟩

theorem trans (h : GateOnly g s t) (k : GateOnly g t u) : GateOnly g s u :=
  ⟨k.rest.trans h.rest, fun x hx => (k.other x hx).trans (h.other x hx)⟩

theorem setGate (g : Gate) (s : State) (r : GateRec) : GateOnly g s (s.setGate g r) :=
  ⟨rfl, fun x hx => by rw [State.setGate_atGate, if_neg (Ne.symm hx)]⟩

theorem setIssue (g : Gate) (s : State) (r : GateRec) : GateOnly g s ((s.setGate g r).issueGate g) :=
  ⟨rfl, fun x hx => by rw [State.setIssue_atGate, if_neg (Ne.symm hx)]⟩

theorem drives {l : List (Gate × GateCmd)} {F : Gate → GateCmd → GateRec × Bool × Bool} (h : Drives F l s t)
    (hl : ∀ x ∈ l, x.1 = g) : GateOnly g s t :=
  ⟨h.rest, fun x hx => h.other x fun hm => by
    obtain ⟨y, hy, rfl⟩ := List.mem_map.1 hm
    exact hx (hl y hy)⟩

variable (h : GateOnly g s t)
include h

theorem live : t.rcs.live = s.rcs.live := State.offGates_live h.rest
theorem ticks : t.travelTicks = s.travelTicks := by rw [State.travelTicks, State.offGates_act h.rest]; rfl
theorem zoneClear (x : Gate) : t.zoneClear x = s.zoneClear x := State.offGates_zoneClear h.rest x
theorem isDisplaced (f : Fin 40) : t.isDisplaced f = s.isDisplaced f := State.offGates_isDisplaced h.rest f
theorem road : t.rcs.road = s.rcs.road := by rw [State.offGates_rcs h.rest]
theorem phase : t.rcs.phase = s.rcs.phase := by rw [State.offGates_rcs h.rest]
theorem stepGates : t.stepGates = s.stepGates := by rw [State.stepGates, h.road, h.phase]; rfl

end GateOnly

/-- A gate driven alone (R90, R95). -/
theorem State.driveGates_one {s : State} {l : List (Gate × GateCmd)} {g : Gate} (hl : ∀ x ∈ l, x.1 = g)
    (hn : (l.map Prod.fst).Nodup)
    (hb : ∀ c, (g, c) ∈ l → s.rcs.live = true → some (s.gate g).pos ≠ cmdPos (s.driveTarget g c) →
      s.isDisplaced (gateFnFor g (s.driveTarget g c)) = false) :
    GateOnly g s (s.driveGates l) ∧ ((∀ c, (g, c) ∈ l → (s.driveGates l).atGate g = s.drivenTo g c) ∧
      (l = [] → (s.driveGates l).atGate g = s.atGate g)) := by
  have hd := State.driveGates_drives (s := s) hn fun x hx => by
    obtain ⟨y, c⟩ := x
    obtain rfl : y = g := hl _ hx
    exact hb c hx
  exact ⟨GateOnly.drives hd hl, fun c hc => hd.asked g c hc, fun he => hd.other g (by simp [he])⟩

/-! ### An obstructed gate at the top (R96) -/

/-- The record of a gate that is to come down again. -/
def GateRec.freed (r : GateRec) : GateRec := { r with obstructed := false, settle := .stopped }

theorem State.lowerAgain_drives {s : State} {g : Gate} (hz : s.zoneClear g = true)
    (hd : s.rcs.live = true → s.isDisplaced (gateDownFn g) = false) :
    GateOnly g s (s.lowerAgain g) ∧
      (s.lowerAgain g).atGate g =
        ((s.gate g).freed.moved s.rcs.live s.travelTicks .down, ((s.gate g).freed.moved s.rcs.live s.travelTicks .down).lines s.rcs.live) := by
  have hset := GateOnly.setGate g s (s.gate g).freed
  have hgate : (s.setGate g (s.gate g).freed).gate g = (s.gate g).freed := by rw [State.setGate_gate, if_pos rfl]
  have htarget : (s.setGate g (s.gate g).freed).driveTarget g .down = .down := by
    rw [State.driveTarget_eq, hgate, hset.zoneClear, hz]
    simp [GateRec.target, GateRec.freed]
  obtain ⟨honly, hat, -⟩ := State.driveGates_one (s := s.setGate g (s.gate g).freed) (l := [(g, .down)]) (g := g) (by simp) (by simp)
    fun c hc hl _ => by
      obtain rfl : c = .down := by simpa using hc
      rw [htarget, hset.isDisplaced]
      exact hd hl
  refine ⟨hset.trans honly, (hat .down (by simp)).trans ?_⟩
  rw [State.drivenTo, hgate, hset.zoneClear, hz, hset.live, hset.ticks, GateRec.driven_calm rfl]

/-- The gate is commanded DOWN, with a fresh travel timer where the motors may run. -/
theorem GateRec.moved_down {r : GateRec} (h : r.pos = .up) (live : Bool) (time : Ticks) :
    r.moved live time .down = { r with cmd := .down, travel := if live then some time else none } := by
  rw [GateRec.moved, if_neg (by simp [h, cmdPos])]

/-! ### A gate's proving (R90, R94) -/

/-- A gate's record shows its commanded position. -/
def GateRec.reached (r : GateRec) : Prop := r.cmd ≠ .none ∧ some r.pos = cmdPos r.cmd

/-- A gate that reaches its commanded position stops where the motors may run (R90). -/
def State.gateArrived (s : State) (g : Gate) : State :=
  if s.rcs.live && (s.gate g).cmd ≠ .none && some (s.gate g).pos = cmdPos (s.gate g).cmd then
    (s.setGate g { s.gate g with cmd := .none, travel := none }).issueGate g
  else s

/-- The drive that the step asks of a gate, in the list that the gate's proving event drives (R90, R94). -/
def State.ownSteps (s : State) (g : Gate) (was : GatePos) : List (Gate × GateCmd) :=
  s.stepGates.filter fun x => x.1 = g && (s.rcs.live || s.keptAt g x.2 was)

theorem State.mem_ownSteps {s : State} {g : Gate} {was : GatePos} {x : Gate × GateCmd} :
    x ∈ s.ownSteps g was ↔ x ∈ s.stepGates ∧ x.1 = g ∧ (s.rcs.live = true ∨ s.keptAt g x.2 was = true) := by
  simp [State.ownSteps, List.mem_filter]

theorem State.ownSteps_nodup (s : State) (g : Gate) (was : GatePos) : ((s.ownSteps g was).map Prod.fst).Nodup :=
  (stepGates_nodup s.rcs.road s.rcs.phase).sublist (List.filter_sublist.map _)

theorem State.gateMoved_eq (s : State) (g : Gate) (was : GatePos) :
    s.gateMoved g was =
      if ((s.gateArrived g).gate g).obstructed && ((s.gateArrived g).gate g).settle = .expired && (s.gate g).pos = .up then
        (s.gateArrived g).lowerAgain g
      else if ((s.gateArrived g).gate g).cmd = .none then
        (s.gateArrived g).driveGates ((s.gateArrived g).ownSteps g was)
      else s.gateArrived g := rfl

theorem State.gateArrived_only (s : State) (g : Gate) : GateOnly g s (s.gateArrived g) := by
  unfold State.gateArrived
  split
  · exact .setIssue g s _
  · exact .refl g s

theorem State.gateArrived_reached {s : State} {g : Gate} (hl : s.rcs.live = true) (h : (s.gate g).reached) :
    (s.gateArrived g).atGate g = ({ s.gate g with cmd := .none, travel := none }, false, false) := by
  rw [State.gateArrived, if_pos (by simp [hl, h.1, h.2]), State.setIssue_atGate, if_pos rfl]
  simp [GateRec.lines]

theorem State.gateArrived_stays {s : State} {g : Gate} (h : s.rcs.live = true → ¬ (s.gate g).reached) : s.gateArrived g = s := by
  refine if_neg fun hc => ?_
  simp only [Bool.and_eq_true, decide_eq_true_eq] at hc
  exact h hc.1.1 ⟨hc.1.2, hc.2⟩

/-- Whether it arrives or not, a gate is where it was, as obstructed as it was. -/
theorem State.gateArrived_gate (s : State) (g : Gate) :
    (s.gateArrived g).gate g = s.gate g ∨ (s.gateArrived g).gate g = { s.gate g with cmd := .none, travel := none } := by
  unfold State.gateArrived
  split
  · refine .inr ?_
    rw [State.issueGate_gate, State.setGate_gate, if_pos rfl]
  · exact .inl rfl

/-- A gate whose proving changes, with the motors free and nothing in its way: it stops where it was sent, and is driven where its
step asks it to be (R90, R94). -/
structure GateMoves (g : Gate) (s t : State) : Prop where
  only : GateOnly g s t
  asked : ∀ c, (g, c) ∈ s.stepGates → (s.gate g).cmd = .none ∨ (s.gate g).reached →
    t.atGate g = ((s.gate g).moved true s.travelTicks c, ((s.gate g).moved true s.travelTicks c).lines true)
  arrived : (∀ c, (g, c) ∉ s.stepGates) → (s.gate g).reached →
    t.atGate g = ({ s.gate g with cmd := .none, travel := none }, false, false)
  proofs : (t.gate g).pos = (s.gate g).pos ∧ (t.gate g).obstructed = (s.gate g).obstructed

theorem GateRec.moved_cleared (r : GateRec) (live : Bool) (time : Ticks) (c : GateCmd) :
    ({ r with cmd := .none, travel := none } : GateRec).moved live time c = r.moved live time c := by
  unfold GateRec.moved
  split <;> rfl

theorem State.gateMoved_moves {s : State} {g : Gate} (hf : s.Free) (ho : (s.gate g).obstructed = false) (hz : s.zoneClear g = true)
    (was : GatePos) : GateMoves g s (s.gateMoved g was) := by
  have honly := s.gateArrived_only g
  have hgate := s.gateArrived_gate g
  have harrived := State.gateArrived_reached (g := g) hf.live
  have hmoved := s.gateMoved_eq g was
  generalize s.gateArrived g = v at honly hgate harrived hmoved
  have hobs : (v.gate g).obstructed = false := by obtain h | h := hgate <;> rw [h] <;> exact ho
  have hpos : (v.gate g).pos = (s.gate g).pos := by obtain h | h := hgate <;> rw [h]
  have hlive : v.rcs.live = true := honly.live.trans hf.live
  rw [if_neg (by simp [hobs])] at hmoved
  by_cases hc : (v.gate g).cmd = .none
  · rw [if_pos hc] at hmoved
    have hmem : ∀ x, x ∈ v.ownSteps g was ↔ x ∈ s.stepGates ∧ x.1 = g := fun x => by
      simp [State.mem_ownSteps, hlive, honly.stepGates]
    obtain ⟨hdrive, hasked, hidle⟩ := State.driveGates_one (s := v) (g := g) (fun x hx => ((hmem x).1 hx).2)
      (v.ownSteps_nodup g was) fun _ _ _ _ => (honly.isDisplaced _).trans (hf.undisplaced _)
    rw [← hmoved] at hdrive hasked hidle
    have hto : ∀ c, (g, c) ∈ s.stepGates →
        (s.gateMoved g was).atGate g =
          ((s.gate g).moved true s.travelTicks c, ((s.gate g).moved true s.travelTicks c).lines true) := fun c hin => by
      have hrec : (v.gate g).moved true v.travelTicks c = (s.gate g).moved true s.travelTicks c := by
        rw [honly.ticks]
        obtain h | h := hgate <;> rw [h]
        rw [GateRec.moved_cleared]
      rw [hasked c ((hmem _).2 ⟨hin, rfl⟩), State.drivenTo, honly.zoneClear, hz, hlive, GateRec.driven_calm hobs, hrec]
    have hnot : (∀ c, (g, c) ∉ s.stepGates) → (s.gateMoved g was).atGate g = v.atGate g := fun hn =>
      hidle (List.eq_nil_iff_forall_not_mem.2 fun x hx => by
        obtain ⟨y, c⟩ := x
        obtain ⟨hin, rfl⟩ := (hmem _).1 hx
        exact hn c hin)
    refine ⟨honly.trans hdrive, fun c hin _ => hto c hin, fun hn hr => (hnot hn).trans (harrived hr), ?_⟩
    by_cases hex : ∃ c, (g, c) ∈ s.stepGates
    · obtain ⟨c, hin⟩ := hex
      have hrec : (s.gateMoved g was).gate g = (s.gate g).moved true s.travelTicks c := congrArg (·.1) (hto c hin)
      rw [hrec]
      simp
    · have hrec : (s.gateMoved g was).gate g = v.gate g := congrArg (·.1) (hnot fun c hin => hex ⟨c, hin⟩)
      rw [hrec]
      exact ⟨hpos, hobs.trans ho.symm⟩
  · rw [if_neg hc] at hmoved
    have hnone : ¬ ((s.gate g).cmd = .none ∨ (s.gate g).reached) := by
      rintro (h | h)
      · obtain e | e := hgate
        · exact hc (by rw [e]; exact h)
        · exact hc (by rw [e])
      · exact hc (congrArg (·.1.cmd) (harrived h))
    rw [hmoved]
    exact ⟨honly, fun c _ h => absurd h hnone, fun _ h => absurd (.inr h) hnone, hpos, hobs.trans ho.symm⟩

/-- A gate whose proving changes while RCS is suspended or holding: the drive that its step asks for is recorded alone (R90, R94,
R103). -/
theorem State.gateMoved_waits {s : State} {g : Gate} {was : GatePos} (hl : s.rcs.live = false) (ho : (s.gate g).obstructed = false) :
    (∀ c, (g, c) ∈ s.stepGates → cmdPos c = some was → (s.gate g).cmd = .none →
      (s.gateMoved g was).atGate g = s.drivenTo g c) ∧
      ((s.gate g).cmd ≠ .none → s.gateMoved g was = s) := by
  have hmoved := s.gateMoved_eq g was
  rw [State.gateArrived_stays (g := g) (by simp [hl]), if_neg (by simp [ho])] at hmoved
  refine ⟨fun c hin hc hnone => ?_, fun hnone => by rw [hmoved, if_neg hnone]⟩
  rw [hmoved, if_pos hnone]
  refine (State.driveGates_one (s := s) (g := g) (fun x hx => (State.mem_ownSteps.1 hx).2.1) (s.ownSteps_nodup g was)
    fun _ _ hlive _ => ?_).2.1 c (State.mem_ownSteps.2 ⟨hin, rfl, .inr ?_⟩)
  · rw [hl] at hlive
    cases hlive
  · simp [State.keptAt, ho, hc]

/-- The marked gate comes down when it becomes up-proven with its zone clear (R96). -/
theorem State.gateMoved_lowers {s : State} {g : Gate} {was : GatePos} (ho : (s.gate g).obstructed = true)
    (he : (s.gate g).settle = .expired) (hp : (s.gate g).pos = .up) (hz : s.zoneClear g = true)
    (hd : ∀ f, s.isDisplaced f = false) :
    GateOnly g s (s.gateMoved g was) ∧
      (s.gateMoved g was).atGate g =
        ({ s.gate g with obstructed := false, settle := .stopped, cmd := .down,
                         travel := if s.rcs.live then some s.travelTicks else none }, s.rcs.live, false) := by
  have honly := s.gateArrived_only g
  have hgate := s.gateArrived_gate g
  have hmoved := s.gateMoved_eq g was
  generalize s.gateArrived g = v at honly hgate hmoved
  have hstill : (v.gate g).obstructed = true ∧ (v.gate g).settle = .expired := by
    obtain h | h := hgate <;> rw [h] <;> exact ⟨ho, he⟩
  rw [if_pos (by simp [hstill, hp])] at hmoved
  obtain ⟨hdrive, hat⟩ := State.lowerAgain_drives (s := v) (g := g) ((honly.zoneClear g).trans hz)
    fun _ => (honly.isDisplaced _).trans (hd _)
  rw [hmoved]
  refine ⟨honly.trans hdrive, hat.trans ?_⟩
  have hup : (v.gate g).freed.pos = .up := by
    obtain h | h := hgate <;> rw [h] <;> exact hp
  have hrec : (v.gate g).freed.moved v.rcs.live v.travelTicks .down =
      { s.gate g with obstructed := false, settle := .stopped, cmd := .down,
                      travel := if s.rcs.live then some s.travelTicks else none } := by
    rw [GateRec.moved_down hup, honly.live, honly.ticks]
    obtain h | h := hgate <;> rw [h] <;> rfl
  rw [hrec, honly.live]
  simp [GateRec.lines]

end Sys2Proof.Machine
end

section
/-! The gates' travel timers, settle timers, provings and zones (R73, R90, R91, R94 to R99, R102, R103). -/

namespace Sys2Proof.Machine

theorem Rcs.live_iff (r : Rcs) : r.live = true ↔ r.suspended = false ∧ r.holding = false := by simp [Rcs.live]

theorem Rcs.live_eq_false_iff (r : Rcs) : r.live = false ↔ r.suspended = true ∨ r.holding = true := by
  rw [← Bool.not_eq_true, Rcs.live_iff]
  cases r.suspended <;> simp

/-! ### The travel timer (R91) -/

/-- The expiry of a gate's travel timer, with RCS not suspended. -/
theorem State.travelExpiry_faults {s : State} {g : Gate} (ht : (s.gate g).travel.isSome = true) (hs : s.rcs.suspended = false) :
    ((s.travelExpiry g).gate g).cmd = .none ∧ ((s.travelExpiry g).gate g).travel = none ∧
      (s.travelExpiry g).fault (gateFault g) = .latched ∧ (s.travelExpiry g).rcs.causeGate = true ∧
      (if s.fault (gateFault g) = .active then SmcStands s (s.travelExpiry g) else HaltsIn gateHalts s (s.travelExpiry g)) ∧
      (s.travelExpiry g).rcs.road = s.rcs.road ∧ (s.travelExpiry g).gateLines = fun _ => (false, false) := by
  have hpulsed : GatePulsed (s.gateStopped g) g (s.travelExpiry g) := by
    rw [State.travelExpiry_eq ht]
    exact State.pulseGate_pulsed g hs
  have hgate : (s.gateStopped g).gate g = { s.gate g with cmd := .none, travel := none } := by
    rw [State.gateStopped, State.issueGate_gate, State.setGate_gate, if_pos rfl]
  have hroad := State.roadBody_road hpulsed.body
  have hsmc : (s.gateStopped g).smc = s.smc := rfl
  generalize s.travelExpiry g = t at hpulsed hroad
  refine ⟨?_, ?_, hpulsed.fault, hpulsed.cause, ?_, hroad, hpulsed.lines⟩
  · obtain h | h := hpulsed.gate g <;> rw [h, hgate]
  · obtain h | h := hpulsed.gate g <;> rw [h, hgate]
  · split
    · next ha =>
      have ht := (hpulsed.stands ha).trans hsmc
      have htower : ∀ w, t.tower w = s.tower w := fun w => by rw [State.tower, State.tower, ht]
      exact ⟨by rw [ht], fun w => by rw [htower]⟩
    · next ha => exact hpulsed.halts ha

/-! ### The settle timer (R96) -/

theorem State.settleExpiry_marks {s : State} {g : Gate} {r : Ticks} (h : (s.gate g).settle = .running r) (hp : (s.gate g).pos ≠ .up) :
    s.settleExpiry g = s.setGate g { s.gate g with settle := .expired } := by
  simp only [State.settleExpiry, h]
  exact if_neg hp

/-- The settle timer of a gate at the top, with its zone clear: the gate comes down again. -/
theorem State.settleExpiry_lowers {s : State} {g : Gate} {r : Ticks} (h : (s.gate g).settle = .running r) (hp : (s.gate g).pos = .up)
    (hz : s.zoneClear g = true) (hd : s.rcs.live = true → s.isDisplaced (gateDownFn g) = false) :
    GateOnly g s (s.settleExpiry g) ∧
      (s.settleExpiry g).atGate g =
        ({ s.gate g with obstructed := false, settle := .stopped, cmd := .down,
                         travel := if s.rcs.live then some s.travelTicks else none }, s.rcs.live, false) := by
  have hexpiry : s.settleExpiry g = s.lowerAgain g := by
    simp only [State.settleExpiry, h]
    exact if_pos hp
  obtain ⟨honly, hat⟩ := State.lowerAgain_drives hz hd
  rw [hexpiry]
  refine ⟨honly, hat.trans ?_⟩
  rw [GateRec.moved_down (show (s.gate g).freed.pos = .up from hp)]
  simp [GateRec.lines, GateRec.freed]

/-! ### The zones (R95, R96) -/

/-- A zone that becomes occupied under a gate going DOWN sends the gate UP, obstructed. -/
theorem State.zoneEvent_rises {s : State} {g : Gate} (hz : s.zoneClear g = false) (ho : (s.gate g).obstructed = false)
    (hc : (s.gate g).cmd = .down)
    (hd : s.rcs.live = true → (s.gate g).pos ≠ .up → s.isDisplaced (gateUpFn g) = false) :
    GateOnly g s (s.zoneEvent g) ∧
      ∀ r : GateRec, r = { s.gate g with obstructed := true, settle := .stopped } →
        (s.zoneEvent g).atGate g = (r.moved s.rcs.live s.travelTicks .up, (r.moved s.rcs.live s.travelTicks .up).lines s.rcs.live) := by
  have hset := GateOnly.setGate g s { s.gate g with obstructed := true, settle := .stopped }
  have hgate : (s.setGate g { s.gate g with obstructed := true, settle := .stopped }).gate g =
      { s.gate g with obstructed := true, settle := .stopped } := by rw [State.setGate_gate, if_pos rfl]
  have hevent : s.zoneEvent g = (s.setGate g { s.gate g with obstructed := true, settle := .stopped }).driveGates [(g, .up)] := by
    simp only [State.zoneEvent, hz, ho, hc]
    rfl
  generalize s.setGate g { s.gate g with obstructed := true, settle := .stopped } = v at hset hgate hevent
  obtain ⟨honly, hat, -⟩ := State.driveGates_one (s := v) (l := [(g, .up)]) (g := g) (by simp) (by simp) fun c hm hl hp => by
    obtain rfl : c = .up := by simpa using hm
    rw [State.driveTarget_eq, hgate] at hp ⊢
    rw [hset.isDisplaced]
    exact hd (hset.live ▸ hl) (by simpa [GateRec.target, cmdPos] using hp)
  rw [hevent]
  refine ⟨hset.trans honly, fun r hr => (hat .up (by simp)).trans ?_⟩
  have hdriven : ∀ live time zone, r.driven live time zone .up = r.moved live time .up := fun live time zone => by
    simp [GateRec.driven, GateRec.flagged, GateRec.target]
  rw [State.drivenTo, hgate, ← hr, hdriven, hset.live, hset.ticks]

/-! ### The provings (R89, R90, R94, R98) -/

/-- The state in which a gate's new position has been written. -/
def State.provedAt (s : State) (g : Gate) : State := s.setGate g { s.gate g with pos := s.provenPos g }

theorem State.provingEvent_sealed {s : State} (g : Gate) (h : s.rcs.road = .sealed) :
    s.provingEvent g = (s.provedAt g).reportGate g (decide (s.provenPos g ≠ .down)) := by
  have hpos : ((s.provedAt g).gate g).pos = s.provenPos g := by rw [State.provedAt, State.setGate_gate, if_pos rfl]
  rw [← hpos]
  exact if_pos h

theorem State.provingEvent_moves {s : State} (g : Gate) (h : s.rcs.road ≠ .sealed) :
    s.provingEvent g = ((s.provedAt g).gateMoved g (s.gate g).pos).advance := if_neg h

/-- A gate's proving event, taken by RCS alone. -/
theorem State.proving_taken {w : State} {g : Gate} {l : Fin 48} (hl : l = gateUpLine g ∨ l = gateDownLine g) :
    w.deliverLine l = w.provingEvent g := by
  obtain rfl | rfl := hl <;> cases g <;> rfl

theorem State.zone_taken {w : State} {g : Gate} {l : Fin 48}
    (hl : (g, l) ∈ [(Gate.w1, (27 : Fin 48)), (.w2, 28), (.w3, 29), (.w4, 30)]) :
    w.deliverLine l = w.zoneEvent g ∧ w.zoneClear g = w.line l := by
  simp only [List.mem_cons, Prod.mk.injEq, List.not_mem_nil, or_false] at hl
  obtain ⟨rfl, rfl⟩ | ⟨rfl, rfl⟩ | ⟨rfl, rfl⟩ | ⟨rfl, rfl⟩ := hl <;> exact ⟨rfl, rfl⟩

/-- While RCS is suspended or holding, a gate's proving reaches its own record alone. -/
theorem State.gateMoved_only {s : State} (hl : s.rcs.live = false) (g : Gate) (was : GatePos) : GateOnly g s (s.gateMoved g was) := by
  have free : ∀ (l : List (Gate × GateCmd)) (u : State), GateOnly g s u → (∀ x ∈ l, x.1 = g) → (l.map Prod.fst).Nodup →
      GateOnly g s (u.driveGates l) := fun l u hu hg hn =>
    hu.trans (State.driveGates_one hg hn fun _ _ hlive _ => by
      rw [hu.live, hl] at hlive
      cases hlive).1
  rw [State.gateMoved_eq, State.gateArrived_stays (by simp [hl])]
  split
  · exact free _ _ (.setGate g s _) (by simp) (by simp)
  · split
    · exact free _ s (.refl g s) (fun x hx => (State.mem_ownSteps.1 hx).2.1) (s.ownSteps_nodup g was)
    · exact .refl g s

/-- `v` is `s` with the gate's new position `p`, as far as RCS reads it. -/
structure ProvedAt (s v : State) (g : Gate) (p : GatePos) : Prop where
  gate : v.gate g = { s.gate g with pos := p }
  other : ∀ x, x ≠ g → v.gate x = s.gate x
  live : v.rcs.live = s.rcs.live
  road : v.rcs.road = s.rcs.road
  phase : v.rcs.phase = s.rcs.phase
  clearing : v.rcs.clearing = s.rcs.clearing
  zone : ∀ x, v.zoneClear x = s.zoneClear x
  displaced : ∀ f, v.isDisplaced f = s.isDisplaced f
  ticks : v.travelTicks = s.travelTicks

theorem ProvedAt.stepGates {s v : State} {g : Gate} {p : GatePos} (h : ProvedAt s v g p) : v.stepGates = s.stepGates := by
  rw [State.stepGates, h.road, h.phase]
  rfl

theorem Qualified.provedAt {s w : State} {l : Fin 48} {b : Bool} (h : Qualified s l b w) {g : Gate}
    (hl : l = gateUpLine g ∨ l = gateDownLine g) : ProvedAt s (w.provedAt g) g (w.provenPos g) := by
  have hline : l.val < 27 ∨ 30 < l.val := .inl (by obtain rfl | rfl := hl <;> cases g <;> decide)
  have hgate : ∀ x, (w.provedAt g).gate x = if g = x then { w.gate g with pos := w.provenPos g } else w.gate x := fun x =>
    w.setGate_gate g x _
  have hrcs : (w.provedAt g).rcs = { s.rcs with gates := (w.provedAt g).rcs.gates } := by
    rw [← h.rcs]
    rfl
  refine ⟨by rw [hgate, if_pos rfl, h.gate], fun x hx => by rw [hgate, if_neg (Ne.symm hx), h.gate], ?_, by rw [hrcs], by rw [hrcs],
    by rw [hrcs], fun x => h.zoneClear hline x, h.isDisplaced, ?_⟩
  · rw [hrcs]
    rfl
  · rw [State.travelTicks, State.travelTicks, ← h.act]
    rfl

/-- The position that a proving event leaves. -/
theorem State.proved_pos {w : State} {g : Gate} {l : Fin 48} (hl : l = gateUpLine g ∨ l = gateDownLine g) :
    ((w.deliverLine l).gate g).pos = w.provenPos g :=
  (w.deliverLine_poses l g).trans (if_pos ((provedGate_eq_some g l).2 hl))

/-- A gate's proving in SEALED is its GATE condition (R98). -/
theorem Qualified.proves_sealed {s w : State} {l : Fin 48} {b : Bool} (h : Qualified s l b w) {g : Gate}
    (hl : l = gateUpLine g ∨ l = gateDownLine g) (hr : s.rcs.road = .sealed) :
    (w.deliverLine l).rcs.road = .sealed ∧
      (w.deliverLine l).fault (gateFault g) =
        (s.fault (gateFault g)).report (decide (((w.deliverLine l).gate g).pos ≠ .down)) ∧
      if (w.deliverLine l).fault (gateFault g) = .active ∧ s.fault (gateFault g) ≠ .active then
        (w.deliverLine l).rcs.causeGate = true ∧ HaltsIn gateHalts s (w.deliverLine l)
      else SmcStands s (w.deliverLine l) := by
  have hroad : w.rcs.road = .sealed := by rw [h.rcs, hr]
  have hline : ∀ k : Fin 48, k = 1 ∨ k = 6 → w.line k = s.line k := fun k hk => h.other k (by
    obtain rfl | rfl := hl <;> obtain rfl | rfl := hk <;> cases g <;> decide)
  have hfault : w.fault (gateFault g) = s.fault (gateFault g) := h.looks.fault _ (.inr (by simp only [gateFault]; omega))
  have hreport := State.reportGate_reported (s := s) (u := w.provedAt g) g (decide (w.provenPos g ≠ .down)) h.stands h.pau
    (hline 1 (.inl rfl)) (hline 6 (.inr rfl))
  have hbody := (w.provedAt g).reportGate_roadBody g (decide (w.provenPos g ≠ .down))
  rw [show (w.provedAt g).fault (gateFault g) = s.fault (gateFault g) from hfault] at hreport
  rw [State.proved_pos hl, State.proving_taken hl, State.provingEvent_sealed g hroad]
  exact ⟨(State.roadBody_road hbody).trans hroad, hreport⟩

/-- A gate's record at its commanded position, as the statement has it. -/
theorem GateRec.reached_iff (r : GateRec) : r.reached ↔ (r.cmd = .down ∧ r.pos = .down) ∨ (r.cmd = .up ∧ r.pos = .up) := by
  unfold GateRec.reached
  cases r.cmd <;> simp [cmdPos]

/-- A gate's proving with the motors free and nothing in the gate's way (R90, R94, R97, R99). -/
theorem Qualified.proves_free {s w : State} {l : Fin 48} {b : Bool} (h : Qualified s l b w) {g : Gate}
    (hl : l = gateUpLine g ∨ l = gateDownLine g) (hr : s.rcs.road ≠ .sealed) (hf : s.Free) (ho : (s.gate g).obstructed = false)
    (hz : s.zoneClear g = true) (t : State) (ht : t = w.deliverLine l) (r : GateRec) (hrec : r = { s.gate g with pos := (t.gate g).pos }) :
    (r.reached → (∀ c, (g, c) ∈ s.stepGates → cmdPos c = some (t.gate g).pos) →
      (t.rcs.road, t.rcs.phase) = (s.rcs.road, s.rcs.phase) →
      (t.gate g).cmd = .none ∧ (t.gate g).travel = none ∧ t.gateLines g = (false, false)) ∧
    (∀ c p, (g, c) ∈ s.stepGates → cmdPos c = some p → (s.gate g).cmd = .none ∨ r.reached → (t.gate g).pos ≠ p →
      t.atGate g = ({ r with cmd := c, travel := some s.travelTicks }, decide (c = .down), decide (c = .up))) ∧
    (t.rcs.road, t.rcs.phase) =
      roadPast (fun x => (t.gate x).pos) (fun x => (s.gate x).obstructed) (s.rcs.clearing = .expired) s.rcs.road s.rcs.phase := by
  have hv := h.provedAt hl
  have hpos : (t.gate g).pos = w.provenPos g := by rw [ht, State.proved_pos hl]
  have htake : t = ((w.provedAt g).gateMoved g (w.gate g).pos).advance := by
    rw [ht, State.proving_taken hl, State.provingEvent_moves g (by rwa [h.rcs])]
  rw [← hpos] at hv
  generalize w.provedAt g = v at hv htake
  have hvf : v.Free := ⟨hv.live.trans hf.live, fun f => (hv.displaced f).trans (hf.undisplaced f)⟩
  have hmoves := State.gateMoved_moves (s := v) hvf (by rw [hv.gate]; exact ho) ((hv.zone g).trans hz) (w.gate g).pos
  generalize v.gateMoved g (w.gate g).pos = m at hmoves htake
  obtain ⟨honly, hasked, harrived, hproofs⟩ := hmoves
  have hmf : m.Free := ⟨honly.live.trans hvf.live, fun f => (honly.isDisplaced f).trans (hvf.undisplaced f)⟩
  have hadvance := State.advance_advanced hmf
  rw [← htake] at hadvance
  have hmr : (m.rcs.road, m.rcs.phase) = (s.rcs.road, s.rcs.phase) := by
    rw [honly.road, honly.phase, hv.road, hv.phase]
  rw [hv.gate, ← hrec, hv.ticks, hv.stepGates] at hasked
  rw [hv.gate, ← hrec, hv.stepGates] at harrived
  have hcmd : r.cmd = (s.gate g).cmd := by rw [hrec]
  have hrpos : r.pos = (t.gate g).pos := by rw [hrec]
  refine ⟨fun hreach hat hroad => ?_, fun c p hin hc hstop hoff => ?_, ?_⟩
  · obtain rfl : t = m := hadvance.stays (hroad.trans hmr.symm)
    have hstopped : t.atGate g = ({ r with cmd := .none, travel := none }, false, false) := by
      by_cases hex : ∃ c, (g, c) ∈ s.stepGates
      · obtain ⟨c, hin⟩ := hex
        have hmoved : r.moved true s.travelTicks c = { r with cmd := .none, travel := none } :=
          if_pos (by rw [hat c hin, hrpos])
        rw [hasked c hin (.inr hreach), hmoved]
        simp [GateRec.lines]
      · exact harrived (fun c hin => hex ⟨c, hin⟩) hreach
    exact ⟨congrArg (·.1.cmd) hstopped, congrArg (·.1.travel) hstopped, congrArg (·.2) hstopped⟩
  · have hto := hasked c hin (by rw [hcmd]; exact hstop)
    have hmoved : r.moved true s.travelTicks c = { r with cmd := c, travel := some s.travelTicks } :=
      if_neg (by rw [hc, hrpos]; simpa using hoff)
    rw [hmoved] at hto
    have hstays : t = m := by
      rw [htake]
      refine State.advance_of_off (g := g) (c := c) (by rw [honly.stepGates, hv.stepGates]; exact hin) ?_
      rw [show (m.gate g).pos = r.pos from congrArg (·.1.pos) hto, hc, hrpos]
      simpa using hoff
    rw [hstays, hto]
    simp [GateRec.lines]
  · have hposes : ∀ x, (t.gate x).pos = (m.gate x).pos := congrFun (State.poses_of_offRoad (by rw [htake]; simp))
    have hobs : ∀ x, (m.gate x).obstructed = (s.gate x).obstructed := fun x => by
      by_cases hx : x = g
      · subst hx
        rw [hproofs.2, hv.gate]
      · rw [show m.gate x = v.gate x from congrArg (·.1) (honly.other x hx), hv.other x hx]
    have hclearing : m.rcs.clearing = s.rcs.clearing := by rw [State.offGates_rcs honly.rest, ← hv.clearing]
    have hpast := hadvance.road
    simp only [State.past, hclearing, honly.road, honly.phase, hv.road, hv.phase] at hpast
    simp only [hposes, hpast, ← hobs]

/-- The marked gate that becomes up-proven comes down again (R96). -/
theorem Qualified.proves_lowers {s w : State} {l : Fin 48} {b : Bool} (h : Qualified s l b w) {g : Gate}
    (hl : l = gateUpLine g ∨ l = gateDownLine g) (hr : s.rcs.road ≠ .sealed) (hd : ∀ f, s.isDisplaced f = false)
    (hin : (g, .down) ∈ s.stepGates) (ho : (s.gate g).obstructed = true) (he : (s.gate g).settle = .expired)
    (hz : s.zoneClear g = true) (t : State) (ht : t = w.deliverLine l) (hup : (t.gate g).pos = .up) :
    t.atGate g =
        ({ s.gate g with cmd := .down, pos := .up, obstructed := false, settle := .stopped,
                         travel := if s.rcs.live then some s.travelTicks else none }, s.rcs.live, false) ∧
      t.rcs.road = s.rcs.road := by
  have hv := h.provedAt hl
  have hpos : w.provenPos g = .up := by rw [← State.proved_pos hl, ← ht, hup]
  have htake : t = ((w.provedAt g).gateMoved g (w.gate g).pos).advance := by
    rw [ht, State.proving_taken hl, State.provingEvent_moves g (by rwa [h.rcs])]
  rw [hpos] at hv
  generalize w.provedAt g = v at hv htake
  obtain ⟨honly, hat⟩ := State.gateMoved_lowers (s := v) (g := g) (was := (w.gate g).pos) (by rw [hv.gate]; exact ho)
    (by rw [hv.gate]; exact he) (by rw [hv.gate]) ((hv.zone g).trans hz) fun f => (hv.displaced f).trans (hd f)
  generalize v.gateMoved g (w.gate g).pos = m at honly hat htake
  rw [hv.gate, hv.live, hv.ticks] at hat
  have hstays : t = m := by
    rw [htake]
    refine State.advance_of_off (g := g) (c := .down) (by rw [honly.stepGates, hv.stepGates]; exact hin) ?_
    rw [show (m.gate g).pos = .up from congrArg (·.1.pos) hat]
    decide
  rw [hstays, hat]
  exact ⟨rfl, honly.road.trans hv.road⟩

/-- A gate's proving while RCS is suspended or holding (R90, R94, R103). -/
theorem Qualified.proves_waits {s w : State} {l : Fin 48} {b : Bool} (h : Qualified s l b w) {g : Gate}
    (hl : l = gateUpLine g ∨ l = gateDownLine g) (hr : s.rcs.road ≠ .sealed) (hlive : s.rcs.live = false) (t : State)
    (ht : t = w.deliverLine l) :
    t.rcs.road = s.rcs.road ∧ t.rcs.phase = s.rcs.phase ∧
      (∀ c p, (g, c) ∈ s.stepGates → cmdPos c = some p → (s.gate g).cmd = .none → (s.gate g).obstructed = false →
        (s.gate g).pos = p → (t.gate g).pos ≠ p →
        (c = .up ∨ s.zoneClear g = true → t.gate g = { s.gate g with cmd := c, pos := (t.gate g).pos, travel := none }) ∧
        (c = .down → s.zoneClear g = false → (t.gate g).pos ≠ .up →
          t.gate g = { s.gate g with cmd := .up, pos := (t.gate g).pos, travel := none, obstructed := true, settle := .stopped }) ∧
        t.gateLines g = (false, false)) ∧
      ((s.gate g).cmd ≠ .none → (s.gate g).obstructed = false → t.gate g = { s.gate g with pos := (t.gate g).pos }) := by
  have hv := h.provedAt hl
  have hpos : (t.gate g).pos = w.provenPos g := by rw [ht, State.proved_pos hl]
  have htake : t = ((w.provedAt g).gateMoved g (w.gate g).pos).advance := by
    rw [ht, State.proving_taken hl, State.provingEvent_moves g (by rwa [h.rcs])]
  rw [← hpos] at hv
  rw [h.gate] at htake
  generalize w.provedAt g = v at hv htake
  have hvl : v.rcs.live = false := hv.live.trans hlive
  have honly := State.gateMoved_only hvl g (s.gate g).pos
  have hstays : t = v.gateMoved g (s.gate g).pos := by
    rw [htake]
    refine State.advance_stays fun hl => ?_
    rw [honly.live, hvl] at hl
    cases hl
  refine ⟨by rw [hstays, honly.road, hv.road], by rw [hstays, honly.phase, hv.phase],
    fun c p hin hc hcmd ho hp hoff => ?_, fun hcmd ho => ?_⟩
  · obtain ⟨hwaits, -⟩ := State.gateMoved_waits (s := v) (g := g) (was := (s.gate g).pos) hvl (by rw [hv.gate]; exact ho)
    have hat := hwaits c (by rw [hv.stepGates]; exact hin) (by rw [hc, hp]) (by rw [hv.gate]; exact hcmd)
    rw [← hstays, State.drivenTo, hv.gate, hvl, hv.zone] at hat
    generalize hq : (t.gate g).pos = q at hat hoff ⊢
    have hrec : t.gate g = ({ s.gate g with pos := q } : GateRec).driven false v.travelTicks (s.zoneClear g) c :=
      congrArg (·.1) hat
    refine ⟨fun hclear => ?_, ?_, (congrArg (·.2) hat).trans (by simp [GateRec.lines])⟩
    · have htarget : ({ s.gate g with pos := q } : GateRec).target (s.zoneClear g) c = c := by
        obtain rfl | hclear := hclear <;> simp [GateRec.target, *]
      have hflag : ({ s.gate g with pos := q } : GateRec).flagged (s.zoneClear g) c = { s.gate g with pos := q } := by
        rw [GateRec.flagged, htarget, if_neg]
        cases c <;> simp
      rw [hrec, GateRec.driven, hflag, htarget, GateRec.moved, if_neg (by rw [hc]; simpa using hoff)]
      rfl
    · rintro rfl hclear hup
      have hdown : p = .down := by simpa [cmdPos] using hc.symm
      have htarget : ({ s.gate g with pos := q } : GateRec).target (s.zoneClear g) .down = .up := by
        rw [hdown] at hoff
        simp [GateRec.target, hclear, hoff]
      have hflag : ({ s.gate g with pos := q } : GateRec).flagged (s.zoneClear g) .down =
          { s.gate g with pos := q, obstructed := true, settle := .stopped } := by
        rw [GateRec.flagged, htarget, if_pos (by simp [ho])]
      rw [hrec, GateRec.driven, hflag, htarget, GateRec.moved, if_neg (by simpa [cmdPos] using hup)]
      rfl
  · obtain ⟨-, hstands⟩ := State.gateMoved_waits (s := v) (g := g) (was := (s.gate g).pos) hvl (by rw [hv.gate]; exact ho)
    rw [hstands (by rw [hv.gate]; exact hcmd)] at hstays
    rw [hstays, hv.gate]

/-! ### The zones at a sampling instant (R95, R96) -/

theorem State.zoneEvent_obstructed {s : State} {g : Gate} (ho : (s.gate g).obstructed = true) :
    (s.zoneEvent g).gate g =
      { s.gate g with settle := if s.zoneClear g then .running (2880000 * s.act.settleTime.toNat) else .stopped } := by
  unfold State.zoneEvent
  cases s.zoneClear g <;> simp [ho, State.setGate_gate]
  rfl

theorem State.zoneEvent_stays {s : State} {g : Gate} (ho : (s.gate g).obstructed = false)
    (h : s.zoneClear g = true ∨ (s.gate g).cmd ≠ .down) : s.zoneEvent g = s := by
  unfold State.zoneEvent
  obtain h | h := h
  · simp [h, ho]
  · cases s.zoneClear g <;> simp [h, ho]

/-- A zone that becomes occupied under a gate going DOWN (R95), as the state before the instant sees it. -/
theorem Qualified.zone_rises {s w : State} {l : Fin 48} {g : Gate} (h : Qualified s l false w)
    (hl : (g, l) ∈ [(Gate.w1, (27 : Fin 48)), (.w2, 28), (.w3, 29), (.w4, 30)]) (ho : (s.gate g).obstructed = false)
    (hc : (s.gate g).cmd = .down) (hd : s.rcs.live = true → (s.gate g).pos ≠ .up → s.isDisplaced (gateUpFn g) = false)
    (t : State) (ht : t = w.deliverLine l) :
    t.atGate g =
        (if (s.gate g).pos = .up then
          ({ s.gate g with cmd := .none, obstructed := true, settle := .stopped, travel := none }, false, false)
        else
          ({ s.gate g with cmd := .up, obstructed := true, settle := .stopped,
                           travel := if s.rcs.live then some s.travelTicks else none }, false, s.rcs.live)) ∧
      t.rcs.road = s.rcs.road := by
  obtain ⟨htake, hzone⟩ := State.zone_taken (w := w) hl
  obtain ⟨honly, hat⟩ := State.zoneEvent_rises (s := w) (g := g) (by rw [hzone, h.line]) (by rw [h.gate]; exact ho)
    (by rw [h.gate]; exact hc) (by rw [h.rcs, h.gate, h.isDisplaced]; exact hd)
  have hticks : w.travelTicks = s.travelTicks := by rw [State.travelTicks, State.travelTicks, h.act]
  have hto := hat _ rfl
  rw [h.gate, h.rcs, hticks] at hto
  rw [ht, htake]
  refine ⟨hto.trans ?_, honly.road.trans (by rw [h.rcs])⟩
  split
  · next hp => simp [GateRec.moved, GateRec.lines, hp, cmdPos]
  · next hp => simp [GateRec.moved, GateRec.lines, hp, cmdPos]

/-- Settles O46: each event of a gate, with what it leaves of the gate and of the road. -/
theorem gateTimersFaultOrLowerAgain : Obligations.GateTimersFaultOrLowerAgain := by
  intro s g
  refine ⟨fun ht hs => ⟨_, rfl, ?_⟩, fun r hg hr => ⟨fun hp => ?_, fun hp hz hd hs hh => ⟨_, rfl, ?_⟩,
    fun hp hz hs => ⟨_, rfl, ?_⟩⟩, fun lines lamps l level hl hq => ?_, fun lines lamps l level hl hq => ?_⟩
  · obtain ⟨hcmd, htravel, hfault, hcause, hsmc, hroad, hlines⟩ := State.travelExpiry_faults ht hs
    exact ⟨((RoadRuns.refl (s0 := s)).travelExpiry g).eq, hcmd, htravel, hfault, hcause, hsmc, hroad,
      fun x => ⟨congrArg (·.1) (congrFun hlines x), congrArg (·.2) (congrFun hlines x)⟩⟩
  · exact congrArg Host.Outcome.next (State.settleExpiry_marks hr hp)
  · have hlive : s.rcs.live = true := (Rcs.live_iff _).2 ⟨hs, hh⟩
    obtain ⟨honly, hat⟩ := State.settleExpiry_lowers hr hp hz fun _ => hd
    rw [hlive] at hat
    exact ⟨congrArg (·.1) hat, congrArg (·.2.1) hat, congrArg (·.2.2) hat, State.offGates_eq honly.rest⟩
  · have hlive : s.rcs.live = false := (Rcs.live_eq_false_iff _).2 hs
    obtain ⟨honly, hat⟩ := State.settleExpiry_lowers hr hp hz fun h => absurd (h.symm.trans hlive) (by decide)
    rw [hlive] at hat
    exact ⟨congrArg (·.1) hat, congrArg (·.2.1) hat, congrArg (·.2.2) hat, State.offGates_eq honly.rest⟩
  · obtain ⟨w, hw, hqual⟩ := State.sample_qualified lamps (by obtain rfl | rfl := hl <;> cases g <;> decide)
      (by obtain rfl | rfl := hl <;> cases g <;> decide) hq
    have hexec : exec (.samplingInstant lines lamps) s = .next (w.deliverLine l) := congrArg Host.Outcome.next hw
    refine ⟨fun hr => ⟨_, hexec, hqual.proves_sealed hl hr⟩, fun hr hs hh hd ho hz => ⟨_, hexec, ?_⟩,
      fun hr hd hin ho he hz => ⟨_, hexec, fun hup => ?_⟩, fun hr hs => ⟨_, hexec, ?_⟩⟩
    · have hfree : s.Free := ⟨(Rcs.live_iff _).2 ⟨hs, hh⟩, hd⟩
      obtain ⟨hstops, hdrives, hroad⟩ := hqual.proves_free hl hr hfree ho hz _ rfl _ rfl
      refine ⟨fun hreach hat hstays => ?_, fun c p hin hc hstop hoff => ?_, hroad⟩
      · obtain ⟨hcmd, htravel, hlines⟩ := hstops ((GateRec.reached_iff _).2 hreach) hat hstays
        exact ⟨hcmd, htravel, congrArg (·.1) hlines, congrArg (·.2) hlines⟩
      · have hat := hdrives c p hin hc (hstop.imp_right (GateRec.reached_iff _).2) hoff
        exact ⟨congrArg (·.1) hat, congrArg (·.2.1) hat, congrArg (·.2.2) hat⟩
    · obtain ⟨hat, hroad⟩ := hqual.proves_lowers hl hr hd hin ho he hz _ rfl hup
      exact ⟨congrArg (·.1) hat, congrArg (·.2.1) hat, congrArg (·.2.2) hat, hroad⟩
    · obtain ⟨hroad, hphase, hwaits, hstands⟩ := hqual.proves_waits hl hr ((Rcs.live_eq_false_iff _).2 hs) _ rfl
      refine ⟨hroad, hphase, fun c p hin hc hcmd ho hp hoff => ?_, hstands⟩
      obtain ⟨hclear, hrises, hlines⟩ := hwaits c p hin hc hcmd ho hp hoff
      exact ⟨hclear, hrises, congrArg (·.1) hlines, congrArg (·.2) hlines⟩
  · have hrange : l.val < 45 ∧ l.val ≠ 35 := by
      simp only [List.mem_cons, Prod.mk.injEq, List.not_mem_nil, or_false] at hl
      obtain ⟨-, rfl⟩ | ⟨-, rfl⟩ | ⟨-, rfl⟩ | ⟨-, rfl⟩ := hl <;> decide
    obtain ⟨w, hw, hqual⟩ := State.sample_qualified lamps hrange.1 hrange.2 hq
    have hexec : exec (.samplingInstant lines lamps) s = .next (w.deliverLine l) := congrArg Host.Outcome.next hw
    obtain ⟨htake, hzone⟩ := State.zone_taken (w := w) hl
    have hgate := hqual.gate g
    rw [hqual.line] at hzone
    have occupied : (s.gate g).obstructed = true → (w.deliverLine l).gate g =
        { s.gate g with settle := if level then .running (2880000 * s.act.settleTime.toNat) else .stopped } := fun ho => by
      rw [htake, State.zoneEvent_obstructed (by rw [hgate]; exact ho), hgate, hzone, hqual.act]
    have idle : (s.gate g).obstructed = false → level = true ∨ (s.gate g).cmd ≠ .down → (w.deliverLine l).gate g = s.gate g :=
      fun ho h => by rw [htake, State.zoneEvent_stays (by rw [hgate]; exact ho) (by rwa [hzone, hgate]), hgate]
    refine ⟨fun hv => ⟨_, hexec, ?_⟩, fun hv ho => ⟨_, hexec, ?_⟩, fun hv ho hc hp => ⟨_, hexec, ?_⟩,
      fun hv ho hc hp hs hh hd => ⟨_, hexec, ?_⟩, fun hv ho hc hp hs => ⟨_, hexec, ?_⟩⟩
    · subst hv
      split
      · next ho => exact occupied ho
      · next ho => exact idle (by simpa using ho) (.inl rfl)
    · subst hv
      split
      · next hobs => exact occupied hobs
      · next hobs => exact idle (by simpa using hobs) (.inr (ho.resolve_left hobs))
    · subst hv
      obtain ⟨hat, hroad⟩ := hqual.zone_rises hl ho hc (fun _ hn => absurd hp hn) _ rfl
      rw [if_pos hp] at hat
      exact ⟨congrArg (·.1) hat, congrArg (·.2.1) hat, congrArg (·.2.2) hat, hroad⟩
    · subst hv
      have hlive : s.rcs.live = true := (Rcs.live_iff _).2 ⟨hs, hh⟩
      obtain ⟨hat, hroad⟩ := hqual.zone_rises hl ho hc (fun _ _ => hd) _ rfl
      rw [if_neg hp, hlive] at hat
      exact ⟨congrArg (·.1) hat, congrArg (·.2.1) hat, congrArg (·.2.2) hat, hroad⟩
    · subst hv
      have hlive : s.rcs.live = false := (Rcs.live_eq_false_iff _).2 hs
      obtain ⟨hat, hroad⟩ := hqual.zone_rises hl ho hc (fun h => absurd (h.symm.trans hlive) (by decide)) _ rfl
      rw [if_neg hp, hlive] at hat
      exact ⟨congrArg (·.1) hat, congrArg (·.2.1) hat, congrArg (·.2.2) hat, hroad⟩

end Sys2Proof.Machine
end
